-- ==== Sys2Proof/Word.lean ====
section
/-! DEFINITION. The word types of the module and the names of its places.
Widths are those the manual gives (R10: bit 0 is the least significant bit of every field). -/

namespace Sys2Proof

abbrev Byte := BitVec 8
abbrev W16 := BitVec 16
abbrev W32 := BitVec 32
abbrev W64 := BitVec 64
/-- A vector register: lane `l` is bits `32*l + 31 .. 32*l` (R123). -/
abbrev VecReg := BitVec 8192
/-- A predicate: bit `l` governs lane `l` (R63). -/
abbrev Pred := BitVec 256

/-- A core on the virtual grid: cluster id (R15) and cluster-local index `2 * (r mod 4) + (c mod 2)` (R82). -/
structure CoreRef where
  k : Fin 100
  i : Fin 8
  deriving DecidableEq, Repr

/-- The place of a core in tables kept per core. -/
def CoreRef.ix (c : CoreRef) : Nat := 8 * c.k.val + c.i.val

/-- A Caliskig port: 0 XP, 1 XN, 2 YP, 3 YN, 4 ZP, 5 ZN, 6 SA, 7 SB. -/
abbrev Port := Fin 8

/-- A sparse table: (index, value) pairs over a named default. `Machine.SMap` operations keep it in canonical form. -/
abbrev SMap (α : Type) := List (Nat × α)

end Sys2Proof
end

