-- ==== Sys2Proof/Machine/Bits.lean ====
section
/-! DEFINITION. Bit fields, byte order (R10) and sparse tables, the helpers every operation uses. -/

namespace Sys2Proof

/-- Bits `hi` to `lo` of `x` as a number. -/
def fld {n : Nat} (x : BitVec n) (hi lo : Nat) : Nat := x.toNat / 2 ^ lo % 2 ^ (hi + 1 - lo)

/-- Bit `i` of `x`. -/
def bitOf {n : Nat} (x : BitVec n) (i : Nat) : Bool := x.getLsbD i

/-- `x` with bits `hi` to `lo` replaced by the low bits of `v`. -/
def putFld {n : Nat} (x : BitVec n) (hi lo v : Nat) : BitVec n :=
  BitVec.ofNat n (x.toNat - fld x hi lo * 2 ^ lo + v % 2 ^ (hi + 1 - lo) * 2 ^ lo)

/-- Bits `hi` to `lo` of the number `x`. -/
def nfld (x hi lo : Nat) : Nat := x / 2 ^ lo % 2 ^ (hi + 1 - lo)

/-- A Boolean as the bit it is stored as. -/
def b2n (b : Bool) : Nat := if b then 1 else 0

/-- The value `x` of `n` bits read as two's complement. -/
def toSigned (n x : Nat) : Int := if x < 2 ^ (n - 1) then (x : Int) else (x : Int) - 2 ^ n

/-- The low `n` bits of an integer in two's complement. -/
def wrapInt (n : Nat) (x : Int) : Nat := (x % (2 ^ n : Nat)).toNat

/-- The number a list of bytes spells, least significant byte first (R10). -/
def leNat : List Byte → Nat
  | [] => 0
  | b :: bs => b.toNat + 256 * leNat bs

/-- The `n` bytes of `x`, least significant first (R10). -/
def leBytes : Nat → Nat → List Byte
  | 0, _ => []
  | n + 1, x => BitVec.ofNat 8 x :: leBytes n (x / 256)

/-- The number a list of bytes spells, most significant byte first (SHA-256, AES and P-256 use this order). -/
def beNat (bs : List Byte) : Nat := bs.foldl (fun a b => a * 256 + b.toNat) 0

/-- The `n` bytes of `x`, most significant first. -/
def beBytes (n x : Nat) : List Byte := (leBytes n x).reverse

def ceilDiv (a b : Nat) : Nat := (a + b - 1) / b

/-- Base 2 logarithm, rounded down; 0 for 0. -/
def log2Nat (n : Nat) : Nat := n.log2

namespace SMap
variable {α : Type}

/-- The value at index `k`; `d` where the table lists none. -/
def get (d : α) : SMap α → Nat → α
  | [], _ => d
  | (k', v) :: m, k => if k = k' then v else get d m k

/-- List `v` at index `k` in a table with rising indices, in place of what stood there. -/
def ins : SMap α → Nat → α → SMap α
  | [], k, v => [(k, v)]
  | (k', v') :: m, k, v =>
    if k < k' then (k, v) :: (k', v') :: m
    else if k = k' then (k, v) :: m
    else (k', v') :: ins m k v

/-- Set index `k` to `v`, keeping indices strictly rising and listing nothing equal to the default. -/
def set [DecidableEq α] (d : α) (m : SMap α) (k : Nat) (v : α) : SMap α :=
  if v = d then m.filter (fun p => p.1 != k) else ins m k v

/-- The canonical form: indices strictly rising, no entry equal to the default. -/
abbrev Wf (d : α) (m : SMap α) : Prop :=
  m.Pairwise (fun a b => a.1 < b.1) ∧ ∀ p ∈ m, p.2 ≠ d

/-- Change the value at one index. -/
def upd [DecidableEq α] (d : α) (m : SMap α) (k : Nat) (f : α → α) : SMap α := set d m k (f (get d m k))

/-- Write a run of values from index `k` up. -/
def setRun [DecidableEq α] (d : α) : SMap α → Nat → List α → SMap α
  | m, _, [] => m
  | m, k, v :: vs => setRun d (set d m k v) (k + 1) vs

/-- Read `n` values from index `k` up. -/
def getRun (d : α) (m : SMap α) (k : Nat) : Nat → List α
  | 0 => []
  | n + 1 => get d m k :: getRun d m (k + 1) n

/-- Drop the entries with indices from `lo` up to, not including, `hi`. -/
def clearRange (m : SMap α) (lo hi : Nat) : SMap α := m.filter (fun p => p.1 < lo || hi ≤ p.1)

end SMap

/-- A byte memory in canonical form; its pairs are `Host.Cell`s. -/
abbrev Mem := SMap Byte

/-- `n` bytes of a memory whose unlisted bytes read 0. -/
def Mem.read (m : Mem) (a n : Nat) : List Byte := SMap.getRun 0#8 m a n

/-- Write bytes from address `a` up. -/
def Mem.write (m : Mem) (a : Nat) (bs : List Byte) : Mem := SMap.setRun 0#8 m a bs

/-- The number stored in `n` bytes at `a`, little-endian. -/
def Mem.readNat (m : Mem) (a n : Nat) : Nat := leNat (m.read a n)

/-- Store the low `n` bytes of `x` at `a`, little-endian. -/
def Mem.writeNat (m : Mem) (a n x : Nat) : Mem := m.write a (leBytes n x)

/-- Replace the element of a list at place `i`. -/
def listSet {α : Type} (l : List α) (i : Nat) (x : α) : List α := l.set i x

/-- The elements of a list with their places. -/
def withIx {α : Type} (l : List α) : List (Nat × α) := (List.range l.length).zip l

/-- Remove the first element that satisfies `f`. -/
def dropFirst {α : Type} (f : α → Bool) : List α → List α
  | [] => []
  | x :: xs => if f x then xs else x :: dropFirst f xs

/-- Insert into a list kept in the order of `key`, after equal keys. -/
def insertBy {α : Type} (key : α → Nat) (x : α) : List α → List α
  | [] => [x]
  | y :: ys => if key x < key y then x :: y :: ys else y :: insertBy key x ys

/-- Sort by a key, keeping the order of equal keys. -/
def sortByKey {α : Type} (key : α → Nat) (l : List α) : List α := l.foldl (fun acc x => insertBy key x acc) []

/-- Apply `f` to the numbers from 0 to `n - 1` in order, threading a state. -/
def iter {σ : Type} (n : Nat) (s : σ) (f : Nat → σ → σ) : σ := (List.range n).foldl (fun s i => f i s) s

end Sys2Proof
end

