-- ==== Sys2Proof/Syntax.lean ====
section
/-! DEFINITION. The commands of the block: one constructor per row of spec/opcode_table.json.
Rows of core instructions carry the core and the fields of their encoding; rows of events carry the unit at which the event
comes about and what the outside contributes to it; rows of mailbox commands carry the channel they come by. -/

namespace Sys2Proof

/-- Where a mailbox command comes from (R282, R285): a Porch pair, whose latched block it is, or a management connection with
the 256-byte block it carries. -/
inductive Src where
  | porch (pair : Fin 4)
  | mgmt (conn : Fin 4) (block : BitVec 2048)
  deriving DecidableEq, Repr

/-- What a Barrin transaction asks (R279): a write or a read of the Porch of `size` bytes at an offset, or none of the two. Its header
names it; the manual does not give the header's layout. -/
inductive BarrinOp where
  | write (off : W16) (size : Nat)
  | read (off : W16) (size : Nat)
  | other
  deriving DecidableEq, Repr

/-- A certificate as its DER bytes read (R373, R386; log 18): subject key X ‖ Y, subject serialNumber, the digest that it signs, its
signature r ‖ s, validity in seconds of the time counter, the bytes themselves. -/
structure Cert where
  key  : BitVec 512
  name : List Byte
  tbs  : BitVec 256
  sig  : BitVec 512
  start : Nat
  stop : Nat
  der  : List Byte
  deriving DecidableEq, Repr

/-- What a client brings to a management handshake (R386): offered version, suites, groups and signature schemes by their TLS 1.3 code
points, whether it asks for pre-shared keys or 0-RTT data, its chain from the leaf, the digests that the two CertificateVerify messages
sign, and its own signature. -/
structure Hello where
  version : Nat
  suites  : List Nat
  groups  : List Nat
  sigs    : List Nat
  psk     : Bool
  early   : Bool
  chain   : List Cert
  ownTbs  : BitVec 256
  tbs     : BitVec 256
  sig     : BitVec 512
  deriving DecidableEq, Repr

/-- The commands; those without operands come last. -/
inductive Instr where
  /-- NOP (R87). -/
  | nop (c : CoreRef)
  /-- ADD (R92). -/
  | add (c : CoreRef) (d : BitVec 6) (a : BitVec 6) (b : BitVec 6)
  /-- SUB (R92). -/
  | sub (c : CoreRef) (d : BitVec 6) (a : BitVec 6) (b : BitVec 6)
  /-- AND (R92). -/
  | and (c : CoreRef) (d : BitVec 6) (a : BitVec 6) (b : BitVec 6)
  /-- OR (R92). -/
  | or (c : CoreRef) (d : BitVec 6) (a : BitVec 6) (b : BitVec 6)
  /-- XOR (R92). -/
  | xor (c : CoreRef) (d : BitVec 6) (a : BitVec 6) (b : BitVec 6)
  /-- SHL (R92). -/
  | shl (c : CoreRef) (d : BitVec 6) (a : BitVec 6) (b : BitVec 6)
  /-- SHR (R92). -/
  | shr (c : CoreRef) (d : BitVec 6) (a : BitVec 6) (b : BitVec 6)
  /-- SRA (R92). -/
  | sra (c : CoreRef) (d : BitVec 6) (a : BitVec 6) (b : BitVec 6)
  /-- SLT (R92). -/
  | slt (c : CoreRef) (d : BitVec 6) (a : BitVec 6) (b : BitVec 6)
  /-- SLTU (R92). -/
  | sltu (c : CoreRef) (d : BitVec 6) (a : BitVec 6) (b : BitVec 6)
  /-- MIN (R92). -/
  | min (c : CoreRef) (d : BitVec 6) (a : BitVec 6) (b : BitVec 6)
  /-- MAX (R92). -/
  | max (c : CoreRef) (d : BitVec 6) (a : BitVec 6) (b : BitVec 6)
  /-- MINU (R92). -/
  | minu (c : CoreRef) (d : BitVec 6) (a : BitVec 6) (b : BitVec 6)
  /-- MAXU (R92). -/
  | maxu (c : CoreRef) (d : BitVec 6) (a : BitVec 6) (b : BitVec 6)
  /-- MUL (R93). -/
  | mul (c : CoreRef) (d : BitVec 6) (a : BitVec 6) (b : BitVec 6)
  /-- MULH (R93). -/
  | mulh (c : CoreRef) (d : BitVec 6) (a : BitVec 6) (b : BitVec 6)
  /-- MULHU (R93). -/
  | mulhu (c : CoreRef) (d : BitVec 6) (a : BitVec 6) (b : BitVec 6)
  /-- ADDI (R92). -/
  | addi (c : CoreRef) (d : BitVec 6) (a : BitVec 6) (imm : BitVec 14)
  /-- ANDI (R92). -/
  | andi (c : CoreRef) (d : BitVec 6) (a : BitVec 6) (imm : BitVec 14)
  /-- ORI (R92). -/
  | ori (c : CoreRef) (d : BitVec 6) (a : BitVec 6) (imm : BitVec 14)
  /-- XORI (R92). -/
  | xori (c : CoreRef) (d : BitVec 6) (a : BitVec 6) (imm : BitVec 14)
  /-- SHLI (R92). -/
  | shli (c : CoreRef) (d : BitVec 6) (a : BitVec 6) (imm : BitVec 14)
  /-- SHRI (R92). -/
  | shri (c : CoreRef) (d : BitVec 6) (a : BitVec 6) (imm : BitVec 14)
  /-- SRAI (R92). -/
  | srai (c : CoreRef) (d : BitVec 6) (a : BitVec 6) (imm : BitVec 14)
  /-- SLTI (R92). -/
  | slti (c : CoreRef) (d : BitVec 6) (a : BitVec 6) (imm : BitVec 14)
  /-- LIMM (R94). -/
  | limm (c : CoreRef) (d : BitVec 6) (q : BitVec 2) (imm : BitVec 16)
  /-- BR (R95). -/
  | br (c : CoreRef) (cond : BitVec 3) (a : BitVec 6) (target : BitVec 13)
  /-- JAL (R96). -/
  | jal (c : CoreRef) (d : BitVec 6) (target : BitVec 13)
  /-- JR (R96). -/
  | jr (c : CoreRef) (a : BitVec 6)
  /-- LOOP (R98). -/
  | loop (c : CoreRef) (a : BitVec 6) (stop : BitVec 13)
  /-- LOOPI (R98). -/
  | loopi (c : CoreRef) (count : BitVec 13) (stop : BitVec 13)
  /-- FLRD (R100). -/
  | flrd (c : CoreRef) (d : BitVec 6) (g : BitVec 5)
  /-- FLCLR (R100). -/
  | flclr (c : CoreRef) (g : BitVec 5) (mask : BitVec 4)
  /-- SYSRD (R101). -/
  | sysrd (c : CoreRef) (d : BitVec 6) (sel : BitVec 4)
  /-- WAITBEAT (R102). -/
  | waitbeat (c : CoreRef) (a : BitVec 6) (imm : BitVec 14)
  /-- WAITBEAT_RELEASE (R102). -/
  | waitbeatRelease (c : CoreRef)
  /-- DONE (R103). -/
  | done (c : CoreRef) (n : BitVec 8)
  /-- DONE_COMPLETE (R103). -/
  | doneComplete (c : CoreRef)
  /-- MNOP (R87). -/
  | mnop (c : CoreRef)
  /-- LDS (R105). -/
  | lds (c : CoreRef) (d : BitVec 6) (a : BitVec 6) (sz : BitVec 2) (sx : BitVec 1) (off : BitVec 12)
  /-- STS (R105). -/
  | sts (c : CoreRef) (b : BitVec 6) (a : BitVec 6) (sz : BitVec 2) (off : BitVec 12)
  /-- VLD (R106). -/
  | vld (c : CoreRef) (v : BitVec 6) (a : BitVec 6) (off : BitVec 15)
  /-- VST (R106). -/
  | vst (c : CoreRef) (v : BitVec 6) (a : BitVec 6) (off : BitVec 15)
  /-- HMOV (R107). -/
  | hmov (c : CoreRef) (dir : BitVec 2) (hops : BitVec 6) (a : BitVec 6)
  /-- HALLWAY_ARRIVAL (R108). -/
  | hallwayArrival (c : CoreRef)
  /-- LDG (R138). -/
  | ldg (c : CoreRef) (a : BitVec 6) (b : BitVec 6) (sz : BitVec 2)
  /-- STG (R138). -/
  | stg (c : CoreRef) (a : BitVec 6) (b : BitVec 6) (sz : BitVec 2)
  /-- FSEND (R139). -/
  | fsend (c : CoreRef) (a : BitVec 6) (b : BitVec 6) (cc : BitVec 8) (ccen : BitVec 1)
  /-- FSENDM (R139). -/
  | fsendm (c : CoreRef) (a : BitVec 6) (b : BitVec 6) (cc : BitVec 8) (ccen : BitVec 1)
  /-- PGET (R142). -/
  | pget (c : CoreRef) (a : BitVec 6) (b : BitVec 6)
  /-- PPUT (R142). -/
  | pput (c : CoreRef) (a : BitVec 6) (b : BitVec 6)
  /-- PATOM (R143). -/
  | patom (c : CoreRef) (a : BitVec 6) (b : BitVec 6)
  /-- PCOPY (R144). -/
  | pcopy (c : CoreRef) (a : BitVec 6) (b : BitVec 6) (r : BitVec 6)
  /-- WAITCC (R146). -/
  | waitcc (c : CoreRef) (n : BitVec 8) (a : BitVec 6) (imm : BitVec 13)
  /-- GUARD_RELEASE (R76). -/
  | guardRelease (c : CoreRef)
  /-- CCSET (R147). -/
  | ccset (c : CoreRef) (n : BitVec 8) (a : BitVec 6) (imm : BitVec 13)
  /-- CCADD (R147). -/
  | ccadd (c : CoreRef) (n : BitVec 8) (a : BitVec 6) (imm : BitVec 13)
  /-- CCRD (R147). -/
  | ccrd (c : CoreRef) (n : BitVec 8) (d : BitVec 6)
  /-- QUEUE_ACCEPT (R149). -/
  | queueAccept (c : CoreRef)
  /-- ANOP (R87). -/
  | anop (c : CoreRef)
  /-- ACFG (R111). -/
  | acfg (c : CoreRef) (a : BitVec 6)
  /-- WLOAD (R112). -/
  | wload (c : CoreRef) (a : BitVec 6) (b : BitVec 6)
  /-- WSWAP (R113). -/
  | wswap (c : CoreRef)
  /-- MMA (R114). -/
  | mma (c : CoreRef) (tile : BitVec 2) (m : BitVec 6) (a : BitVec 6) (b : BitVec 6)
  /-- TCLR (R115). -/
  | tclr (c : CoreRef) (tile : BitVec 2) (mode : BitVec 1)
  /-- DRAIN (R116). -/
  | drain (c : CoreRef) (tile : BitVec 2) (j : BitVec 4) (v : BitVec 6) (rm : BitVec 2) (sat : BitVec 1) (dfmt : BitVec 2) (clr : BitVec 1)
  /-- VNOP (R87). -/
  | vnop (c : CoreRef)
  /-- VADD (R125). -/
  | vadd (c : CoreRef) (g : BitVec 4) (p : BitVec 4) (vd : BitVec 6) (va : BitVec 6) (vb : BitVec 6) (t : BitVec 2) (rm : BitVec 2)
  /-- VSUB (R125). -/
  | vsub (c : CoreRef) (g : BitVec 4) (p : BitVec 4) (vd : BitVec 6) (va : BitVec 6) (vb : BitVec 6) (t : BitVec 2) (rm : BitVec 2)
  /-- VMUL (R125). -/
  | vmul (c : CoreRef) (g : BitVec 4) (p : BitVec 4) (vd : BitVec 6) (va : BitVec 6) (vb : BitVec 6) (t : BitVec 2) (rm : BitVec 2)
  /-- VMIN (R125). -/
  | vmin (c : CoreRef) (g : BitVec 4) (p : BitVec 4) (vd : BitVec 6) (va : BitVec 6) (vb : BitVec 6) (t : BitVec 2) (rm : BitVec 2)
  /-- VMAX (R125). -/
  | vmax (c : CoreRef) (g : BitVec 4) (p : BitVec 4) (vd : BitVec 6) (va : BitVec 6) (vb : BitVec 6) (t : BitVec 2) (rm : BitVec 2)
  /-- VABS (R125). -/
  | vabs (c : CoreRef) (g : BitVec 4) (p : BitVec 4) (vd : BitVec 6) (va : BitVec 6) (t : BitVec 2) (rm : BitVec 2)
  /-- VNEG (R125). -/
  | vneg (c : CoreRef) (g : BitVec 4) (p : BitVec 4) (vd : BitVec 6) (va : BitVec 6) (t : BitVec 2) (rm : BitVec 2)
  /-- VFMA (R126). -/
  | vfma (c : CoreRef) (g : BitVec 4) (p : BitVec 4) (vd : BitVec 6) (va : BitVec 6) (vb : BitVec 6) (vc : BitVec 6) (rm : BitVec 2)
  /-- VFMS (R126). -/
  | vfms (c : CoreRef) (g : BitVec 4) (p : BitVec 4) (vd : BitVec 6) (va : BitVec 6) (vb : BitVec 6) (vc : BitVec 6) (rm : BitVec 2)
  /-- VFNMA (R126). -/
  | vfnma (c : CoreRef) (g : BitVec 4) (p : BitVec 4) (vd : BitVec 6) (va : BitVec 6) (vb : BitVec 6) (vc : BitVec 6) (rm : BitVec 2)
  /-- VFMA_B (R126). -/
  | vfmaB (c : CoreRef) (g : BitVec 4) (p : BitVec 4) (vd : BitVec 6) (va : BitVec 6) (vb : BitVec 6) (vc : BitVec 6) (rm : BitVec 2)
  /-- VFMS_B (R126). -/
  | vfmsB (c : CoreRef) (g : BitVec 4) (p : BitVec 4) (vd : BitVec 6) (va : BitVec 6) (vb : BitVec 6) (vc : BitVec 6) (rm : BitVec 2)
  /-- VFNMA_B (R126). -/
  | vfnmaB (c : CoreRef) (g : BitVec 4) (p : BitVec 4) (vd : BitVec 6) (va : BitVec 6) (vb : BitVec 6) (vc : BitVec 6) (rm : BitVec 2)
  /-- VFMA_H (R126). -/
  | vfmaH (c : CoreRef) (g : BitVec 4) (p : BitVec 4) (vd : BitVec 6) (va : BitVec 6) (vb : BitVec 6) (vc : BitVec 6) (rm : BitVec 2)
  /-- VFMS_H (R126). -/
  | vfmsH (c : CoreRef) (g : BitVec 4) (p : BitVec 4) (vd : BitVec 6) (va : BitVec 6) (vb : BitVec 6) (vc : BitVec 6) (rm : BitVec 2)
  /-- VFNMA_H (R126). -/
  | vfnmaH (c : CoreRef) (g : BitVec 4) (p : BitVec 4) (vd : BitVec 6) (va : BitVec 6) (vb : BitVec 6) (vc : BitVec 6) (rm : BitVec 2)
  /-- VAND (R127). -/
  | vand (c : CoreRef) (g : BitVec 4) (p : BitVec 4) (vd : BitVec 6) (va : BitVec 6) (vb : BitVec 6) (t : BitVec 2) (rm : BitVec 2)
  /-- VOR (R127). -/
  | vor (c : CoreRef) (g : BitVec 4) (p : BitVec 4) (vd : BitVec 6) (va : BitVec 6) (vb : BitVec 6) (t : BitVec 2) (rm : BitVec 2)
  /-- VXOR (R127). -/
  | vxor (c : CoreRef) (g : BitVec 4) (p : BitVec 4) (vd : BitVec 6) (va : BitVec 6) (vb : BitVec 6) (t : BitVec 2) (rm : BitVec 2)
  /-- VSHL (R127). -/
  | vshl (c : CoreRef) (g : BitVec 4) (p : BitVec 4) (vd : BitVec 6) (va : BitVec 6) (vb : BitVec 6) (t : BitVec 2) (rm : BitVec 2)
  /-- VSHR (R127). -/
  | vshr (c : CoreRef) (g : BitVec 4) (p : BitVec 4) (vd : BitVec 6) (va : BitVec 6) (vb : BitVec 6) (t : BitVec 2) (rm : BitVec 2)
  /-- VSRA (R127). -/
  | vsra (c : CoreRef) (g : BitVec 4) (p : BitVec 4) (vd : BitVec 6) (va : BitVec 6) (vb : BitVec 6) (t : BitVec 2) (rm : BitVec 2)
  /-- VCMP (R128). -/
  | vcmp (c : CoreRef) (g : BitVec 4) (p : BitVec 4) (pd : BitVec 4) (va : BitVec 6) (vb : BitVec 6) (t : BitVec 2) (cond : BitVec 3) (h : BitVec 1)
  /-- VSEL (R129). -/
  | vsel (c : CoreRef) (g : BitVec 4) (p : BitVec 4) (vd : BitVec 6) (va : BitVec 6) (vb : BitVec 6) (t : BitVec 2) (rm : BitVec 2)
  /-- VBCAST (R129). -/
  | vbcast (c : CoreRef) (g : BitVec 4) (p : BitVec 4) (vd : BitVec 6) (a : BitVec 6)
  /-- VGETL (R129). -/
  | vgetl (c : CoreRef) (g : BitVec 4) (p : BitVec 4) (d : BitVec 6) (va : BitVec 6) (lane : BitVec 8)
  /-- VIOTA (R129). -/
  | viota (c : CoreRef) (g : BitVec 4) (p : BitVec 4) (vd : BitVec 6)
  /-- VSHUF (R129). -/
  | vshuf (c : CoreRef) (g : BitVec 4) (p : BitVec 4) (vd : BitVec 6) (va : BitVec 6) (vb : BitVec 6)
  /-- PLOGIC (R130). -/
  | plogic (c : CoreRef) (g : BitVec 4) (p : BitVec 4) (pd : BitVec 4) (pa : BitVec 4) (pb : BitVec 4) (fn : BitVec 3)
  /-- VCVT (R131). -/
  | vcvt (c : CoreRef) (g : BitVec 4) (p : BitVec 4) (vd : BitVec 6) (va : BitVec 6) (sf : BitVec 4) (df : BitVec 4) (q : BitVec 3) (sat : BitVec 1) (rm : BitVec 2)
  /-- VMXQ (R132). -/
  | vmxq (c : CoreRef) (g : BitVec 4) (p : BitVec 4) (vd : BitVec 6) (va : BitVec 6) (vc : BitVec 6) (df : BitVec 3) (q : BitVec 3) (rm : BitVec 2)
  /-- VPK6 (R133). -/
  | vpk6 (c : CoreRef) (g : BitVec 4) (p : BitVec 4) (vd : BitVec 6) (va : BitVec 6)
  /-- VUP6 (R133). -/
  | vup6 (c : CoreRef) (g : BitVec 4) (p : BitVec 4) (vd : BitVec 6) (va : BitVec 6)
  /-- VSF (R134). -/
  | vsf (c : CoreRef) (g : BitVec 4) (p : BitVec 4) (vd : BitVec 6) (va : BitVec 6) (fn : BitVec 3)
  /-- VRSUM (R135). -/
  | vrsum (c : CoreRef) (g : BitVec 4) (p : BitVec 4) (vd : BitVec 6) (va : BitVec 6) (t : BitVec 2) (rm : BitVec 2)
  /-- VRMAX (R135). -/
  | vrmax (c : CoreRef) (g : BitVec 4) (p : BitVec 4) (vd : BitVec 6) (va : BitVec 6) (t : BitVec 2) (rm : BitVec 2)
  /-- VRMIN (R135). -/
  | vrmin (c : CoreRef) (g : BitVec 4) (p : BitVec 4) (vd : BitVec 6) (va : BitVec 6) (t : BitVec 2) (rm : BitVec 2)
  /-- VSAMP (R136). -/
  | vsamp (c : CoreRef) (g : BitVec 4) (p : BitVec 4) (slot : BitVec 3) (a : BitVec 6)
  /-- SAMPLER_START (R85). -/
  | samplerStart (k : Fin 100)
  /-- SAMPLER_COMPLETE (R84). -/
  | samplerComplete (k : Fin 100)
  /-- TAP_DEPARTURE_READ (R159). -/
  | tapDepartureRead (k : Fin 100)
  /-- SLOT_FILL (R162). -/
  | slotFill (p : Port)
  /-- RX_FRAME (R195). -/
  | rxFrame (p : Port) (lanes : List (BitVec 2560))
  /-- CELL_RELEASE (R195). -/
  | cellRelease (p : Port)
  /-- LANDING_WRITE (R166). -/
  | landingWrite (k : Fin 100)
  /-- IDLE_CELL_TIMER (R200). -/
  | idleCellTimer (p : Port)
  /-- REPLAY_TIMER_EXPIRY (R202). -/
  | replayTimerExpiry (p : Port)
  /-- REKEY (R194). -/
  | rekey (p : Port) (tx : Bool)
  /-- BARRIER_CELL (R177). -/
  | barrierCell (p : Port)
  /-- FREEZE_CELL (R398). -/
  | freezeCell (p : Port)
  /-- STOP_CELL (R398). -/
  | stopCell (p : Port)
  /-- BEACON_CELL (R408). -/
  | beaconCell (p : Port)
  /-- FBC_CELL (R338). -/
  | fbcCell (p : Port)
  /-- REPAIR_REQ (R196). -/
  | repairReq (p : Port)
  /-- REPAIR_RSP (R196). -/
  | repairRsp (p : Port)
  /-- REPAIR_TIMEOUT (R196). -/
  | repairTimeout (p : Port)
  /-- BYPASS_CREDIT_TIMEOUT (R211). -/
  | bypassCreditTimeout (p : Port)
  /-- SIGNAL_DETECTED (R212). -/
  | signalDetected (p : Port)
  /-- EQUALISE_DONE (R212). -/
  | equaliseDone (p : Port) (lanes : W16)
  /-- ALIGN_DONE (R215). -/
  | alignDone (p : Port) (lanes : W16) (width : Fin 4)
  /-- CAPABILITY_MESSAGE (R213). -/
  | capabilityMessage (p : Port) (msg : BitVec 128)
  /-- KEYS_MESSAGE (R214). -/
  | keysMessage (p : Port) (pub : BitVec 512) (sid : W32) (chain : List Cert) (sig : BitVec 512)
  /-- MEASURE_DONE (R215). -/
  | measureDone (p : Port) (trip : Nat) (partner : Nat)
  /-- TRAIN_TIMEOUT (R212). -/
  | trainTimeout (p : Port)
  /-- BACKOFF_END (R212). -/
  | backoffEnd (p : Port)
  /-- QUIET_WINDOW (R216). -/
  | quietWindow (p : Port)
  /-- RETRAIN_DRAIN_END (R217). -/
  | retrainDrainEnd (p : Port)
  /-- LOSS_OF_SIGNAL (R218). -/
  | lossOfSignal (p : Port) (all : Bool)
  /-- TRAINING_PATTERN_SEEN (R218). -/
  | trainingPatternSeen (p : Port)
  /-- GRACE_EXPIRY (R219). -/
  | graceExpiry (p : Port)
  /-- RETRAIN (R216). -/
  | retrain (p : Port) (width : Fin 4)
  /-- FULL_TRAIN (R218). -/
  | fullTrain (p : Port)
  /-- LNK_CTL_ENABLE (R222). -/
  | lnkCtlEnable (p : Port) (value : W32)
  /-- CORE_START (R444). -/
  | coreStart (c : CoreRef)
  /-- PAN_WIN_ENABLE (R246). -/
  | panWinEnable (w : Fin 32)
  /-- CTX_JOB_BLOCK_ENABLE (R230). -/
  | ctxJobBlockEnable (x : Fin 16)
  /-- PIECE_OPEN (R247). -/
  | pieceOpen (e : Fin 16)
  /-- FENCE (R233). -/
  | fence (src : Src)
  /-- MOVER_START (R267). -/
  | moverStart (m : Fin 32)
  /-- READ (R269). -/
  | read (m : Fin 32)
  /-- WRITE (R269). -/
  | write (m : Fin 32)
  /-- FILL (R269). -/
  | fill (m : Fin 32)
  /-- HASH_OPEN (R273). -/
  | hashOpen (m : Fin 32)
  /-- HASH_CLOSE (R273). -/
  | hashClose (m : Fin 32)
  /-- MOVER_CHUNK_DONE (R268). -/
  | moverChunkDone (m : Fin 32)
  /-- HASH_COMPRESS (R272). -/
  | hashCompress (h : Fin 16)
  /-- REFRESH (R271). -/
  | refresh (bank : Nat)
  /-- GENERATE (R263). -/
  | generate (x : Fin 16)
  /-- ERASE (R263). -/
  | erase (x : Fin 16)
  /-- CLR_REGION_ENABLE (R274). -/
  | clrRegionEnable (w : Fin 32)
  /-- POST (R282). -/
  | post (n : Fin 4)
  /-- MBX_RESPONSE (R282). -/
  | mbxResponse (n : Fin 4)
  /-- PORCH_WRITE (R281). -/
  | porchWrite (off : W16) (size : Nat) (value : W64)
  /-- GET_INFO (R287). -/
  | getInfo (src : Src)
  /-- GET_STATUS (R287). -/
  | getStatus (src : Src)
  /-- REG_READ (R287). -/
  | regRead (src : Src)
  /-- REG_WRITE (R287). -/
  | regWrite (src : Src)
  /-- CTX_CREATE (R294). -/
  | ctxCreate (src : Src)
  /-- CTX_DESTROY (R297). -/
  | ctxDestroy (src : Src)
  /-- CTX_SWITCH (R295). -/
  | ctxSwitch (src : Src)
  /-- CTX_QUERY (R287). -/
  | ctxQuery (src : Src)
  /-- JOB_LOAD (R320). -/
  | jobLoad (src : Src) (host : Option (List Byte))
  /-- JOB_START (R442). -/
  | jobStart (src : Src)
  /-- JOB_STOP (R442). -/
  | jobStop (src : Src)
  /-- TELEMETRY_SLIP (R287). -/
  | telemetrySlip (src : Src) (dma : Bool)
  /-- TELEMETRY_COUNTERS (R287). -/
  | telemetryCounters (src : Src) (dma : Bool)
  /-- EVENT_SUBSCRIBE (R443). -/
  | eventSubscribe (src : Src)
  /-- MGMT_CONNECTION_CLOSE (R443). -/
  | mgmtConnectionClose (n : Fin 4)
  /-- SET_OPERATING_POINT (R331). -/
  | setOperatingPoint (src : Src)
  /-- SET_POWER_CAP (R353). -/
  | setPowerCap (src : Src)
  /-- SET_POWER_STATE (R350). -/
  | setPowerState (src : Src)
  /-- SELF_TEST (R296). -/
  | selfTest (src : Src) (result : Byte)
  /-- CALIBRATE (R296). -/
  | calibrate (src : Src) (result : Byte)
  /-- DEFERRED_MAINTENANCE_RUN (R296). -/
  | deferredMaintenanceRun (result : Byte)
  /-- FW_STAGE (R277). -/
  | fwStage (src : Src) (host : Option (List Byte))
  /-- FW_ACTIVATE (R277). -/
  | fwActivate (src : Src)
  /-- FW_COMMIT (R277). -/
  | fwCommit (src : Src)
  /-- FULL_RESET (R284). -/
  | fullReset (src : Src)
  /-- ATTEST (R376). -/
  | attest (src : Src) (dma : Bool)
  /-- SESSION_OPEN (R380). -/
  | sessionOpen (src : Src)
  /-- SESSION_CLOSE (R382). -/
  | sessionClose (src : Src)
  /-- DEBUG_BREAK (R404). -/
  | debugBreak (src : Src)
  /-- GLOBAL_STOP (R405). -/
  | globalStop (src : Src)
  /-- WAITFOR_GRAPH (R410). -/
  | waitforGraph (src : Src) (dma : Bool)
  /-- TRACE_CTL (R411). -/
  | traceCtl (src : Src)
  /-- FREEZE (R397). -/
  | freeze (src : Src)
  /-- BEACON_SEND (R408). -/
  | beaconSend (p : Port)
  /-- LOAD_PROGRAM (R444). -/
  | loadProgram (k : Fin 100)
  /-- START (R444). -/
  | start (k : Fin 100)
  /-- WAIT (R300). -/
  | wait (k : Fin 100)
  /-- STEWARD_WAIT_RELEASE (R76). -/
  | stewardWaitRelease (k : Fin 100)
  /-- MOVER (R267). -/
  | mover (k : Fin 100)
  /-- PANTRY (R300). -/
  | pantry (k : Fin 100)
  /-- STEWARD_QUEUE_ACCEPT (R267). -/
  | stewardQueueAccept (k : Fin 100)
  /-- STREAM (R80). -/
  | stream (k : Fin 100)
  /-- SECTION_END (R300). -/
  | sectionEnd (k : Fin 100)
  /-- FUNCTION_WATCHDOG (R303). -/
  | functionWatchdog (kind : BitVec 4) (unit : Byte)
  /-- BARRIN_VERSION_RETRY (R279). -/
  | barrinVersionRetry (minv : Byte) (maxv : Byte)
  /-- BARRIN_TRANSACTION (R381). -/
  | barrinTransaction (op : BarrinOp) (bits : List Byte)
  /-- POWER_COLLECTION (R301). -/
  | powerCollection (readings : List (Option (Nat × Bool)))
  /-- DROOP (R326). -/
  | droop (d : Fin 9) (amount : Fin 5)
  /-- FBC_CELL_SEND (R337). -/
  | fbcCellSend (p : Port)
  /-- TIMESTAMP (R344). -/
  | timestamp (rx : Bool) (tag : W16)
  /-- TIME_PULSE_ENABLE (R346). -/
  | timePulseEnable (n : Fin 2)
  /-- PULSE_EDGE (R346). -/
  | pulseEdge (n : Fin 2)
  /-- PULSE_END (R346). -/
  | pulseEnd (n : Fin 2)
  /-- WAKE_FRAME (R351). -/
  | wakeFrame (mac : BitVec 48) (etype : W16) (code : W64)
  /-- POWER_CAP_WINDOW (R352). -/
  | powerCapWindow (power : Nat) (junction : Nat)
  /-- REPLAY_ENTRY (R369). -/
  | replayEntry (host : Option (List Byte))
  /-- MEASUREMENT_PASS (R375). -/
  | measurementPass (changed : List (Nat × Nat × Byte))
  /-- MGMT_HANDSHAKE (R386). -/
  | mgmtHandshake (n : Fin 4) (hello : Hello)
  /-- OPCA_ENABLE (R387). -/
  | opcaEnable (n : Fin 4)
  /-- ALARM_TRIGGER (R389). -/
  | alarmTrigger (bit : Fin 20) (aux : Bool) (lasts : Nat)
  /-- LEVEL2_CLEAR (R392). -/
  | level2Clear (n : Fin 4)
  /-- STRAP_SAMPLE (R434). -/
  | strapSample (straps : W32)
  /-- POWER_RESET (R415). -/
  | powerReset (low : Bool)
  /-- MODULE_RESET (R414). -/
  | moduleReset (low : Bool)
  /-- BRING_UP_STAGE (R416). -/
  | bringUpStage (stackOks : Byte) (align : Bool)
  /-- PANTRY_ACCESS_DONE (R245). -/
  | pantryAccessDone (n : Nat)
  /-- TAP_TCK (R438). -/
  | tapTck (trstN : Bool) (tms : Bool) (tdi : Bool)
  /-- MANAGEMENT_MODE_TRY (R436). -/
  | managementModeTry (ok : Bool)
  /-- EPOCH_START (R178). -/
  | epochStart
  /-- BARRIER_READY (R176). -/
  | barrierReady
  /-- BARRIER_TIMEOUT (R180). -/
  | barrierTimeout
  /-- PAN_CTL_ENABLE (R227). -/
  | panCtlEnable
  /-- PANTRY_REQUEST (R245). -/
  | pantryRequest
  /-- READ_REPLY_DATA (R247). -/
  | readReplyData
  /-- STATUS_CELL (R247). -/
  | statusCell
  /-- STATUS_CELL_TIMEOUT (R244). -/
  | statusCellTimeout
  /-- PIECE_TIMEOUT (R248). -/
  | pieceTimeout
  /-- PIECE_SLOT_HOLD_END (R248). -/
  | pieceSlotHoldEnd
  /-- PATROL_SCRUB (R261). -/
  | patrolScrub
  /-- CORRECTION_WRITEBACK (R258). -/
  | correctionWriteback
  /-- OPERATING_POINT_CHANGE (R332). -/
  | operatingPointChange
  /-- TIMED_FREEZE_TRIGGER (R397). -/
  | timedFreezeTrigger
  /-- TRACE_MARKER (R401). -/
  | traceMarker
  /-- TRACE_FRAME (R403). -/
  | traceFrame
  /-- HEARTH_WATCHDOG (R278). -/
  | hearthWatchdog
  /-- BARRIN_LINK_DOWN (R280). -/
  | barrinLinkDown
  /-- BARRIN_LINK_UP (R280). -/
  | barrinLinkUp (good : Byte) (minv : Byte) (maxv : Byte)
  /-- TELEMETRY_REPORT (R302). -/
  | telemetryReport
  /-- STRETCH_TOKEN (R326). -/
  | stretchToken
  /-- CLOCK_SLIP (R329). -/
  | clockSlip
  /-- REFERENCE_LOST (R333). -/
  | referenceLost
  /-- REFERENCE_RESTORED (R334). -/
  | referenceRestored
  /-- SEED (R338). -/
  | seed
  /-- LOAD (R341). -/
  | load
  /-- APPLY (R341). -/
  | apply
  /-- TXTS_POP (R345). -/
  | txtsPop
  /-- PPS_CAPTURE (R348). -/
  | ppsCapture (falling : Bool)
  /-- IDLE_ENTRY (R350). -/
  | idleEntry
  /-- RECORD_ENABLE (R368). -/
  | recordEnable
  /-- ENTROPY_FAILURE (R384). -/
  | entropyFailure
  /-- ENTROPY_RECOVERY (R384). -/
  | entropyRecovery (good : Nat)
  /-- MERGE_WINDOW_END (R389). -/
  | mergeWindowEnd
  /-- SLOE_POWER_ON (R413). -/
  | sloePowerOn
  /-- SLOE_RESET (R431). -/
  | sloeReset
  /-- STAGE_TIMEOUT (R416). -/
  | stageTimeout
  /-- SUPPLY_FAULT (R422). -/
  | supplyFault
  /-- THERMAL_TRIP (R424). -/
  | thermalTrip
  /-- DRAIN_TIMEOUT (R295). -/
  | drainTimeout
  deriving DecidableEq, Repr

end Sys2Proof
end

