-- ==== Sys2Proof/Decode.lean ====
section
/-! DEFINITION. Reading words. `decodeTableWord` reads the words of the opcode table's rows: the table gives no row any bits.
Below it stands the decoder that a core's sequencer uses on the four slots of a bundle (R86 to R91, R104, R110, R120, R121);
a reserved opcode, selector, rounding mode or nonzero reserved field is refused (R88). -/

namespace Sys2Proof

/-- The command that a word spells by the table's bits: the table gives its rows none. -/
def decodeTableWord (_nbits _w : Nat) : Option Instr := none

/-- Field of `n` bits of slot `w` from bit `lo`. -/
def slotFld (w : Nat) (lo n : Nat) : BitVec n := BitVec.ofNat n (w / 2 ^ lo)

/-- Bits `hi` to `lo` of the slot are zero. -/
def rsv (w hi lo : Nat) : Bool := nfld w hi lo == 0

/-- `some i` where the condition holds. -/
def okIf (b : Bool) (i : Instr) : Option Instr := if b then some i else none

/-- The S slot: opcode in bits 31:26 (Tables 4.2, 4.3). Opcode 0 with another bit set is illegal, as in every slot: the tables mark no field
of it (log 12). -/
def decodeS (c : CoreRef) (w : Nat) : Option Instr :=
  let d := slotFld w 20 6
  let a := slotFld w 14 6
  let b := slotFld w 8 6
  let i14 := slotFld w 0 14
  let sr := rsv w 7 0
  let sh := rsv w 13 6
  match nfld w 31 26 with
  | 0x00 => okIf (w == 0) (.nop c)
  | 0x1 => okIf sr (.add c d a b)
  | 0x2 => okIf sr (.sub c d a b)
  | 0x3 => okIf sr (.and c d a b)
  | 0x4 => okIf sr (.or c d a b)
  | 0x5 => okIf sr (.xor c d a b)
  | 0x6 => okIf sr (.shl c d a b)
  | 0x7 => okIf sr (.shr c d a b)
  | 0x8 => okIf sr (.sra c d a b)
  | 0x9 => okIf sr (.slt c d a b)
  | 0xa => okIf sr (.sltu c d a b)
  | 0xb => okIf sr (.min c d a b)
  | 0xc => okIf sr (.max c d a b)
  | 0xd => okIf sr (.minu c d a b)
  | 0xe => okIf sr (.maxu c d a b)
  | 0xf => okIf sr (.mul c d a b)
  | 0x10 => okIf sr (.mulh c d a b)
  | 0x11 => okIf sr (.mulhu c d a b)
  | 0x18 => okIf true (.addi c d a i14)
  | 0x19 => okIf true (.andi c d a i14)
  | 0x1a => okIf true (.ori c d a i14)
  | 0x1b => okIf true (.xori c d a i14)
  | 0x1c => okIf sh (.shli c d a i14)
  | 0x1d => okIf sh (.shri c d a i14)
  | 0x1e => okIf sh (.srai c d a i14)
  | 0x1f => okIf true (.slti c d a i14)
  | 0x20 => okIf (rsv w 17 16) (.limm c d (slotFld w 18 2) (slotFld w 0 16))
  | 0x28 => okIf (rsv w 22 20 && rsv w 13 13 && nfld w 25 23 != 7 && (nfld w 25 23 != 0 || nfld w 19 14 == 0))
      (.br c (slotFld w 23 3) a (slotFld w 0 13))
  | 0x29 => okIf (rsv w 19 14 && rsv w 13 13) (.jal c d (slotFld w 0 13))
  | 0x2A => okIf (rsv w 25 20 && rsv w 13 0) (.jr c a)
  | 0x2C => okIf (rsv w 25 20 && rsv w 13 13) (.loop c a (slotFld w 0 13))
  | 0x2D => some (.loopi c (slotFld w 13 13) (slotFld w 0 13))
  | 0x30 => okIf (rsv w 14 0 && nfld w 19 15 ≤ 16) (.flrd c d (slotFld w 15 5))
  | 0x31 => okIf (rsv w 25 20 && rsv w 14 4 && nfld w 19 15 ≤ 16) (.flclr c (slotFld w 15 5) (slotFld w 0 4))
  | 0x32 => okIf (rsv w 15 0 && nfld w 19 16 ≤ 5) (.sysrd c d (slotFld w 16 4))
  | 0x33 => okIf (rsv w 25 20) (.waitbeat c a i14)
  | 0x3F => okIf (rsv w 17 0) (.done c (slotFld w 18 8))
  | _ => none

/-- The M slot: opcode in bits 31:27 (Tables 4.6, 4.7). -/
def decodeM (c : CoreRef) (w : Nat) : Option Instr :=
  let a := slotFld w 21 6
  let b := slotFld w 15 6
  match nfld w 31 27 with
  | 0x00 => okIf (w == 0) (.mnop c)
  | 0x01 => some (.lds c a b (slotFld w 13 2) (slotFld w 12 1) (slotFld w 0 12))
  | 0x02 => okIf (rsv w 12 12) (.sts c a b (slotFld w 13 2) (slotFld w 0 12))
  | 0x03 => some (.vld c a b (slotFld w 0 15))
  | 0x04 => some (.vst c a b (slotFld w 0 15))
  | 0x05 => okIf (rsv w 12 0) (.hmov c (slotFld w 25 2) (slotFld w 19 6) (slotFld w 13 6))
  | 0x06 => okIf (rsv w 12 0) (.ldg c a b (slotFld w 13 2))
  | 0x07 => okIf (rsv w 12 0) (.stg c a b (slotFld w 13 2))
  | 0x08 => okIf (rsv w 5 0) (.fsend c a b (slotFld w 7 8) (slotFld w 6 1))
  | 0x09 => okIf (rsv w 5 0) (.fsendm c a b (slotFld w 7 8) (slotFld w 6 1))
  | 0x10 => okIf (rsv w 14 0) (.pget c a b)
  | 0x11 => okIf (rsv w 14 0) (.pput c a b)
  | 0x12 => okIf (rsv w 14 0) (.patom c a b)
  | 0x13 => okIf (rsv w 8 0) (.pcopy c a b (slotFld w 9 6))
  | 0x18 => some (.waitcc c (slotFld w 19 8) (slotFld w 13 6) (slotFld w 0 13))
  | 0x19 => some (.ccset c (slotFld w 19 8) (slotFld w 13 6) (slotFld w 0 13))
  | 0x1A => some (.ccadd c (slotFld w 19 8) (slotFld w 13 6) (slotFld w 0 13))
  | 0x1B => okIf (rsv w 12 0) (.ccrd c (slotFld w 19 8) (slotFld w 13 6))
  | _ => none

/-- The A slot: opcode in bits 23:20 (Table 4.10). -/
def decodeA (c : CoreRef) (w : Nat) : Option Instr :=
  match nfld w 23 20 with
  | 0x0 => okIf (w == 0) (.anop c)
  | 0x1 => okIf (rsv w 13 0) (.acfg c (slotFld w 14 6))
  | 0x2 => okIf (rsv w 7 0) (.wload c (slotFld w 14 6) (slotFld w 8 6))
  | 0x3 => okIf (rsv w 19 0) (.wswap c)
  | 0x4 => some (.mma c (slotFld w 18 2) (slotFld w 12 6) (slotFld w 6 6) (slotFld w 0 6))
  | 0x5 => okIf (rsv w 16 0) (.tclr c (slotFld w 18 2) (slotFld w 17 1))
  | 0x6 => okIf (rsv w 1 0 && nfld w 7 6 != 3)
      (.drain c (slotFld w 18 2) (slotFld w 14 4) (slotFld w 8 6) (slotFld w 6 2) (slotFld w 5 1) (slotFld w 3 2) (slotFld w 2 1))
  | _ => none

/-- The V slot: opcode in bits 39:34, G in 33:30, p in 29:26 (Tables 5.1, 5.2). Values that a definition leaves out are
refused by the instruction's meaning. -/
def decodeV (c : CoreRef) (w : Nat) : Option Instr :=
  let g := slotFld w 30 4
  let p := slotFld w 26 4
  let vd := slotFld w 20 6
  let va := slotFld w 14 6
  let vb := slotFld w 8 6
  let t := slotFld w 6 2
  let rm := slotFld w 4 2
  let vc := slotFld w 2 6
  let frm := slotFld w 0 2
  let vr := rsv w 3 0 && nfld w 5 4 != 3
  let vr1 := vr && rsv w 13 8
  let vf := nfld w 1 0 != 3
  match nfld w 39 34 with
  | 0x00 => okIf (w == 0) (.vnop c)
  | 0x1 => okIf vr (.vadd c g p vd va vb t rm)
  | 0x2 => okIf vr (.vsub c g p vd va vb t rm)
  | 0x3 => okIf vr (.vmul c g p vd va vb t rm)
  | 0x4 => okIf vr (.vmin c g p vd va vb t rm)
  | 0x5 => okIf vr (.vmax c g p vd va vb t rm)
  | 0x6 => okIf vr1 (.vabs c g p vd va t rm)
  | 0x7 => okIf vr1 (.vneg c g p vd va t rm)
  | 0x8 => okIf vf (.vfma c g p vd va vb vc frm)
  | 0x9 => okIf vf (.vfms c g p vd va vb vc frm)
  | 0xa => okIf vf (.vfnma c g p vd va vb vc frm)
  | 0xb => okIf vf (.vfmaB c g p vd va vb vc frm)
  | 0xc => okIf vf (.vfmsB c g p vd va vb vc frm)
  | 0xd => okIf vf (.vfnmaB c g p vd va vb vc frm)
  | 0xe => okIf vf (.vfmaH c g p vd va vb vc frm)
  | 0xf => okIf vf (.vfmsH c g p vd va vb vc frm)
  | 0x10 => okIf vf (.vfnmaH c g p vd va vb vc frm)
  | 0x11 => okIf vr (.vand c g p vd va vb t rm)
  | 0x12 => okIf vr (.vor c g p vd va vb t rm)
  | 0x13 => okIf vr (.vxor c g p vd va vb t rm)
  | 0x14 => okIf vr (.vshl c g p vd va vb t rm)
  | 0x15 => okIf vr (.vshr c g p vd va vb t rm)
  | 0x16 => okIf vr (.vsra c g p vd va vb t rm)
  | 0x18 => okIf (rsv w 21 20 && rsv w 1 0 && nfld w 5 3 != 7)
      (.vcmp c g p (slotFld w 22 4) va vb t (slotFld w 3 3) (slotFld w 2 1))
  | 0x19 => okIf vr (.vsel c g p vd va vb t rm)
  | 0x1A => okIf (rsv w 13 0) (.vbcast c g p vd va)
  | 0x1B => okIf (rsv w 5 0) (.vgetl c g p vd va (slotFld w 6 8))
  | 0x1C => okIf (rsv w 19 0) (.viota c g p vd)
  | 0x1D => okIf (rsv w 7 0) (.vshuf c g p vd va vb)
  | 0x1E => okIf (rsv w 10 0 && nfld w 13 11 ≤ 4) (.plogic c g p (slotFld w 22 4) (slotFld w 18 4) (slotFld w 14 4) (slotFld w 11 3))
  | 0x20 => okIf (nfld w 1 0 != 3) (.vcvt c g p vd va (slotFld w 10 4) (slotFld w 6 4) (slotFld w 3 3) (slotFld w 2 1) frm)
  | 0x21 => okIf (nfld w 1 0 != 3) (.vmxq c g p vd va vb (slotFld w 5 3) (slotFld w 2 3) frm)
  | 0x22 => okIf (rsv w 13 0) (.vpk6 c g p vd va)
  | 0x23 => okIf (rsv w 13 0) (.vup6 c g p vd va)
  | 0x24 => okIf (rsv w 10 0 && nfld w 13 11 ≤ 5) (.vsf c g p vd va (slotFld w 11 3))
  | 0x28 => okIf vr1 (.vrsum c g p vd va t rm)
  | 0x29 => okIf vr1 (.vrmax c g p vd va t rm)
  | 0x2A => okIf vr1 (.vrmin c g p vd va t rm)
  | 0x30 => okIf (rsv w 22 20 && rsv w 13 0) (.vsamp c g p (slotFld w 23 3) va)
  | _ => none

/-- The slots of a bundle in the order of R89, M, A, V, S, each with its number there and its instruction, none where illegal
(Table 4.1). -/
def decodeBundle (c : CoreRef) (w : BitVec 128) : List (Nat × Option Instr) :=
  [(0, decodeM c (fld w 31 0)), (1, decodeA c (fld w 55 32)), (2, decodeV c (fld w 95 56)), (3, decodeS c (fld w 127 96))]

end Sys2Proof
end

