-- ==== Sys2Proof/Machine/Crypto.lean ====
section
/-! DEFINITION. The ciphers and hashes that the manual names: SHA-256 (FIPS 180-4), HMAC and HKDF (RFC 2104, RFC 5869),
AES-256 (FIPS 197), GHASH and GCM (SP 800-38D), XTS (IEEE 1619). Byte strings are lists of bytes, hash and cipher values
numbers whose most significant byte comes first. -/

namespace Sys2Proof

/-- The round constants of SHA-256, constant `i` in bits 32i + 31 to 32i. -/
def shaKTable : Nat := 0xc67178f2bef9a3f7a4506ceb90befffa8cc7020884c8781478a5636f748f82ee682e6ff35b9cca4f4ed8aa4a391c0cb334b0bcb52748774c1e376c0819a4c116106aa070f40e3585d6990624d192e819c76c51a3c24b8b70a81a664ba2bfe8a192722c8581c2c92e766a0abb650a735453380d134d2c6dfc2e1b213827b70a851429296706ca6351d5a79147c6e00bf3bf597fc7b00327c8a831c66d983e515276f988da5cb0a9dc4a7484aa2de92c6f240ca1cc0fc19dc6efbe4786e49b69c1c19bf1749bdc06a780deb1fe72be5d74550c7dc3243185be12835b01d807aa98ab1c5ed5923f82a459f111f13956c25be9b5dba5b5c0fbcf71374491428a2f98

/-- The initial hash value of SHA-256. -/
def shaInit : Nat := 0x6a09e667bb67ae853c6ef372a54ff53a510e527f9b05688c1f83d9ab5be0cd19

def rotr32 (x n : Nat) : Nat := x / 2 ^ n + x % 2 ^ n * 2 ^ (32 - n)

/-- The message schedule, newest word first: extend the 16 words of a block by 48. -/
def shaSched : Nat → List Nat → List Nat
  | 0, w => w
  | n + 1, w =>
    let a := w.getD 14 0
    let b := w.getD 1 0
    let s0 := rotr32 a 7 ^^^ rotr32 a 18 ^^^ a / 8
    let s1 := rotr32 b 17 ^^^ rotr32 b 19 ^^^ b / 2 ^ 10
    shaSched n (((w.getD 15 0 + s0 + w.getD 6 0 + s1) % 2 ^ 32) :: w)

/-- One round on (a, b, c, d, e, f, g, h). -/
def shaRound (v : List Nat) (k w : Nat) : List Nat :=
  match v with
  | [a, b, c, d, e, f, g, h] =>
    let s1 := rotr32 e 6 ^^^ rotr32 e 11 ^^^ rotr32 e 25
    let ch := (e &&& f) ^^^ ((2 ^ 32 - 1 - e) &&& g)
    let t1 := h + s1 + ch + k + w
    let s0 := rotr32 a 2 ^^^ rotr32 a 13 ^^^ rotr32 a 22
    let maj := (a &&& b) ^^^ (a &&& c) ^^^ (b &&& c)
    [(t1 + s0 + maj) % 2 ^ 32, a, b, c, (d + t1) % 2 ^ 32, e, f, g]
  | l => l

/-- The eight words of a hash value. -/
def shaWords (h : Nat) : List Nat := (List.range 8).map (fun i => h / 2 ^ (32 * (7 - i)) % 2 ^ 32)
def shaUnwords (l : List Nat) : Nat := l.foldl (fun a x => a * 2 ^ 32 + x) 0

/-- Compress one 64-byte block into a chaining value. -/
def shaCompress (h : Nat) (block : List Byte) : Nat :=
  let w0 := (List.range 16).map (fun i => beNat ((block.drop (4 * i)).take 4))
  let w := (shaSched 48 w0.reverse).reverse
  let v := (withIx w).foldl (fun v iw => shaRound v (shaKTable / 2 ^ (32 * iw.1) % 2 ^ 32) iw.2) (shaWords h)
  shaUnwords (((shaWords h).zip v).map (fun p => (p.1 + p.2) % 2 ^ 32))

/-- Compress the whole blocks of a list. -/
def shaBlocks : Nat → Nat → List Byte → Nat
  | 0, h, _ => h
  | n + 1, h, bs => shaBlocks n (shaCompress h (bs.take 64)) (bs.drop 64)

/-- The padding of a message of `len` bytes. -/
def shaPad (len : Nat) : List Byte :=
  0x80#8 :: List.replicate ((119 - len % 64) % 64) 0#8 ++ beBytes 8 (8 * len)

/-- SHA-256. -/
def sha256 (m : List Byte) : Nat :=
  let p := m ++ shaPad m.length
  shaBlocks (p.length / 64) shaInit p

/-- HMAC-SHA-256. -/
def hmac (key m : List Byte) : Nat :=
  let k := if 64 < key.length then beBytes 32 (sha256 key) else key
  let k := k ++ List.replicate (64 - k.length) 0#8
  sha256 (k.map (· ^^^ 0x5C#8) ++ beBytes 32 (sha256 (k.map (· ^^^ 0x36#8) ++ m)))

/-- HKDF-SHA-256 with an output of at most 32 bytes, one expansion block. -/
def hkdf (salt z info : List Byte) : Nat := hmac (beBytes 32 (hmac salt z)) (info ++ [1#8])

/-- The bytes of a text, for the labels the manual spells in ASCII. -/
def ascii (s : String) : List Byte := s.toList.map (fun c => BitVec.ofNat 8 c.toNat)

/-! AES-256: a block is 16 numbers below 256, in byte order. -/

/-- The substitution box and its inverse, entry `i` in bits 8i + 7 to 8i. -/
def aesBox : Nat := 0x16bb54b00f2d99416842e6bf0d89a18cdf2855cee9871e9b948ed9691198f8e19e1dc186b95735610ef6034866b53e708a8bbd4b1f74dde8c6b4a61c2e2578ba08ae7a65eaf4566ca94ed58d6d37c8e779e4959162acd3c25c2406490a3a32e0db0b5ede14b8ee4688902a22dc4f816073195d643d7ea7c41744975fec130ccdd2f3ff1021dab6bcf5389d928f40a351a89f3c507f02f94585334d43fbaaefd0cf584c4a39becb6a5bb1fc20ed00d153842fe329b3d63b52a05a6e1b1a2c830975b227ebe28012079a059618c323c7041531d871f1e5a534ccf73f362693fdb7c072a49cafa2d4adf04759fa7dc982ca76abd7fe2b670130c56f6bf27b777c63
def aesBoxInv : Nat := 0x7d0c2155631469e126d677ba7e042b17619953833cbbebc8b0f52aae4d3be0a0ef9cc9939f7ae52d0d4ab519a97f51605fec8027591012b131c7078833a8dd1ff45acd78fec0db9a2079d2c64b3e56fc1bbe18aa0e62b76f89c5291d711af1476edf751ce837f9e28535ade72274ac9673e6b4f0cecff297eadc674f4111913a6b8a130103bdafc1020f3fca8f1e2cd00645b3b80558e4f70ad3bc8c00abd890849d8da75746155edab9edfd5048706c92b6655dcc5ca4d41698688664f6f87225d18b6d49a25b76b224d92866a12e084ec3fa420b954cee3d23c2a632947b54cbe9dec444438e3487ff2f9b8239e37cfbd7f3819ea340bf38a53630d56a0952

def aesSub (x : Nat) : Nat := aesBox / 2 ^ (8 * x) % 256
def aesSubInv (x : Nat) : Nat := aesBoxInv / 2 ^ (8 * x) % 256
def aesX2 (x : Nat) : Nat := if x < 128 then 2 * x else (2 * x) % 256 ^^^ 0x1B

/-- Product in the AES field by a constant below 16. -/
def aesMul (c x : Nat) : Nat :=
  let x2 := aesX2 x
  let x4 := aesX2 x2
  let x8 := aesX2 x4
  (if c.testBit 0 then x else 0) ^^^ (if c.testBit 1 then x2 else 0) ^^^ (if c.testBit 2 then x4 else 0) ^^^
    (if c.testBit 3 then x8 else 0)

def bytesOf (n x : Nat) : List Nat := (List.range n).map (fun i => x / 2 ^ (8 * (n - 1 - i)) % 256)
def unbytes (l : List Nat) : Nat := l.foldl (fun a x => a * 256 + x) 0

def subWord (w : Nat) : Nat := unbytes ((bytesOf 4 w).map aesSub)

/-- Key expansion, newest word first: `n` more words after word number `i - 1`. -/
def aesExpand : Nat → Nat → List Nat → List Nat
  | 0, _, w => w
  | n + 1, i, w =>
    let t := w.headD 0
    let t := if i % 8 = 0 then
        subWord (t % 2 ^ 24 * 256 + t / 2 ^ 24) ^^^ (2 ^ (i / 8 - 1) * 2 ^ 24)
      else if i % 8 = 4 then subWord t else t
    aesExpand n (i + 1) ((w.getD 7 0 ^^^ t) :: w)

/-- The 15 round keys of a 256-bit key, each as 16 bytes. -/
def aesKeys (key : Nat) : List (List Nat) :=
  let w := (aesExpand 52 8 (shaWords key).reverse).reverse
  (List.range 15).map (fun r => ((w.drop (4 * r)).take 4).flatMap (bytesOf 4))

def xorList (a b : List Nat) : List Nat := (a.zip b).map (fun p => p.1 ^^^ p.2)

/-- Row `r` of column `c` moves from column `c + r`. -/
def aesShift (b : List Nat) : List Nat := (List.range 16).map (fun i => b.getD ((i + 4 * (i % 4)) % 16) 0)
def aesShiftInv (b : List Nat) : List Nat := (List.range 16).map (fun i => b.getD ((i + 12 * (i % 4)) % 16) 0)

/-- Multiply each column by a circulant matrix with first row `m`. -/
def aesMix (m : List Nat) (b : List Nat) : List Nat :=
  (List.range 16).map (fun i =>
    (List.range 4).foldl (fun a j => a ^^^ aesMul (m.getD ((j + 4 - i % 4) % 4) 0) (b.getD (i / 4 * 4 + j) 0)) 0)

def aesEncK (ks : List (List Nat)) (block : Nat) : Nat :=
  let k (r : Nat) := ks.getD r []
  let s := xorList (bytesOf 16 block) (k 0)
  let s := (List.range 13).foldl (fun s r => xorList (aesMix [2, 3, 1, 1] (aesShift (s.map aesSub))) (k (r + 1))) s
  unbytes (xorList (aesShift (s.map aesSub)) (k 14))

def aesDecK (ks : List (List Nat)) (block : Nat) : Nat :=
  let k (r : Nat) := ks.getD r []
  let s := (aesShiftInv (xorList (bytesOf 16 block) (k 14))).map aesSubInv
  let s := (List.range 13).foldl (fun s r =>
    (aesShiftInv (aesMix [14, 11, 13, 9] (xorList s (k (13 - r))))).map aesSubInv) s
  unbytes (xorList s (k 0))

/-- AES-256 on one 128-bit block. -/
def aes256 (key block : Nat) : Nat := aesEncK (aesKeys key) block

/-! GHASH and GCM: a block is a 128-bit number, its first bit the most significant. -/

/-- Product in the field of GHASH. -/
def ghMul (x y : Nat) : Nat :=
  ((List.range 128).foldl (fun (a : Nat × Nat) i =>
    let z := if x.testBit (127 - i) then a.1 ^^^ a.2 else a.1
    (z, if a.2 % 2 = 1 then (a.2 / 2) ^^^ (0xE1 * 2 ^ 120) else a.2 / 2)) (0, y)).1

/-- The 16-byte blocks of a byte string, the last filled with zeros. -/
def blocks16 (bs : List Byte) : List Nat :=
  (List.range ((bs.length + 15) / 16)).map (fun i =>
    let c := (bs.drop (16 * i)).take 16
    beNat (c ++ List.replicate (16 - c.length) 0#8))

def ghash (h : Nat) (blocks : List Nat) : Nat := blocks.foldl (fun a b => ghMul (a ^^^ b) h) 0

/-- The input blocks that GCM hashes. -/
def gcmBlocks (aad ct : List Byte) : List Nat :=
  blocks16 aad ++ blocks16 ct ++ [8 * aad.length * 2 ^ 64 + 8 * ct.length]

/-- Counter mode from counter block `ctr`. -/
def gcmCtr (ks : List (List Nat)) (ctr : Nat) (bs : List Byte) : List Byte :=
  (List.range ((bs.length + 15) / 16)).flatMap (fun i =>
    let c := (bs.drop (16 * i)).take 16
    let block := ctr / 2 ^ 32 * 2 ^ 32 + (ctr + i) % 2 ^ 32
    (c.zip (beBytes 16 (aesEncK ks block))).map (fun p => p.1 ^^^ p.2))

/-- AES-256-GCM: the text sealed or opened and, over the ciphertext, the tag. -/
def gcmSeal (key : Nat) (iv aad pt : List Byte) : List Byte × Nat :=
  let ks := aesKeys key
  let j0 := beNat iv * 2 ^ 32 + 1
  let ct := gcmCtr ks (j0 + 1) pt
  (ct, ghash (aesEncK ks 0) (gcmBlocks aad ct) ^^^ aesEncK ks j0)

def gcmOpen (key : Nat) (iv aad ct : List Byte) : List Byte × Nat :=
  let ks := aesKeys key
  let j0 := beNat iv * 2 ^ 32 + 1
  (gcmCtr ks (j0 + 1) ct, ghash (aesEncK ks 0) (gcmBlocks aad ct) ^^^ aesEncK ks j0)

/-! XTS-AES-256 on a data unit of whole blocks (IEEE 1619). -/

/-- Multiply a tweak, 16 bytes little-endian as a number, by α. -/
def xtsDouble (t : Nat) : Nat := (2 * t) % 2 ^ 128 ^^^ (if t < 2 ^ 127 then 0 else 0x87)

def xtsFold (f : Nat → Nat) : List Nat → Nat → List Byte
  | [], _ => []
  | b :: bs, t =>
    let tb := beNat (leBytes 16 t)
    beBytes 16 (f (b ^^^ tb) ^^^ tb) ++ xtsFold f bs (xtsDouble t)

/-- The tweak block of data unit `unit` as a little-endian number. -/
def xtsTweak (k2 unit : Nat) : Nat := leNat (beBytes 16 (aes256 k2 (beNat (leBytes 16 unit))))

def xtsEnc (k1 k2 unit : Nat) (pt : List Byte) : List Byte :=
  let ks := aesKeys k1
  xtsFold (aesEncK ks) (blocks16 pt) (xtsTweak k2 unit)

def xtsDec (k1 k2 unit : Nat) (ct : List Byte) : List Byte :=
  let ks := aesKeys k1
  xtsFold (aesDecK ks) (blocks16 ct) (xtsTweak k2 unit)

end Sys2Proof
end

