-- ==== Sys2Proof/Config.lean ====
section
/-! DEFINITION. What the part leaves free: values without a body, on which no proof can rest, and fixed constants of this part. -/

namespace Sys2Proof.Config

/-- The `n`-th random word drawn from the module's generator (R384): free, log 8. -/
opaque random : Nat → BitVec 256

/-- Whether a special-function result that no precision of `Machine.Sfu` separates from a rounding breakpoint rounds up (log 10):
function number and input code. -/
opaque sfuUp : Nat → Nat → Bool

/-- TOKEN and KEPT of a result record beside STATUS 2 to 4 (R84): free, log 14; seed, virtual rank, virtual core, stream and position. -/
opaque freeRecord : Nat → Nat → Nat → Nat → Nat → BitVec 64

/-- The content of a 64-byte HBM unit that nothing has written since power-on (log 7): power-on count and block address. -/
opaque hbmPowerOn : Nat → Nat → BitVec 512

/-- The severity of an event for which no rule states one (log 11): event type and reason code. -/
opaque eventSeverity : Nat → Nat → BitVec 2

/-- The `n`-th value that the manual leaves unstated in a result it writes (log 14). -/
opaque freeValue : Nat → BitVec 64

/-- Bytes of a block of a save area that the `n`-th save wrote (R295): the manual gives the area no layout; free, log 14. -/
opaque savedBlock : Nat → Nat → BitVec 2048

/-- Versions of the components of Table 14.1 by id and image, the ROM's measurement, and the microcode version of Table 13.3, which the manual does not
print: free, log 16. Component 6 is the arithmetic tables. -/
opaque compVersion : Nat → List Byte → BitVec 32
opaque romMeasure : BitVec 256
opaque microcode : List Byte → BitVec 32

/-- The bytes of component `id` that a slot's image body holds for loading into its engines (Table 14.1): free, log 16. -/
opaque component : Nat → List Byte → List Byte

/-- SHA-256 of the manufacturing root's public key, held in ROM (R373): free, log 18. -/
opaque rootDigest : BitVec 256

/-- The public keys of the switch roots that Hearth firmware lists (R214): free, log 18. -/
opaque switchRoots : List (BitVec 512)

/-- The 16-byte header of a Barrin transaction of the module (R381), by kind, address and size: free, log 14. -/
opaque barrinHeader : Nat → Nat → Nat → BitVec 128

/-- The traffic keys of a TLS 1.3 connection from its drawn seed (R383, R386): free, log 18; direction and seed. -/
opaque trafficKey : Nat → BitVec 256 → BitVec 256

/-- The payload of a training message (R212, R215): kind 1 lanes and width in ALIGN, 2 an echo, 3 its return, with two arguments; the manual
gives no layout: free, log 15. -/
opaque trainMsg : Nat → Nat → Nat → BitVec 512

/-- The power cap of a single-board installation in watts (R301): free, log 14. -/
opaque boardCap : Nat

/-- The bank of the stacks that the controllers' internal hash gives an HBM block (R255): free, log 13. -/
opaque hbmBank : Nat → Nat

/-- The attempts that fail in the `n`-th alignment of stretch domains (R325): free, log 13. -/
opaque alignTries : Nat → Nat

/-- What Hearth's IEEE 1588 client does on the `n`-th receive stamp that it acts on (R342): free, log 14. Bits 31:0 an increment; bit 32
whether it also steps the counter, by bits 127:64 in nanoseconds. -/
opaque servo : Nat → BitVec 128

/-- The pseudo-channel of the stacks that holds a bank (R271): free, log 13. -/
opaque hbmChannel : Nat → Nat

end Sys2Proof.Config
end

