-- ==== Sys2Proof/Machine/Float.lean ====
section
/-! DEFINITION. Number formats, exact values, rounding and flags (R30 to R39, R42 to R44, R48, R49, R55, R56). -/

namespace Sys2Proof

/-- The eight element formats of Table 2.1, and INT32 (Table 5.3 code 8). -/
inductive Fmt where
  | e4m3 | e5m2 | e2m3 | e2m1 | int8 | bf16 | fp16 | fp32 | int32
  deriving DecidableEq, Repr

/-- The format codes of R111 and Table 5.3. -/
def Fmt.ofCode : Nat → Option Fmt
  | 0 => some .e4m3 | 1 => some .e5m2 | 2 => some .e2m3 | 3 => some .e2m1 | 4 => some .int8
  | 5 => some .bf16 | 6 => some .fp16 | 7 => some .fp32 | 8 => some .int32 | _ => none

/-- Width of an element in bits, packed (Table 2.1). -/
def Fmt.bits : Fmt → Nat
  | .e4m3 => 8 | .e5m2 => 8 | .e2m3 => 6 | .e2m1 => 4 | .int8 => 8 | .bf16 => 16 | .fp16 => 16 | .fp32 => 32 | .int32 => 32

/-- Width of an element in a vector register: FP6 sits in an 8-bit container (Table 5.3). -/
def Fmt.wid : Fmt → Nat
  | .e2m3 => 8 | f => f.bits

/-- Mantissa bits (R38). -/
def Fmt.mbits : Fmt → Nat
  | .fp32 => 23 | .bf16 => 7 | .fp16 => 10 | .e4m3 => 3 | .e5m2 => 2 | .e2m3 => 3 | .e2m1 => 1 | .int8 => 0 | .int32 => 0

/-- Exponent bias (Table 2.1). -/
def Fmt.bias : Fmt → Nat
  | .fp32 => 127 | .bf16 => 127 | .fp16 => 15 | .e4m3 => 7 | .e5m2 => 15 | .e2m3 => 1 | .e2m1 => 1 | .int8 => 0 | .int32 => 0

/-- Exponent of the minimum normal (R38). -/
def Fmt.emin : Fmt → Int
  | .int8 => 0 | .int32 => 0 | f => 1 - f.bias

/-- The largest finite magnitude as (mantissa, exponent) (Table 2.1). -/
def Fmt.maxfin : Fmt → Nat × Int
  | .fp32 => (2 ^ 24 - 1, 104) | .bf16 => (2 ^ 8 - 1, 120) | .fp16 => (2 ^ 11 - 1, 5) | .e4m3 => (14, 5)
  | .e5m2 => (7, 13) | .e2m3 => (15, -1) | .e2m1 => (3, 1) | .int8 => (127, 0) | .int32 => (2 ^ 31 - 1, 0)

/-- The canonical NaN of a format, +0 or integer 0 where it has none (R32). -/
def Fmt.nan : Fmt → Nat
  | .fp32 => 0x7FC00000 | .bf16 => 0x7FC0 | .fp16 => 0x7E00 | .e4m3 => 0x7F | .e5m2 => 0x7E | _ => 0

/-- An exact value: NaN, an infinity, or `(-1)^neg * mag * 2^exp` with the sign of zero kept (R34). -/
inductive Val where
  | nan
  | inf (neg : Bool)
  | fin (neg : Bool) (mag : Nat) (exp : Int)
  deriving DecidableEq, Repr

/-- Exception flags in the order of Table 2.8: bit 3 INVALID, 2 OVERFLOW, 1 UNDERFLOW, 0 INEXACT. -/
abbrev Flags := BitVec 4
def fInvalid : Flags := 8#4
def fOverflow : Flags := 4#4
def fUnderflow : Flags := 2#4
def fInexact : Flags := 1#4

/-- The rounding modes of R37. -/
inductive Rm where
  | rne | rtz | sr
  deriving DecidableEq, Repr

def Rm.ofCode : Nat → Option Rm
  | 0 => some .rne | 1 => some .rtz | 2 => some .sr | _ => none

/-- The value of a code (R30, R31). -/
def Fmt.decode (f : Fmt) (code : Nat) : Val :=
  match f with
  | .int8 => let x := toSigned 8 (code % 256); .fin (x < 0) x.natAbs 0
  | .int32 => let x := toSigned 32 (code % 2 ^ 32); .fin (x < 0) x.natAbs 0
  | _ =>
    let w := f.bits
    let s := nfld code (w - 1) (w - 1) == 1
    let mb := f.mbits
    let e := nfld code (w - 2) mb
    let m := code % 2 ^ mb
    let emax := 2 ^ (w - 1 - mb) - 1
    let special := match f with
      | .fp32 => e == emax | .bf16 => e == emax | .fp16 => e == emax | .e5m2 => e == emax
      | .e4m3 => e == emax && m == 7
      | _ => false
    if special then (if m == 0 then .inf s else .nan)
    else if e == 0 then .fin s m (1 - (f.bias : Int) - mb)
    else .fin s (m + 2 ^ mb) ((e : Int) - f.bias - mb)

/-- Compare two magnitudes `m1 * 2^e1 ≤ m2 * 2^e2`. -/
def magLe (m1 : Nat) (e1 : Int) (m2 : Nat) (e2 : Int) : Bool :=
  let e := min e1 e2
  m1 * 2 ^ (e1 - e).toNat ≤ m2 * 2 ^ (e2 - e).toNat

/-- The code of sign `s` and magnitude `n * 2^qe`, where `n * 2^qe` is a magnitude of the format. -/
def Fmt.encode (f : Fmt) (s : Bool) (n : Nat) (qe : Int) : Nat :=
  match f with
  | .int8 => wrapInt 8 (if s then -(n : Int) else n)
  | .int32 => wrapInt 32 (if s then -(n : Int) else n)
  | _ =>
    let mb := f.mbits
    let sign := if s then 2 ^ (f.bits - 1) else 0
    if n < 2 ^ mb then sign + n
    else
      let (n, qe) := if n < 2 ^ (mb + 1) then (n, qe) else (n / 2, qe + 1)
      sign + ((qe + mb + f.bias).toNat * 2 ^ mb) + (n - 2 ^ mb)

/-- The code of an infinity; used for formats that have one. -/
def Fmt.infCode (f : Fmt) (s : Bool) : Nat :=
  let sign := if s then 2 ^ (f.bits - 1) else 0
  sign + (2 ^ (f.bits - 1 - f.mbits) - 1) * 2 ^ f.mbits

def Fmt.maxCode (f : Fmt) (s : Bool) : Nat := f.encode s f.maxfin.1 f.maxfin.2

/-- Formats whose conversions always saturate (Table 2.4). -/
def Fmt.alwaysSat : Fmt → Bool
  | .e2m3 => true | .e2m1 => true | .int8 => true | _ => false

/-- `round` of R38 with the special values of Table 2.4: the code and the flags it sets. -/
def roundTo (f : Fmt) (rm : Rm) (sat : Bool) (u24 : Nat) (v : Val) : Nat × Flags :=
  match v with
  | .nan => (f.nan, if f.alwaysSat then fInvalid else 0#4)
  | .inf s =>
    if f.alwaysSat then (f.maxCode s, fOverflow ||| fInexact)
    else if f = .e4m3 then
      if sat then (f.maxCode s, fOverflow ||| fInexact) else (f.nan, fInvalid)
    else (f.infCode s, 0#4)
  | .fin s mag exp =>
    if mag = 0 then (f.encode s 0 0, 0#4)
    else
      let e : Int := if f = .int8 then 0 else max ((mag.log2 : Int) + exp) f.emin
      let qe : Int := e - f.mbits
      let up := exp - qe
      let n := if 0 ≤ up then mag * 2 ^ up.toNat else mag / 2 ^ (-up).toNat
      let sh := (-up).toNat
      let rem := if 0 ≤ up then 0 else mag % 2 ^ sh
      let exact := rem = 0
      let roundUp : Bool :=
        if exact then false
        else match rm with
          | .rne => 2 ^ sh < 2 * rem || (2 * rem == 2 ^ sh && n % 2 == 1)
          | .rtz => false
          | .sr => 2 ^ 24 ≤ rem * 2 ^ 24 / 2 ^ sh + u24
      let y := if roundUp then n + 1 else n
      if !magLe y qe f.maxfin.1 f.maxfin.2 then
        let fl := fOverflow ||| fInexact
        if sat || rm = .rtz || f.alwaysSat then (f.maxCode s, fl)
        else if f = .e4m3 then (f.nan, fl)
        else (f.infCode s, fl)
      else
        let fl : Flags := if exact then 0#4 else fInexact
        let tiny := y < 2 ^ f.mbits && f ≠ .int8
        (f.encode s y qe, if !exact && tiny then fl ||| fUnderflow else fl)

/-- Exact sum of two finite values, an exact zero of mixed signs being +0 (R34). -/
def addFin (s1 : Bool) (m1 : Nat) (e1 : Int) (s2 : Bool) (m2 : Nat) (e2 : Int) : Val :=
  let e := min e1 e2
  let a : Int := (m1 * 2 ^ (e1 - e).toNat : Nat)
  let b : Int := (m2 * 2 ^ (e2 - e).toNat : Nat)
  let x := (if s1 then -a else a) + (if s2 then -b else b)
  if x = 0 then .fin (m1 == 0 && m2 == 0 && s1 && s2) 0 0 else .fin (x < 0) x.natAbs e

/-- Exact sum; the flag is INVALID for infinities of opposite sign (R125). -/
def Val.add : Val → Val → Val × Flags
  | .nan, _ => (.nan, 0#4)
  | _, .nan => (.nan, 0#4)
  | .inf a, .inf b => if a = b then (.inf a, 0#4) else (.nan, fInvalid)
  | .inf a, _ => (.inf a, 0#4)
  | _, .inf b => (.inf b, 0#4)
  | .fin s1 m1 e1, .fin s2 m2 e2 => (addFin s1 m1 e1 s2 m2 e2, 0#4)

def Val.neg : Val → Val
  | .nan => .nan
  | .inf s => .inf (!s)
  | .fin s m e => .fin (!s) m e

/-- Exact product; the flag is INVALID for zero times infinity (R125). -/
def Val.mul : Val → Val → Val × Flags
  | .nan, _ => (.nan, 0#4)
  | _, .nan => (.nan, 0#4)
  | .inf a, .inf b => (.inf (a != b), 0#4)
  | .inf a, .fin s m _ => if m = 0 then (.nan, fInvalid) else (.inf (a != s), 0#4)
  | .fin s m _, .inf b => if m = 0 then (.nan, fInvalid) else (.inf (s != b), 0#4)
  | .fin s1 m1 e1, .fin s2 m2 e2 => (.fin (s1 != s2) (m1 * m2) (e1 + e2), 0#4)

/-- `a * b + c` with one rounding to come (R126): zero times infinity is INVALID whatever `c` is. -/
def Val.fma (a b c : Val) : Val × Flags :=
  let (p, fl) := a.mul b
  if fl ≠ 0#4 then (.nan, fl) else p.add c

/-- FP32 addition rounded once under RNE (R48). -/
def add32 (x y : Nat) : Nat × Flags :=
  let (v, f1) := (Fmt.fp32.decode x).add (Fmt.fp32.decode y)
  let (r, f2) := roundTo .fp32 .rne false 0 v
  (r, f1 ||| f2)

/-- One level of the pairwise tree of R48: neighbours combined, an odd last element carried. -/
def treeLevel (op : Nat → Nat → Nat × Flags) : List Nat → List Nat × Flags
  | x :: y :: rest =>
    let (z, f) := op x y
    let (zs, g) := treeLevel op rest
    (z :: zs, f ||| g)
  | l => (l, 0#4)

/-- `tree_sum` of R48, by levels; `fuel` is at least the number of levels. -/
def treeSumFuel (op : Nat → Nat → Nat × Flags) : Nat → List Nat → Flags → Nat × Flags
  | 0, l, f => (l.headD 0, f)
  | n + 1, l, f =>
    match l with
    | [x] => (x, f)
    | _ => let (l', g) := treeLevel op l; treeSumFuel op n l' (f ||| g)

def treeSum (op : Nat → Nat → Nat × Flags) (l : List Nat) : Nat × Flags := treeSumFuel op l.length l 0#4

/-- The total order used by `max`, `min` and compare: `a < b` of two values that are not NaN (+0 = -0). -/
def Val.lt : Val → Val → Bool
  | .inf a, .inf b => a && !b
  | .inf a, .fin .. => a
  | .fin .., .inf b => !b
  | .fin s1 m1 e1, .fin s2 m2 e2 =>
    match addFin s1 m1 e1 (!s2) m2 e2 with
    | .fin s m _ => s && m != 0
    | _ => false
  | _, _ => false

def Val.isNan : Val → Bool
  | .nan => true
  | _ => false

def Val.isZero : Val → Bool
  | .fin _ 0 _ => true
  | _ => false

def Val.isNeg : Val → Bool
  | .nan => false
  | .inf s => s
  | .fin s _ _ => s

/-- Maximum (`isMax`) or minimum of R56 on codes of format `f`: NaN gives NaN, max(+0, -0) = +0, min(+0, -0) = -0. -/
def maxMinCode (f : Fmt) (isMax : Bool) (x y : Nat) : Nat :=
  let a := f.decode x
  let b := f.decode y
  if a.isNan || b.isNan then f.nan
  else if a.isZero && b.isZero then (if a.isNeg == isMax then y else x)
  else if (if isMax then b.lt a else a.lt b) then x
  else if (if isMax then a.lt b else b.lt a) then y else x

/-- The clamped 32-bit addition of R50 and R56, with OVERFLOW and INEXACT where it clamps. -/
def addClamp32 (x : Nat) (add : Int) : Nat × Flags :=
  let t := toSigned 32 x + add
  let c := max (-(2 ^ 31 : Int)) (min t (2 ^ 31 - 1))
  (wrapInt 32 c, if c = t then 0#4 else fOverflow ||| fInexact)

/-- `to_int32` of R131: round to an integer with spacing 1, clamp to the INT32 range. -/
def toInt32 (rm : Rm) (u24 : Nat) (v : Val) : Nat × Flags :=
  match v with
  | .nan => (0, fInvalid)
  | .inf s => (if s then 0x80000000 else 0x7FFFFFFF, fOverflow ||| fInexact)
  | .fin s mag exp =>
    let sh := (-exp).toNat
    let n := if 0 ≤ exp then mag * 2 ^ exp.toNat else mag / 2 ^ sh
    let rem := if 0 ≤ exp then 0 else mag % 2 ^ sh
    let up : Bool := if rem = 0 then false else
      match rm with
      | .rne => 2 ^ sh < 2 * rem || (2 * rem == 2 ^ sh && n % 2 == 1)
      | .rtz => false
      | .sr => 2 ^ 24 ≤ rem * 2 ^ 24 / 2 ^ sh + u24
    let y := if up then n + 1 else n
    let r : Int := if s then -(y : Int) else y
    if r > 2 ^ 31 - 1 then (0x7FFFFFFF, fOverflow ||| fInexact)
    else if r < -(2 ^ 31 : Int) then (0x80000000, fOverflow ||| fInexact)
    else (wrapInt 32 r, if rem = 0 then 0#4 else fInexact)

/-- `emax_elem` of R36. -/
def emaxElem : Fmt → Int
  | .e4m3 => 8 | .e5m2 => 15 | .e2m3 => 2 | .e2m1 => 2 | _ => 0

/-- `mx_quantise` of R36 on 32 FP32 codes, the draws given: scale code, element codes, flags. -/
def mxQuantise (f : Fmt) (rm : Rm) (xs : List Nat) (draws : Nat → Nat) : Nat × List Nat × Flags :=
  let vs := xs.map Fmt.fp32.decode
  if vs.any (fun v => match v with | .fin .. => false | _ => true) then (0xFF, xs.map (fun _ => 0), 0#4)
  else
    let logs := vs.filterMap (fun v => match v with
      | .fin _ m e => if m = 0 then none else some ((m.log2 : Int) + e)
      | _ => none)
    let shared : Int := match logs with
      | [] => -127
      | l :: ls => min (max (ls.foldl max l - emaxElem f) (-127)) 127
    let els := (withIx vs).map (fun (i, v) =>
      let v' : Val := match v with
        | .fin s m e => .fin s m (e - shared + (if f = Fmt.int8 then 6 else 0))
        | x => x
      roundTo f rm true (draws i) v')
    ((shared + 127).toNat, els.map (·.1), els.foldl (fun a x => a ||| x.2) 0#4)

/-- `philox4x32_10` of R40. -/
def philoxRound (c : Nat × Nat × Nat × Nat) (k : Nat × Nat) : Nat × Nat × Nat × Nat :=
  let p0 := 0xD2511F53 * c.1
  let p1 := 0xCD9E8D57 * c.2.2.1
  ((p1 / 2 ^ 32) ^^^ c.2.1 ^^^ k.1, p1 % 2 ^ 32, (p0 / 2 ^ 32) ^^^ c.2.2.2 ^^^ k.2, p0 % 2 ^ 32)

def philoxFuel : Nat → (Nat × Nat × Nat × Nat) → (Nat × Nat) → Nat × Nat × Nat × Nat
  | 0, c, _ => c
  | n + 1, c, k => philoxFuel n (philoxRound c k) ((k.1 + 0x9E3779B9) % 2 ^ 32, (k.2 + 0xBB67AE85) % 2 ^ 32)

def philox (c : Nat × Nat × Nat × Nat) (k : Nat × Nat) : Nat × Nat × Nat × Nat := philoxFuel 10 c k

/-- `draw` of R40: one 32-bit word of the job's generator. -/
def draw (seed domain vrank vcore stream idx : Nat) : Nat :=
  let q := idx / 4
  let c := (q % 2 ^ 32, (stream % 2 ^ 16) * 2 ^ 16 + q / 2 ^ 32 % 2 ^ 16,
            (vrank % 2 ^ 16) * 2 ^ 16 + vcore % 2 ^ 16, (domain % 256) * 2 ^ 24)
  let r := philox c (seed % 2 ^ 32, seed / 2 ^ 32 % 2 ^ 32)
  match idx % 4 with
  | 0 => r.1 | 1 => r.2.1 | 2 => r.2.2.1 | _ => r.2.2.2

/-- `draw24` of R40: 24 bits for stochastic rounding. -/
def draw24 (seed vrank vcore stream idx : Nat) : Nat := draw seed 1 vrank vcore stream idx / 256

end Sys2Proof
end

