-- ==== Sys2Proof/Machine/CoreTypes.lean ====
section
/-! DEFINITION. The state of one core and of its cluster's steward, tap and sampler (03, 04, 05, 10). -/

namespace Sys2Proof.Machine

/-- A loop stack entry (R74). -/
structure LoopEntry where
  start : Nat
  stop  : Nat
  count : Nat
  deriving DecidableEq, Repr

/-- An accumulator tile (R66): its mode and its 64 rows of 64 elements of 32 bits, rows of zeros unlisted. -/
structure Tile where
  int32 : Bool
  rows  : SMap (BitVec 2048)
  deriving DecidableEq, Repr

def Tile.zero : Tile := ⟨false, []⟩

/-- A weight buffer (R64): 8 KiB of data, 256 scale bytes, the load configuration. -/
structure WBuf where
  data  : BitVec 65536
  scale : BitVec 2048
  cfg   : BitVec 9
  deriving DecidableEq, Repr

def WBuf.zero : WBuf := ⟨0#65536, 0#2048, 0#9⟩

/-- A departure-list entry (R139, R140, R158); `dep` is an absolute beat of the module. -/
structure Departure where
  core  : Nat
  ccen  : Bool
  cc    : Nat
  route : Nat
  cidx  : Nat
  n     : Nat
  dep   : Nat
  src   : Nat
  done  : Nat
  issue : Nat
  multi : Bool
  deriving DecidableEq, Repr

/-- A Pantry-class operation of a core or steward (R138, R141 to R145): `opcode` as Table 4.6, `p` its Pantry address
(for a copy the source), `dst` a copy's destination, `l` the SRAM address, `n` bytes, `aop` the atomic code; `issued` its issue beat. -/
structure PanOp where
  cluster : Nat
  core    : Nat
  steward : Bool
  opcode  : Nat
  p       : Nat
  dst     : Nat
  l       : Nat
  n       : Nat
  aop     : Nat
  cc      : Nat
  pc      : Nat
  data    : BitVec 512
  layer   : Nat
  oper    : Nat
  seq     : Nat
  issued  : Nat
  deriving DecidableEq, Repr

/-- A sample request (R82, R136). -/
structure SampleReq where
  core : Nat
  slot : Nat
  addr : Nat
  layer : Nat
  oper : Nat
  seq  : Nat
  deriving DecidableEq, Repr

/-- A fabric request that a core hands to its cluster. -/
inductive FabReq where
  | send   (d : Departure)
  | board  (o : PanOp)
  | pantry (o : PanOp)
  | sample (r : SampleReq)
  deriving DecidableEq, Repr

/-- What an action of a core does in its beat. The first group, to `stg`, takes SRAM bank slots, the second writes results, which for a
weight load and a board write are the bytes that the access of the beat read. A `w1`
names the weight buffer that a load fills; a row holds the buffer that was active when its MMA issued (R64, R113), a half row the
other half's bytes once those are read. -/
inductive Eff where
  | loadS  (d addr : Nat) (n : Nat) (sx : Bool)
  | loadV  (v addr : Nat)
  | storeA (addr : Nat) (bytes : List Byte)
  | wload  (addr : Nat) (i : Nat) (w1 : Bool)
  | wscale (addr n : Nat) (w1 : Bool)
  | mmaRow (tile row addr rb : Nat) (asc : Option Nat) (w : WBuf) (cfg : BitVec 20)
  | mmaHalf (tile row addr : Nat) (second : Bool) (other : Option (List Byte)) (w : WBuf) (cfg : BitVec 20)
  | hread  (unit : Nat) (addr : Nat) (dir hops : Nat) (dst : Nat) (cc : Option Nat)
  | stg    (o : PanOp)
  | wdata  (i : Nat) (data : BitVec 4096) (w1 : Bool)
  | wscl   (n : Nat) (data : BitVec 2048) (w1 : Bool)
  | stgGo  (o : PanOp)
  | sreg   (d : Nat) (x : W64)
  | preg   (d : Nat) (x mask : Pred)
  | vreg   (d : Nat) (x mask : VecReg)
  | acfg   (x : BitVec 20)
  | store  (addr : Nat) (bytes : List Byte)
  | wcfg   (x : BitVec 9) (w1 : Bool)
  | swap
  | tclr   (tile : Nat) (int32 : Bool)
  | rowClr (tile j : Nat)
  | rowAdd (tile row : Nat) (iacc : Bool) (gs : List (List Int))
  | ccSet  (n : Nat) (x : W32)
  | ccAdd  (n : Nat) (x : W32)
  | flclr  (g : Nat) (mask : Flags)
  | flagsOnly
  deriving DecidableEq, Repr

/-- An action at beat `due` of an instruction issued at beat `issue` in slot `slot` (0 M, 1 A, 2 V, 3 S: the order of
R89) of the bundle at `pc`; `late` marks an access put off by a bank conflict; `fl` the flags it records in set `fset`. -/
structure Act where
  due   : Nat
  issue : Nat
  slot  : Nat
  pc    : Nat
  late  : Bool
  eff   : Eff
  fset  : Option Nat
  fl    : Flags
  deriving DecidableEq, Repr

/-- Why a core does or does not issue (R76, R79, R103, R444). -/
inductive Run where
  | loaded   -- stopped, since a program load or reset
  | done     -- stopped by DONE
  | faulted  -- stopped by a fault until a program load
  | running
  | draining (cc : Nat)  -- DONE issued, earlier instructions completing
  deriving DecidableEq, Repr

/-- What issue waits for (R76, R85, R102, R149); the slots of one bundle may each give a reason. -/
inductive Wait where
  | guard (n : Nat) (target : W32)
  | queue (r : FabReq)
  | beat  (b : Nat)
  deriving DecidableEq, Repr

/-- One core (Table 3.1). Sparse tables default to zero. -/
structure Core where
  sreg   : SMap W64
  preg   : SMap Pred
  vreg   : SMap VecReg
  flags  : SMap Flags
  cc     : SMap W32
  tiles  : SMap Tile
  wb0    : WBuf
  wb1    : WBuf
  act1   : Bool
  acfg   : BitVec 20
  rseq   : SMap (BitVec 41)
  dseq   : SMap (BitVec 42)
  groups : SMap W16
  istore : SMap (BitVec 128)
  loops  : List LoopEntry
  pc     : Nat
  branch : Option Nat
  run    : Run
  waits  : List Wait
  since  : Nat
  skip   : Option Nat
  start  : Option Nat
  acts   : List Act
  wbFree : Nat
  arFree : Nat
  acFree : Nat
  sfFree : Nat
  rdFree : Nat
  banks  : List (Nat × Nat × Nat × Nat)
  bankAt : Nat
  open_  : Nat
  fault  : W64
  vcore  : W16
  vrank  : W16
  sram   : Mem
  sramErr : SMap Byte
  deriving DecidableEq, Repr

/-- A core after program load or reset (R61, R63, R64, R66, R75, R111, R116, R124, Table 16.1). -/
def Core.zero : Core where
  sreg := []
  preg := []
  vreg := []
  flags := []
  cc := []
  tiles := []
  wb0 := WBuf.zero
  wb1 := WBuf.zero
  act1 := false
  acfg := 0#20
  rseq := []
  dseq := []
  groups := []
  istore := []
  loops := []
  pc := 0
  branch := none
  run := .loaded
  waits := []
  since := 0
  skip := none
  start := none
  acts := []
  wbFree := 0
  arFree := 0
  acFree := 0
  sfFree := 0
  rdFree := 0
  banks := []
  bankAt := 0
  open_ := 0
  fault := 0#64
  vcore := 0#16
  vrank := 0#16
  sram := []
  sramErr := []

/-- A Hallway unit in transit (R108): it enters hop `hop` (from 1) of `hops` at beat `enter`. -/
structure HallUnit where
  src   : Nat
  dir   : Nat
  hop   : Nat
  hops  : Nat
  enter : Nat
  issue : Nat
  dst   : Nat
  data  : BitVec 1024
  cc    : Option Nat
  pc    : Nat
  deriving DecidableEq, Repr

end Sys2Proof.Machine
end

