-- ==== Sys2Proof/Machine/FabricTypes.lean ====
section
/-! DEFINITION. The state of the fabric: cells, ports (07), the landing path (06), Pantry engines and topology (08). -/

namespace Sys2Proof.Machine

/-- A cell without its link fields: class, class form (Table 7.5), payload. -/
structure Cell where
  cls     : BitVec 2
  form    : BitVec 40
  payload : BitVec 512
  deriving DecidableEq, Repr

def Cell.null : Cell := ⟨3#2, 0#40, 0#512⟩
def Cell.route (c : Cell) : Nat := fld c.form 19 4
def Cell.cidx (c : Cell) : Nat := fld c.form 39 20
def Cell.dst (c : Cell) : Nat := fld c.form 39 28
def Cell.src (c : Cell) : Nat := fld c.form 27 16
def Cell.reqId (c : Cell) : Nat := fld c.form 15 0

/-- The source of a cell that no port received: a tap, an engine, the module itself. -/
def ownSource : Nat := 9

/-- A cell on its way to a port: departure beat `dep` (R158, R162), eligible from `elig`, slip counted from `base` (R163), `src`
the port that received it or `ownSource`; `transit` for a Pantry cell of another module (R240). -/
structure TxEntry where
  cell    : Cell
  dep     : Nat
  elig    : Nat
  base    : Nat
  src     : Nat
  transit : Bool
  deriving DecidableEq, Repr

/-- A cell in the replay buffer (R198, R201 to R203). -/
structure Replay where
  seq    : Nat
  cell   : Cell
  last   : Nat
  count  : Nat
  marked : Option Nat
  deriving DecidableEq, Repr

/-- A slot of a received frame until its release beat (R161, R195): accepted (`ok`) or failed; `old` for one that was accepted before a
flush, whose sequence number no longer counts (R219). -/
structure RxCell where
  ok   : Bool
  old  : Bool
  rel  : Nat
  hdr  : BitVec 80
  data : BitVec 512
  deriving DecidableEq, Repr

/-- A received Pantry cell for this module, or one of its own (R238): in hand from beat `elig`, in the buffer of port `src`
until it is served; `got` is what a read of SRAM, or a status cell's count of entries applied, has come to (R71). -/
structure RxPan where
  elig : Nat
  src  : Nat
  cell : Cell
  got  : List Byte
  deriving DecidableEq, Repr

/-- An uncorrectable frame awaiting verification (R195, R196). -/
structure PendFrame where
  fctr    : Nat
  tag     : BitVec 128
  ekj0    : BitVec 128
  part    : BitVec 128
  mask    : BitVec 18
  asked   : Nat
  tries   : Nat
  deriving DecidableEq, Repr

/-- A sent frame kept for repair (R196): its counter, hash key and ciphertext with the AAD it was sealed under. -/
structure SentFrame where
  fctr : Nat
  h    : BitVec 128
  aad  : BitVec 72
  ct   : BitVec 9600
  deriving DecidableEq, Repr

/-- A bypass cell copied out of its receive entry (R209, R210): release beat of its first half with this module's FBC and
half-beat count in it, both halves verified by their tags. -/
structure BypRx where
  rel  : Nat
  fbc  : W64
  rbch : BitVec 65
  cell : BitVec 256
  ok   : Bool
  deriving DecidableEq, Repr

/-- The running slip map of a mesh port (Table 6.13). -/
structure SlipMap where
  hist     : SMap Nat
  sum      : Nat
  max      : Nat
  cells    : Nat
  holdRx   : Nat
  holdTx   : Nat
  holdBeats : Nat
  routeMiss : Nat
  landRange : Nat
  storePeak : Nat
  slipPeak : Nat
  deriving DecidableEq, Repr

def SlipMap.zero : SlipMap := ⟨[], 0, 0, 0, 0, 0, 0, 0, 0, 0, 0⟩

/-- A Caliskig port. -/
structure Port where
  -- registers of Tables 7.13, 7.14, 7.18, 6.6
  ctl       : W32
  limits    : W32
  panCtl    : W32
  schedCtl  : W32
  -- Table 7.15 to 7.17
  state     : Nat
  stateAt   : Nat
  stateBeat : Nat
  upBeat    : Nat
  width     : Nat
  retrain   : Bool
  quietNow  : Bool
  flushedW1 : Bool
  reason    : Nat
  protoVer  : Nat
  cellVer   : Nat
  suite     : Nat
  group     : Nat
  hop       : Nat
  partClass : Nat
  partPort  : Nat
  partHall  : Nat
  partNode  : Nat
  -- training (R212 to R220)
  inst      : W32
  partInst  : W32
  prevInst  : W32
  prevPart  : W32
  trained   : Bool
  half      : Nat
  trainTx   : List (BitVec 512)
  graceTo   : Nat
  trainHeld : Nat
  lanesOk   : W16
  partLanes : W16
  reqWidth  : Nat
  partWidth : Nat
  capOwn    : BitVec 128
  capPart   : BitVec 128
  fullTrain : Bool
  drainLead : Bool
  rtReq     : Bool
  rtAck     : Bool
  grace     : Option Nat
  excluded  : Bool
  holdsNone : Bool
  backoff   : Nat
  lastTrainEvent : Option Nat
  lastTagEvent   : Option Nat
  tagFails  : List Nat
  -- keys (R192 to R194)
  z         : BitVec 256
  ephKey    : BitVec 256
  keyed     : Bool
  txKey     : BitVec 256
  rxKey     : BitVec 256
  salt      : BitVec 64
  txSid     : W32
  rxSid     : W32
  txCtr     : Nat
  rxCtr     : Nat
  fcMiss    : Nat
  -- transmit side
  inbound   : List TxEntry
  slip      : List TxEntry
  reqQ      : List TxEntry
  rplQ      : List TxEntry
  replay    : List Replay
  nextSeq   : Nat
  ackCum    : Nat
  timerBase : Nat
  frame     : List (BitVec 592)
  frameFbc  : W32
  frameByp  : Nat
  frameHalf : BitVec 128
  frameReq  : Nat
  frameRpl  : Nat
  sent      : List SentFrame
  lastFirst : Nat
  lastNonNull : Nat
  idleAt    : List Nat
  lastAcked : Nat
  -- receive side
  rxWait    : List (Nat × BitVec 10240)
  rxFrames  : Nat
  rx        : List RxCell
  store     : List Nat
  rxCum     : Nat
  rxMarks   : List Nat
  expect    : Nat
  noFail    : Bool
  resSched  : Nat
  resReq    : Nat
  resRpl    : Nat
  pend      : List PendFrame
  holding   : Bool
  held      : Bool
  xoffReqTx : Bool
  xoffRplTx : Bool
  xoffReqRx : Bool
  xoffRplRx : Bool
  heldAt    : Nat
  xoffAt    : Nat
  -- bypass channel (R209 to R211)
  window    : Nat
  outst     : List Nat
  bypTx     : List (Nat × BitVec 256)
  bypHalf   : Option (BitVec 128)
  bypRxHalf : Option BypRx
  bypRx     : List BypRx
  credit    : Nat
  bypBad    : Nat
  lastSb    : BitVec 70
  -- slip map (R181)
  map       : SlipMap
  maps      : List (BitVec 1024)
  deriving DecidableEq, Repr

/-- A port at reset (Tables 6.6, 7.13 to 7.19). -/
def Port.zero : Port where
  ctl := 0x182003E8#32
  limits := 0x117#32
  panCtl := 0x086A4100#32
  schedCtl := 0x001006A4#32
  state := 0
  stateAt := 0
  stateBeat := 0
  upBeat := 0
  width := 0
  retrain := false
  quietNow := false
  flushedW1 := false
  reason := 0
  protoVer := 0
  cellVer := 0
  suite := 0
  group := 0
  hop := 0
  partClass := 0
  partPort := 0
  partHall := 0
  partNode := 0
  inst := 0#32
  partInst := 0#32
  prevInst := 0#32
  prevPart := 0#32
  trained := false
  half := 0
  trainTx := []
  graceTo := 1
  trainHeld := 0
  lanesOk := 0#16
  partLanes := 0#16
  reqWidth := 0
  partWidth := 0
  capOwn := 0#128
  capPart := 0#128
  fullTrain := false
  drainLead := false
  rtReq := false
  rtAck := false
  grace := none
  excluded := false
  holdsNone := false
  backoff := 0
  lastTrainEvent := none
  lastTagEvent := none
  tagFails := []
  z := 0#256
  ephKey := 0#256
  keyed := false
  txKey := 0#256
  rxKey := 0#256
  salt := 0#64
  txSid := 0#32
  rxSid := 0#32
  txCtr := 0
  rxCtr := 0
  fcMiss := 0
  inbound := []
  slip := []
  reqQ := []
  rplQ := []
  replay := []
  nextSeq := 0
  ackCum := 0
  timerBase := 0
  frame := []
  frameFbc := 0#32
  frameByp := 0
  frameHalf := 0#128
  frameReq := 0
  frameRpl := 0
  sent := []
  lastFirst := 0
  lastNonNull := 0
  idleAt := []
  lastAcked := 0
  rxWait := []
  rxFrames := 0
  rx := []
  store := []
  rxCum := 0
  rxMarks := []
  expect := 0
  noFail := true
  resSched := 0
  resReq := 0
  resRpl := 0
  pend := []
  holding := false
  held := false
  xoffReqTx := false
  xoffRplTx := false
  xoffReqRx := false
  xoffRplRx := false
  heldAt := 0
  xoffAt := 0
  window := 8
  outst := []
  bypTx := []
  bypHalf := none
  bypRxHalf := none
  bypRx := []
  credit := 0
  bypBad := 0
  lastSb := 0#70
  map := SlipMap.zero
  maps := []

/-- What a cell in a tap's landing queue is (R22): a landing cell, with the port in whose receive store it stands while the queue is
full and its route and index; a chunk that mover `m` read; the data cell at place `place` of the piece `rid`. -/
inductive LandKind where
  | cell (store : Option Nat) (key : Nat)
  | mover (m : Nat)
  | reply (rid place : Nat)
  deriving DecidableEq, Repr

/-- A cell of `len` bytes on its way into a core's SRAM, or in the tap's landing queue (R22, R161, R166). -/
structure Landing where
  due     : Nat
  core    : Nat
  addr    : Nat
  len     : Nat
  payload : BitVec 512
  cc      : Nat
  port    : Nat
  entry   : Nat
  kind    : LandKind
  deriving DecidableEq, Repr

/-- An operation accepted by an engine, or a board access (R141, R247, R250); `engine` 16 marks a board access. -/
structure EngOp where
  id     : Nat
  engine : Nat
  op     : PanOp
  next   : Nat
  err    : Option Nat
  deriving DecidableEq, Repr

/-- What a piece does. -/
inductive PieceKind where
  | read | write | atomic | copyRead | copyWrite
  deriving DecidableEq, Repr

/-- An open piece, named by its REQ_ID (Table 8.9) (R242, R247, R248). `hold` marks a slot kept after a timeout; a write or atomic whose
source is being read has read the bytes `stage` up to `have_` of `need` (R142, R143). -/
structure Piece where
  rid    : Nat
  op     : Nat
  kind   : PieceKind
  off    : Nat
  n      : Nat
  got    : List Nat
  bytes  : Nat
  stage  : Mem
  need   : Nat
  have_  : Nat
  opened : Nat
  hold   : Option Nat
  deriving DecidableEq, Repr

/-- Status entries being gathered for one module (R244). -/
structure StatusGather where
  node    : Nat
  first   : Nat
  entries : List (BitVec 128)
  deriving DecidableEq, Repr

/-- Pantry and topology state (Tables 8.2 to 8.18). Sparse registers default to their reset values. -/
structure Pantry where
  topoCtl  : W32
  enable   : Bool
  fenced   : Bool
  reason   : Nat
  timeout  : W32
  jobBlock : SMap W32
  win      : SMap (BitVec 128)
  nodeMap  : SMap W16
  ranks    : SMap W32
  panErr   : SMap W64
  ops      : List EngOp
  nextId   : Nat
  pieces   : List Piece
  inReq    : List RxPan
  inRpl    : List RxPan
  serving  : List RxPan
  gather   : List StatusGather
  dead     : List PanOp
  deriving DecidableEq, Repr

def Pantry.zero : Pantry where
  topoCtl := 0x00007FFF#32
  enable := false
  fenced := false
  reason := 0
  timeout := 0x0003D090#32
  jobBlock := []
  win := []
  nodeMap := []
  ranks := []
  panErr := []
  ops := []
  nextId := 0
  pieces := []
  inReq := []
  inRpl := []
  serving := []
  gather := []
  dead := []

/-- The timetable of a module and its epoch (R152 to R182, Tables 6.11, 6.12). -/
structure Timetable where
  routes   : SMap W32
  landings : SMap W64
  epochs   : SMap W64
  count    : Nat
  ctl      : W32
  index    : W32
  state    : Nat
  overrun  : Bool
  timeout  : Bool
  lateness : Nat
  start    : W64
  desc     : Nat
  beat0    : Nat
  length   : Nat
  ready    : Option Nat
  readyAt  : Nat
  myLate   : Nat
  phase    : Nat
  value    : Nat
  heard    : List (Nat × Nat × Nat)
  agreed   : Option Nat
  pauseNext : Bool
  stopNext : Bool
  seenEvents : List Nat
  deriving DecidableEq, Repr

def Timetable.zero : Timetable where
  routes := []
  landings := []
  epochs := []
  count := 0
  ctl := 0x3E8#32
  index := 0#32
  state := 0
  overrun := false
  timeout := false
  lateness := 0
  start := 0#64
  desc := 0
  beat0 := 0
  length := 0
  ready := none
  readyAt := 0
  myLate := 0
  phase := 0
  value := 0
  heard := []
  agreed := none
  pauseNext := false
  stopNext := false
  seenEvents := []

end Sys2Proof.Machine
end

