-- ==== Sys2Proof/Machine/ClusterTypes.lean ====
section
/-! DEFINITION. The state of a cluster (10 R300, 06, 03) and of the loaded job (11). -/

namespace Sys2Proof.Machine

/-- Where a steward stands (R300, R444, R445). -/
inductive StewardRun where
  | idle      -- no section: no job, or between epochs
  | ready     -- about to begin the command at `pos`
  | waiting   -- the command at `pos` has begun and not ended
  | finished  -- its section is finished
  | stopped   -- its section has stopped on fault status
  deriving DecidableEq, Repr

/-- A steward: its command store of 8,192 commands of 256 bits, its position, the count of commands begun (SEQ of
Table 15.5), the command it began last, breakpoint state (R404), and whether it begins no command before a new JOB_LOAD (R445). -/
structure Steward where
  store  : SMap (BitVec 256)
  len    : Nat
  pos    : Nat
  run    : StewardRun
  halted : Bool
  pass   : Bool
  seq    : Nat
  since  : Nat
  cur    : BitVec 256
  ended  : Bool
  deriving DecidableEq, Repr

def Steward.zero : Steward := ⟨[], 0, 0, .idle, false, false, 0, 0, 0#256, false⟩

/-- A mover command with the cluster and position that queued it (R266, R267). -/
structure MoverCmd where
  cluster : Nat
  args    : BitVec 192
  layer   : W16
  oper    : W16
  seq     : Nat
  deriving DecidableEq, Repr

/-- A sample request in service (R71, R83 to R85): the beat in which the sampler started it, whether it set its stream's BUSY, the bytes
read of its descriptor and of its logits (the last chunk first), whether a word of them was uncorrectable. -/
structure Serving where
  req   : SampleReq
  start : Nat
  busy  : Bool
  desc  : List Byte
  data  : List (List Byte)
  got   : Nat
  bad   : Bool
  deriving DecidableEq, Repr

/-- A cluster: its steward, tap, sampler and request queues; `tapIn` and `tapOut` are the first cell places of the tap not yet used in
each direction, eight to a beat (R21). -/
structure Cluster where
  stw    : Steward
  deps   : List Departure
  landQ  : List Landing
  sampQ  : List SampleReq
  samp   : Option Serving
  panQ   : List PanOp
  movQ   : List MoverCmd
  landed : SMap Nat
  tapIn  : Nat
  tapOut : Nat
  deriving DecidableEq, Repr

def Cluster.zero : Cluster := ⟨Steward.zero, [], [], [], none, [], [], [], 0, 0⟩

/-- A program placed by the loader (R311): virtual rank's co-resident index, physical core, program number, and the usable
HBM offset and length of its section. -/
structure Prog where
  core : Nat
  num  : Nat
  off  : Nat
  len  : Nat
  deriving DecidableEq, Repr

/-- The loaded job (R304 to R322). -/
structure Job where
  ctx     : Nat
  seed    : W64
  ranks   : Nat
  fold    : Nat
  vrows   : Nat
  part    : Nat
  base    : Nat
  guarded : Bool
  profA1  : Bool
  setId   : W64
  digest  : BitVec 256
  plan    : List W16
  phys    : List (Nat × Nat)
  progs   : List Prog
  wins    : List Nat
  deriving DecidableEq, Repr

end Sys2Proof.Machine
end

