-- ==== Sys2Proof/Machine/ModuleTypes.lean ====
section
/-! DEFINITION. The state of the module's other units: clocks and time (12), Cellar (09), Hearth (10, 13), observability (15),
the Sloe domain, flash, pins and test port (14, 16, 17). -/

namespace Sys2Proof.Machine

/-- A time word's fields (R341). -/
structure TimeWord where
  sec  : Nat
  ns   : Nat
  frac : Nat
  deriving DecidableEq, Repr

def TimeWord.zero : TimeWord := ⟨0, 0, 0⟩

/-- Clocks and beat counts (R323 to R339). `wall` counts 1/6.72 THz of wall time (log 2). The RBC counts at the rate of `rateOp` until
`rateAt`, then at the base point's (R335). Stretch domains are numbered 0 to 3 quarters, 4 to 7 Cellar regions, 8 the link region:
`domPend` the eighths of a period that each has to stretch by, `tokens` those sent and not yet received with their origin, `offs` the
eighths by which each has come to lag the link region since its crossings were aligned (R324, R326). `slew` holds the half beat from which,
and the time since which, the link region slews to its point (R332); `startAt` and `stopEnds` the times at which starting regions and
those of a global stop are aligned, `alignBad` that an alignment of them has failed eight times (R325). -/
structure Clk where
  wall     : Nat
  beat     : Nat
  fbc      : W64
  rbcHalf  : BitVec 65
  valid    : Bool
  port     : Nat
  dist     : Nat
  baseOp   : Nat
  runOp    : Nat
  rateOp   : Nat
  rateAt   : Nat
  capStretch : Nat
  capNext  : Option (Nat × Nat)
  aligned  : Bool
  change   : Option (Nat × Nat)
  capTarget : Option Nat
  domPend  : SMap Nat
  tokens   : List (Nat × Nat)
  offs     : SMap Int
  slew     : Option (Nat × Nat)
  linkRun  : Bool
  cluRun   : List Nat
  celRun   : Bool
  resumeAt : Option Nat
  haltBeat : Nat
  startAt  : Option Nat
  stopEnds : Option Nat
  alignCount : Nat
  alignBad : Bool
  refAt    : Nat
  holdTicks : Nat
  deriving DecidableEq, Repr

/-- A pulse output (Table 12.10, R346, R347). -/
structure Pulse where
  ctl    : W32
  width  : W32
  period : W32
  start  : BitVec 128
  edge   : TimeWord
  active : Option TimeWord
  deriving DecidableEq, Repr

def Pulse.zero : Pulse := ⟨0#32, 0#32, 0#32, 0#128, TimeWord.zero, none⟩

/-- The time unit (Tables 12.7 to 12.11): `step` a servo step that the next tick takes, `moved` that this tick moved the counter, `rxts` the
last receive stamp (R342, R344, R347). -/
structure Tim where
  ctl     : W32
  incr    : W32
  offset  : W32
  set     : BitVec 128
  now     : TimeWord
  valid   : Bool
  refOk   : Bool
  holdover : Bool
  ppsValid : Bool
  ppsOver : Bool
  txOver  : Bool
  reason  : Nat
  load    : Bool
  apply   : Bool
  step    : Option Int
  moved   : Bool
  rxts    : Option (BitVec 128)
  txts    : List (BitVec 128)
  pulses  : SMap Pulse
  pps     : BitVec 128
  fbcCtl  : W32
  portOff : SMap W32
  fbcSent : SMap Nat
  mode    : Nat
  linked  : Bool
  tickAt  : Nat
  deriving DecidableEq, Repr

/-- A key set of a context (R263): whether it is held, its epoch and secret. -/
structure KeySet where
  keyed : Bool
  epoch : Byte
  z     : BitVec 256
  deriving DecidableEq, Repr

def KeySet.zero : KeySet := ⟨false, 0#8, 0#256⟩

/-- A stored HBM block: ciphertext and tag word (R264). -/
structure HBlock where
  ct  : BitVec 2048
  tag : W64
  deriving DecidableEq, Repr

/-- A write of blocks `lo` to `hi - 1`, sealed for a context under a secret and epoch, listed by range: zeros (R294, R297), or, where
`body` names a save (R295), content whose layout the manual does not give. -/
structure FillLayer where
  lo    : Nat
  hi    : Nat
  ctx   : Nat
  epoch : Byte
  z     : BitVec 256
  body  : Option Nat
  deriving DecidableEq, Repr

/-- A mover's command in progress (R267 to R269, R273). -/
structure Mover where
  cmd     : MoverCmd
  start   : Nat
  done    : Nat
  failed  : Bool
  wait    : Nat
  deriving DecidableEq, Repr

/-- A hash slot (R272, R273, Table 9.14): SHA-256 chaining value, bytes not yet compressed, bytes fed. -/
structure HashSlot where
  isOpen  : Bool
  failed  : Bool
  cluster : Nat
  blocks  : Nat
  chain   : BitVec 256
  buf     : List Byte
  len     : Nat
  seq     : Nat
  deriving DecidableEq, Repr

def HashSlot.zero : HashSlot := ⟨false, false, 0, 0, 0#256, [], 0, 0⟩

/-- The Cellar (09). Sparse tables default to zero. -/
structure Cellar where
  ctl      : W32
  stacksOk : Byte
  ready    : Bool
  reason   : Nat
  keys     : SMap KeySet
  regions  : SMap (BitVec 128)
  err      : SMap W64
  log      : SMap (BitVec 128)
  sramLog  : SMap (BitVec 128)
  blocks   : SMap (Option HBlock)
  fills    : List FillLayer
  powerOn  : Nat
  symErr   : SMap Byte
  wbHbm    : List Nat
  wbSram   : List (Nat × Nat)
  movers   : SMap (Option Mover)
  lastServed : SMap Nat
  hash     : SMap HashSlot
  refresh  : SMap Nat
  refreshAt : SMap Nat
  patrolAt : Nat
  sramPatrolAt : Nat
  hbmGone  : Nat
  sramGone : Nat
  patrolSeen : Nat
  passCe   : SMap Nat
  passOver : List Nat
  deriving DecidableEq, Repr

/-- A Porch mailbox pair (R282, Table 10.8). -/
structure Mbx where
  inn     : BitVec 2048
  out     : BitVec 2048
  latch   : BitVec 2048
  busy    : Bool
  done    : Bool
  overrun : Bool
  resp    : Option (BitVec 2048)
  deriving DecidableEq, Repr

def Mbx.zero : Mbx := ⟨0#2048, 0#2048, 0#2048, false, false, false, none⟩

/-- What a context's save area holds (R295 step 2). -/
structure Saved where
  cores    : SMap Core
  clusters : SMap Cluster
  ranks    : SMap W32
  streams  : SMap (BitVec 128)
  tt       : Timetable
  beat     : Nat
  deriving DecidableEq, Repr

/-- A context (R293, Table 10.17). -/
structure Ctx where
  state     : Nat
  jobLoaded : Bool
  job       : Nat
  saveBase  : Nat
  reason    : Nat
  debugSeen : Byte
  regions   : List Nat
  jobRec    : Option Job
  saved     : Option Saved
  deriving DecidableEq, Repr

def Ctx.zero : Ctx := ⟨0, false, 0, 0, 0, 0#8, [], none, none⟩

/-- An event subscriber (R443): management connection, lowest severity, TYPE mask, TAG. -/
structure Subscriber where
  conn : Nat
  sev  : Nat
  mask : W32
  tag  : Byte
  deriving DecidableEq, Repr

/-- The host session (R380 to R382). -/
structure Session where
  sid    : W32
  kH2M   : BitVec 256
  kM2H   : BitVec 256
  inCtr  : Nat
  outCtr : Nat
  fails  : Nat
  deriving DecidableEq, Repr

/-- The traffic keys of a management connection, host to module and back (R383). -/
structure TlsKeys where
  suite : Nat
  rx    : BitVec 256
  tx    : BitVec 256
  deriving DecidableEq, Repr

def TlsKeys.zero : TlsKeys := ⟨0, 0#256, 0#256⟩

/-- A recorded log entry waiting for its place, and replay position (R366 to R370). -/
structure Record where
  ctl      : W64
  active   : Bool
  full     : Bool
  diverged : Bool
  late     : Nat
  entries  : Nat
  reason   : Nat
  wrPos    : Nat
  rdPos    : Nat
  rdSeq    : Nat
  startFbc : Nat
  ctx      : Nat
  deriving DecidableEq, Repr

def Record.zero : Record := ⟨0#64, false, false, false, 0, 0, 0, 0, 0, 0, 0, 0⟩

/-- Hearth (10, 11, 13, 14). -/
structure Hearth where
  protoSel : Byte
  ready    : Bool
  recovery : Bool
  wedged   : Bool
  bootSlot : Nat
  badAccess : Nat
  prcReason : Nat
  barrin   : Nat
  barrinVer : Nat
  barrinUps : Nat
  barrinLanes : Byte
  barrinAt : Nat
  mbx      : SMap Mbx
  events   : SMap (BitVec 256)
  evSeq    : W32
  unsent   : Nat
  subs     : List Subscriber
  conns    : SMap Bool
  tls      : SMap TlsKeys
  ctxs     : SMap Ctx
  running  : Option Nat
  switchTo : Option Nat
  switchAt : Nat
  switchSrc : Option Src
  accHdr   : Nat
  logged   : Option Nat
  waitq    : List Instr
  cmdCount : Nat
  noAdmit   : Nat
  sess     : Option Session
  sessNext : Option (Nat × Session)
  reportDigest : Option (BitVec 256)
  reportAt : Nat
  rec_     : Record
  power    : W64
  inputW   : Nat
  junction : Nat
  windowAt : Nat
  pState   : Nat
  overCap  : Bool
  capFloor : Bool
  belowRun : Nat
  idleFrom : Nat
  wakeCode : W64
  wakeBad  : Nat
  thermal  : Bool
  maint    : List (Nat × Nat)
  sfuTables : Bool
  measured : Bool
  loaded   : SMap (List Byte)
  measures : SMap (BitVec 256)
  entropyOk : Bool
  entropyRun : Nat
  mgmtAuthAt : Option Nat
  missed   : SMap Nat
  powers   : SMap Nat
  grant    : Option Nat
  collectAt : Nat
  stuck    : List (Nat × Nat)
  teleAt   : Nat
  deriving DecidableEq, Repr

/-- Debug, trace, stops and freezes (15). -/
structure Dbg where
  ctl      : W32
  range    : W32
  trace    : List (BitVec 128)
  lossRun  : Nat
  freeze   : W64
  freezeFbc : W64
  freezeAt : Option (TimeWord × Nat × Nat × Nat)
  stop     : W64
  stopFbc  : W64
  stopAt   : Option Nat
  cutAt    : Option Nat
  stopBeat : Nat
  stopWall : Nat
  breaks   : SMap W64
  seqFreeze : Nat
  seqStop  : Nat
  seenFreeze : List (Nat × Nat)
  seenStop : List (Nat × Nat)
  scan     : Option (List Byte)
  scanSent : Nat
  scanSrc  : Option Src
  scanPath : Nat
  scanBit  : Nat
  scans    : Nat
  posture  : Byte
  postReset : Byte
  postRestore : Byte
  frameCnt : Nat
  frameAt  : Nat
  markAt   : Nat
  beaconSeq : SMap Nat
  engSeq   : SMap Nat
  deriving DecidableEq, Repr

/-- The part's fuses (R3, R4, R14, R371, R436, Table 14.7). -/
structure Fuses where
  od720    : Bool
  b0       : Bool
  fusedClu : List Nat
  fusedRow : List Nat
  serial   : W64
  uds      : BitVec 256
  mac      : BitVec 48
  svn      : Nat
  locked   : Bool
  provisioned : Bool
  production : Bool
  fwKey    : BitVec 512
  deriving DecidableEq, Repr

/-- The slow-signal lands and supplies (Table 17.3): inputs as the outside drives them, outputs as the module does. -/
structure Pins where
  vaux    : Bool
  porstN  : Bool
  resetN  : Bool
  refclk  : Bool
  straps  : W32
  ppsIn   : Bool
  tck     : Bool
  tms     : Bool
  tdi     : Bool
  trstN   : Bool
  pwrOk   : Bool
  alarmN  : Bool
  pulse0  : Bool
  pulse1  : Bool
  tdo     : Option Bool
  deriving DecidableEq, Repr

/-- The merge window of level-2 alarms (R389). -/
structure Merge where
  since : Nat
  srcs  : BitVec 20
  first : Nat
  level3 : Bool
  deriving DecidableEq, Repr

/-- The Sloe domain (14, 16). -/
structure Sloe where
  panPos   : W32
  strapped : Bool
  stage    : Nat
  stageAt  : Nat
  cause    : W64
  latched  : Bool
  l2Count  : Nat
  level2   : Bool
  l1Count  : Nat
  reason   : Nat
  sources  : BitVec 20
  ctl      : W32
  merge    : Option Merge
  lasting  : SMap Nat
  idKey    : BitVec 256
  deriving DecidableEq, Repr

/-- A firmware slot (R275, Table 10.1): header and body. -/
structure FwSlot where
  header : BitVec 1024
  body   : List Byte
  deriving DecidableEq, Repr

/-- The content of a boot record sector (R276); a sector whose CRC does not hold has none. -/
structure BootRec where
  seq    : Nat
  active : Nat
  cand   : Option Nat
  tries  : Nat
  deriving DecidableEq, Repr

/-- Flash: slots, the boot record as last read or written and its two sectors, scrub record, persistent log, operator CA slots, the
certificates and the root's key (R275, R276, R289, R297, R373, R387). -/
structure Flash where
  slotA   : FwSlot
  slotB   : FwSlot
  active  : Nat
  cand    : Option Nat
  tries   : Nat
  bootA   : Option BootRec
  bootB   : Option BootRec
  scrub   : List (Nat × List (Nat × Nat))
  log     : List (BitVec 256)
  opcaCtl : SMap W32
  opcaKey : SMap (BitVec 512)
  certs   : List Cert
  rootKey : BitVec 512
  deriving DecidableEq, Repr

/-- The states of an IEEE 1149.1 TAP controller. -/
inductive TapState where
  | reset | idle | selDr | capDr | shDr | ex1Dr | pauDr | ex2Dr | updDr
  | selIr | capIr | shIr | ex1Ir | pauIr | ex2Ir | updIr
  deriving DecidableEq, Repr

/-- The test port (R438). -/
structure Jtag where
  st  : TapState
  ir  : Byte
  irSh : Byte
  dr  : List Bool
  bnd : BitVec 29
  deriving DecidableEq, Repr

/-- What the module sends out. -/
inductive Out where
  | frame (p : Nat) (group : Nat) (lanes : List (BitVec 2560))
  | training (p : Nat) (state : Nat)
  | capability (p : Nat) (msg : BitVec 128)
  | keys (p : Nat) (pub : BitVec 512) (sid : W32) (chain : List Cert)
  | keySig (p : Nat) (sig : BitVec 512)
  | eventMsg (rec : BitVec 256)
  | mgmt (conn : Nat) (block : BitVec 2048)
  | mgmtClosed (conn : Nat)
  | certVerify (conn : Nat) (sig : BitVec 512) (chain : List Cert)
  | sealed (head data : List Byte) (tag : Nat)
  | dmaWrite (addr : Nat) (data : List Byte)
  | porchRead (off size : Nat) (value : Nat)
  | dmaRead (addr len : Nat)
  | trace (frame : List Byte)
  | telemetry (conn watts junction : Nat) (ports : List Nat)
  | setCap (module : Nat) (watts : Nat)
  | grant (module : Nat)
  deriving DecidableEq, Repr

end Sys2Proof.Machine
end

