-- ==== Sys2Proof/Machine/State.lean ====
section
/-! DEFINITION. The whole state of the module, the state after reset, and the closed reason types of a step. -/

namespace Sys2Proof.Machine

/-- The state of one OD-800 module. Sparse tables default to the named value of their element (`Core.zero`, `Cluster.zero`,
`Port.zero`, zero). `w1Sets` names the W1C bits that events have set in this beat (R13). `counters` holds every 64-bit counter by register space and offset (`ctrKey`). -/
structure State where
  pending  : List Instr
  clk      : Clk
  tim      : Tim
  cores    : SMap Core
  clusters : SMap Cluster
  streams  : SMap (BitVec 128)
  hall     : List HallUnit
  tt       : Timetable
  ports    : SMap Port
  pan      : Pantry
  cel      : Cellar
  hearth   : Hearth
  dbg      : Dbg
  fuses    : Fuses
  pins     : Pins
  sloe     : Sloe
  flash    : Flash
  jtag     : Jtag
  counters : SMap W64
  frozen   : Option (SMap W64)
  draws    : Nat
  w1Sets   : List Nat
  out      : List Out
  deriving DecidableEq, Repr

/-- Why the machine could stop. No command of this model stops it: every failure that the manual describes is a next state. -/
inductive Fault where
  /-- Raised by no command; kept so that the type has an inhabitant. Safe. -/
  | none
  deriving DecidableEq, Repr

/-- Why a command could be refused. -/
inductive Refusal where
  /-- Raised by `exec` for a row that has no meaning yet. Safe. -/
  | notModelled (mnemonic : String)
  deriving DecidableEq, Repr

def Clk.reset : Clk where
  wall := 0
  beat := 0
  fbc := 0#64
  rbcHalf := 0#65
  valid := false
  port := 7
  dist := 0xFF
  baseOp := 0
  runOp := 0
  rateOp := 0
  rateAt := 0
  capStretch := 0
  capNext := none
  aligned := false
  change := none
  capTarget := none
  domPend := []
  tokens := []
  offs := []
  slew := none
  linkRun := false
  cluRun := []
  celRun := false
  resumeAt := none
  haltBeat := 0
  startAt := none
  stopEnds := none
  alignCount := 0
  alignBad := false
  refAt := 0
  holdTicks := 0

def Tim.reset : Tim where
  ctl := 0x18000000#32
  incr := 0x02000000#32
  offset := 0#32
  set := 0#128
  now := TimeWord.zero
  valid := false
  refOk := false
  holdover := false
  ppsValid := false
  ppsOver := false
  txOver := false
  reason := 0
  load := false
  apply := false
  step := none
  moved := false
  rxts := none
  txts := []
  pulses := []
  pps := 0#128
  fbcCtl := 0x00000210#32
  portOff := []
  fbcSent := []
  mode := 0
  linked := false
  tickAt := 0

def Cellar.reset : Cellar where
  ctl := 0x8A180280#32
  stacksOk := 0#8
  ready := false
  reason := 0
  keys := []
  regions := []
  err := []
  log := []
  sramLog := []
  blocks := []
  fills := []
  powerOn := 0
  symErr := []
  wbHbm := []
  wbSram := []
  movers := []
  lastServed := []
  hash := []
  refresh := []
  refreshAt := []
  patrolAt := 0
  sramPatrolAt := 0
  hbmGone := 0
  sramGone := 0
  patrolSeen := 0
  passCe := []
  passOver := []

def Hearth.reset : Hearth where
  protoSel := 0#8
  ready := false
  recovery := false
  wedged := false
  bootSlot := 0
  badAccess := 0
  prcReason := 0
  barrin := 0
  barrinVer := 0
  barrinUps := 0
  barrinLanes := 0#8
  barrinAt := 0
  mbx := []
  events := []
  evSeq := 0#32
  unsent := 0
  subs := []
  conns := []
  tls := []
  ctxs := []
  running := none
  switchTo := none
  switchAt := 0
  switchSrc := none
  accHdr := 0
  logged := none
  waitq := []
  cmdCount := 0
  noAdmit := 0
  sess := none
  sessNext := none
  reportDigest := none
  reportAt := 0
  rec_ := Record.zero
  power := 0x08980064000A640A#64
  inputW := 0
  junction := 0
  windowAt := 0
  pState := 0
  overCap := false
  capFloor := false
  belowRun := 0
  idleFrom := 0
  wakeCode := 0#64
  wakeBad := 0
  thermal := false
  maint := []
  sfuTables := false
  measured := false
  loaded := []
  measures := []
  entropyOk := true
  entropyRun := 0
  mgmtAuthAt := none
  missed := []
  powers := []
  grant := none
  collectAt := 0
  stuck := []
  teleAt := 0

def Dbg.reset : Dbg where
  ctl := 0x07FC03E8#32
  range := 0xFFFF0000#32
  trace := []
  lossRun := 0
  freeze := 0#64
  freezeFbc := 0#64
  freezeAt := none
  stop := 0#64
  stopFbc := 0#64
  stopAt := none
  cutAt := none
  stopBeat := 0
  stopWall := 0
  breaks := []
  seqFreeze := 0
  seqStop := 0
  seenFreeze := []
  seenStop := []
  scan := none
  scanSent := 0
  scanSrc := none
  scanPath := 0
  scanBit := 0
  scans := 0
  posture := 0#8
  postReset := 0#8
  postRestore := 0#8
  frameCnt := 0
  frameAt := 0
  markAt := 0
  beaconSeq := []
  engSeq := []

/-- The part modelled (log 4): an OD-800-A1 with no fused-off cluster and physical row 20 of each quarter fused off. -/
def Fuses.part : Fuses where
  od720 := false
  b0 := false
  fusedClu := []
  fusedRow := [20, 20, 20, 20]
  serial := 0#64
  uds := 0#256
  mac := 0#48
  svn := 0
  locked := true
  provisioned := true
  production := true
  fwKey := 0#512

def Pins.reset : Pins where
  vaux := true
  porstN := true
  resetN := true
  refclk := true
  straps := 0#32
  ppsIn := false
  tck := false
  tms := true
  tdi := true
  trstN := false
  pwrOk := false
  alarmN := true
  pulse0 := false
  pulse1 := false
  tdo := none

def Sloe.reset : Sloe where
  panPos := 0#32
  strapped := false
  stage := 0
  stageAt := 0
  cause := 0#64
  latched := false
  l2Count := 0
  level2 := false
  l1Count := 0
  reason := 0
  sources := 0#20
  ctl := 3#32
  merge := none
  lasting := []
  idKey := 0#256

def Flash.reset : Flash where
  slotA := ⟨0#1024, []⟩
  slotB := ⟨0#1024, []⟩
  active := 0
  cand := none
  tries := 0
  bootA := some ⟨1, 0, none, 0⟩
  bootB := none
  scrub := []
  log := []
  opcaCtl := []
  opcaKey := []
  certs := []
  rootKey := 0#512

def Jtag.reset : Jtag where
  st := .reset
  ir := 1#8
  irSh := 0#8
  dr := []
  bnd := 0#29

/-- The module at the Sloe domain's power-on, before stage 0 of bring-up ends (R413, R416, Table 16.1). -/
def State.reset : State where
  pending := []
  clk := Clk.reset
  tim := Tim.reset
  cores := []
  clusters := []
  streams := []
  hall := []
  tt := Timetable.zero
  ports := []
  pan := Pantry.zero
  cel := Cellar.reset
  hearth := Hearth.reset
  dbg := Dbg.reset
  fuses := Fuses.part
  pins := Pins.reset
  sloe := Sloe.reset
  flash := Flash.reset
  jtag := Jtag.reset
  counters := []
  frozen := none
  draws := 0
  w1Sets := []
  out := []

end Sys2Proof.Machine
end

