-- ==== Sys2Proof/Machine/Access.lean ====
section
/-! DEFINITION. Reading and changing the parts of the state; counters, events and trace records (R289, R395 to R402). -/

namespace Sys2Proof.Machine

def State.core (s : State) (c : CoreRef) : Core := s.cores.get Core.zero c.ix
def State.setCore (s : State) (c : CoreRef) (k : Core) : State := { s with cores := s.cores.set Core.zero c.ix k }
def State.modCore (s : State) (c : CoreRef) (f : Core → Core) : State := s.setCore c (f (s.core c))
/-- The core at table place `n`. -/
def State.coreN (s : State) (n : Nat) : Core := s.cores.get Core.zero n
def State.modCoreN (s : State) (n : Nat) (f : Core → Core) : State :=
  { s with cores := s.cores.set Core.zero n (f (s.coreN n)) }

def State.cluster (s : State) (k : Nat) : Cluster := s.clusters.get Cluster.zero k
def State.setCluster (s : State) (k : Nat) (x : Cluster) : State := { s with clusters := s.clusters.set Cluster.zero k x }
def State.modCluster (s : State) (k : Nat) (f : Cluster → Cluster) : State := s.setCluster k (f (s.cluster k))
def State.modStw (s : State) (k : Nat) (f : Steward → Steward) : State := s.modCluster k (fun x => { x with stw := f x.stw })

def State.port (s : State) (p : Nat) : Port := s.ports.get Port.zero p
def State.setPort (s : State) (p : Nat) (x : Port) : State := { s with ports := s.ports.set Port.zero p x }
def State.modPort (s : State) (p : Nat) (f : Port → Port) : State := s.setPort p (f (s.port p))

def State.modClk (s : State) (f : Clk → Clk) : State := { s with clk := f s.clk }
def State.modTim (s : State) (f : Tim → Tim) : State := { s with tim := f s.tim }
def State.modTt (s : State) (f : Timetable → Timetable) : State := { s with tt := f s.tt }
def State.modPan (s : State) (f : Pantry → Pantry) : State := { s with pan := f s.pan }
def State.modCel (s : State) (f : Cellar → Cellar) : State := { s with cel := f s.cel }
def State.modHearth (s : State) (f : Hearth → Hearth) : State := { s with hearth := f s.hearth }
def State.modDbg (s : State) (f : Dbg → Dbg) : State := { s with dbg := f s.dbg }
def State.modSloe (s : State) (f : Sloe → Sloe) : State := { s with sloe := f s.sloe }
def State.modFlash (s : State) (f : Flash → Flash) : State := { s with flash := f s.flash }
def State.modPins (s : State) (f : Pins → Pins) : State := { s with pins := f s.pins }
def State.modJtag (s : State) (f : Jtag → Jtag) : State := { s with jtag := f s.jtag }

/-- The number of a W1C bit: register space, offset of its 32-bit word, bit. -/
def w1Key (space off bit : Nat) : Nat := (space * 2 ^ 20 + off) * 32 + bit

/-- An event sets a W1C bit in this beat (R13). -/
def State.w1Mark (s : State) (space off bit : Nat) : State := { s with w1Sets := w1Key space off bit :: s.w1Sets }

/-- A write of 1 clears a W1C bit, unless an event of the same beat has set it (R13). -/
def State.w1Clears (s : State) (space off bit : Nat) (w : W32) : Bool := w.getLsbD bit && !s.w1Sets.contains (w1Key space off bit)

/-- Send something out. -/
def State.emit (s : State) (o : Out) : State := { s with out := s.out ++ [o] }

/-- Kind, address, size and data of a Barrin transaction of the module (R279). -/
def Out.transaction : Out → Nat × Nat × Nat × List Byte
  | .porchRead off size v => (1, off, size, leBytes size v)
  | .dmaRead addr len => (2, addr, len, [])
  | .dmaWrite addr data => (3, addr, data.length, data)
  | .eventMsg r => (4, 0, 32, leBytes 32 r.toNat)
  | _ => (0, 0, 0, [])

/-- IV of a transaction: the session id, then the counter of its direction (R381). -/
def Session.iv (x : Session) (ctr : Nat) : List Byte := leBytes 4 x.sid.toNat ++ leBytes 8 ctr

/-- The transaction sealed under the session's key towards the host. -/
def Session.seal (x : Session) (o : Out) : Out :=
  let (kind, addr, size, data) := o.transaction
  let head := leBytes 16 (Config.barrinHeader kind addr size).toNat
  let (ct, tag) := gcmSeal x.kM2H.toNat (x.iv x.outCtr) head data
  .sealed head ct tag

/-- Send a Barrin transaction to the host; an open session seals and counts it (R381, R382). -/
def State.sendHost (s : State) (o : Out) : State :=
  match s.hearth.sess with
  | some x =>
    let s := s.emit (x.seal o)
    if 2 ^ 48 ≤ x.outCtr + 1 then s.modHearth (fun h => { h with sess := none, sessNext := none })
    else s.modHearth (fun h => { h with sess := some { x with outCtr := x.outCtr + 1 } })
  | none => s.emit o

def State.ctx (s : State) (x : Nat) : Ctx := s.hearth.ctxs.get Ctx.zero x
def State.modCtx (s : State) (x : Nat) (f : Ctx → Ctx) : State :=
  s.modHearth (fun h => { h with ctxs := h.ctxs.upd Ctx.zero x f })

/-- The loaded job of the running context. -/
def State.job (s : State) : Option Job :=
  match s.hearth.running with
  | none => none
  | some x => if (s.ctx x).jobLoaded then (s.ctx x).jobRec else none

/-- Guarded mode (R317). -/
def State.guarded (s : State) : Bool := match s.job with
  | some j => j.guarded
  | none => false

/-- Results come at the latencies of TP-A1: an A1 part, or a TP-A1 image in guarded mode (R78, R151). -/
def State.latA1 (s : State) : Bool :=
  !s.fuses.b0 || (match s.job with
    | some j => j.guarded && j.profA1
    | none => false)

/-- The epoch beat of the module (R154). -/
def State.epochBeat (s : State) : Nat := s.clk.beat - s.tt.beat0

/-- The place of a 64-bit counter in `counters`: register space and offset. -/
def ctrKey (space off : Nat) : Nat := space * 2 ^ 20 + off

/-- Add to a counter, modulo 2^64. -/
def State.bump (s : State) (space off n : Nat) : State :=
  { s with counters := s.counters.upd 0#64 (ctrKey space off) (fun x => x + BitVec.ofNat 64 n) }

/-- The read value of a counter: its frozen view while the views are frozen (R397). -/
def State.ctr (s : State) (space off : Nat) : W64 :=
  match s.frozen with
  | some m => m.get 0#64 (ctrKey space off)
  | none => s.counters.get 0#64 (ctrKey space off)

/-- DBG offset of a counter of core place `n` (R396). -/
def coreCtr (n off : Nat) : Nat := 0x10000 + 0x100 * n + off

def State.bumpCore (s : State) (n off d : Nat) : State := s.bump 7 (coreCtr n off) d

/-- A counter of port `p` at its offset in Table 7.20. -/
def State.bumpPort (s : State) (p off d : Nat) : State := s.bump 3 (0x200 * p + off) d

/-- A block that Hearth has found wedged, by its kind and number in Table 10.15 (R303). -/
def State.stuck (s : State) (kind unit : Nat) : Bool := s.hearth.stuck.contains (kind, unit)

/-- Whether a global stop holds (Table 15.14). -/
def State.stopped (s : State) : Bool := bitOf s.dbg.stop 63

/-- Stamp of records and events: the FBC, all ones while it is invalid (Table 10.14). -/
def State.fbcStamp (s : State) : Nat := if s.clk.valid then s.clk.fbc.toNat else 2 ^ 64 - 1

/-- Whether an event of this type and severity goes to a subscriber (R443). -/
def Subscriber.wants (u : Subscriber) (ty sev : Nat) : Bool := u.sev ≤ sev && bitOf u.mask ty

/-- CLR_STATUS.REASON: the last reason code of a check of the Cellar (Table 9.9). -/
def State.cellarCode (s : State) (code : Nat) : State := s.modCel (fun c => { c with reason := code })

/-- Raise an event: the log entry, the Barrin message, the subscribers' blocks, the persistent log (R289, R443, R280). -/
def State.event (s : State) (ty reason sev ctx detail : Nat) : State :=
  let h := s.hearth
  let rec_ : BitVec 256 := BitVec.ofNat 256
    (s.fbcStamp * 2 ^ 192 + s.tim.now.sec % 2 ^ 32 * 2 ^ 160 + s.tim.now.ns * 2 ^ 130 + h.evSeq.toNat * 2 ^ 96
      + reason * 2 ^ 80 + ty * 2 ^ 72 + ctx % 16 * 2 ^ 68 + sev * 2 ^ 66 + detail % 2 ^ 64)
  let s := { s with hearth := { h with
    events := h.events.set 0#256 (h.evSeq.toNat % 256) rec_
    evSeq := h.evSeq + 1#32 } }
  let s := if 2 ≤ sev then s.modFlash (fun f => { f with log := (f.log ++ [rec_]).drop (f.log.length + 1 - 1024) }) else s
  let s := if h.barrin = 4 then s.sendHost (.eventMsg rec_) else s.modHearth (fun h => { h with unsent := h.unsent + 1 })
  h.subs.foldl (fun s u =>
    if u.wants ty sev then
      s.emit (.mgmt u.conn (BitVec.ofNat 2048 (rec_.toNat * 2 ^ 64 + 32 * 2 ^ 32 + u.tag.toNat * 2 ^ 24 + 1 * 2 ^ 16 + 0x42)))
    else s) s

/-- Raise an event of TYPE REASON for a unit (Table 10.15); its severity where no rule states one is a free value (log 11). -/
def State.raise (s : State) (reason kind unit low : Nat) : State :=
  s.event 2 reason (Config.eventSeverity 2 reason).toNat (s.hearth.running.getD 0)
    (kind * 2 ^ 56 + unit * 2 ^ 48 + low % 2 ^ 48)

/-- Raise an event of TYPE REASON whose rule states the severity. -/
def State.raiseSev (s : State) (reason sev kind unit low : Nat) : State :=
  s.event 2 reason sev (s.hearth.running.getD 0) (kind * 2 ^ 56 + unit * 2 ^ 48 + low % 2 ^ 48)

/-- A level-1 alarm source that is only counted (R221, R386). -/
def State.alarmCount (s : State) (bit : Nat) : State :=
  (s.modSloe (fun x => { x with
    sources := x.sources ||| BitVec.ofNat 20 (2 ^ bit), l1Count := min (x.l1Count + 1) 0xFFFF })).w1Mark 1 0x40 bit

/-- A level-1 alarm source (R389, R393): an ALARM event of severity 1, its SOURCES bit, L1_COUNT; REASON takes the codes of chapter 14's
own checks (Table 14.6). -/
def State.alarm1 (s : State) (bit code : Nat) : State :=
  let s := (s.modSloe (fun x => { x with
    sources := x.sources ||| BitVec.ofNat 20 (2 ^ bit), l1Count := min (x.l1Count + 1) 0xFFFF
    reason := if bit < 4 then x.reason else code })).w1Mark 1 0x40 bit
  s.event 5 code 1 (s.hearth.running.getD 0) (1 * 2 ^ 62 + s.sloe.l2Count * 2 ^ 48 + code * 2 ^ 32 + 2 ^ bit)

/-- Whether a trace record of engine class `cls` with this LAYER enters the buffer (R402); class 8 stands for "always". -/
def State.traced (s : State) (cls layer : Nat) : Bool :=
  bitOf s.dbg.ctl 31 && (cls = 8 || bitOf s.dbg.ctl (19 + cls)) &&
    (4 < cls || (fld s.dbg.range 15 0 ≤ layer && layer ≤ fld s.dbg.range 31 16))

/-- Emit a trace record (R399, R402, Table 15.5); a full buffer discards and counts it. -/
def State.trace (s : State) (cls unit sub ev layer oper seq : Nat) : State :=
  if !s.traced cls layer then s
  else if 4096 ≤ s.dbg.trace.length then
    (s.bump 7 0x108 1).modDbg (fun d => { d with lossRun := d.lossRun + 1 })
  else
    let r : BitVec 128 := BitVec.ofNat 128
      (s.clk.fbc.toNat % 2 ^ 48 * 2 ^ 80 + (sub * 128 + unit) * 2 ^ 68 + ev * 2 ^ 64 + layer % 2 ^ 16 * 2 ^ 48
        + oper % 2 ^ 16 * 2 ^ 32 + seq % 2 ^ 32)
    s.modDbg (fun d => { d with trace := d.trace ++ [r] })

/-- The steward command at the steward's position. -/
def Steward.cmd (t : Steward) : BitVec 256 := t.store.get 0#256 t.pos
def cmdLayer (w : BitVec 256) : Nat := fld w 255 240
def cmdOper (w : BitVec 256) : Nat := fld w 239 224
def cmdKind (w : BitVec 256) : Nat := fld w 223 216
def cmdArgs (w : BitVec 256) : BitVec 192 := w.extractLsb' 0 192

/-- Count a command of an engine: its SEQ (Table 15.5). -/
def State.nextSeq (s : State) (unit sub : Nat) : State × Nat :=
  let n := s.dbg.engSeq.get 0 (unit * 32 + sub) + 1
  (s.modDbg (fun d => { d with engSeq := d.engSeq.set 0 (unit * 32 + sub) (n % 2 ^ 32) }), n % 2 ^ 32)

/-- LAYER, OPERATOR and SEQ of the command current in a cluster (R400). -/
def State.curCmd (s : State) (k : Nat) : Nat × Nat × Nat :=
  let t := (s.cluster k).stw
  (cmdLayer t.cur, cmdOper t.cur, t.seq)

/-- Ending a steward's command with fault status and stopping its section; no command begins before a new JOB_LOAD, and a section that has
finished stays so (R300, R445). -/
def State.stopSection (s : State) (k : Nat) : State :=
  let t := (s.cluster k).stw
  let s := if t.run = .waiting then
      (s.trace 0 k 0 2 (cmdLayer t.cmd) (cmdOper t.cmd) t.seq).bump 7 (0x1008 + 16 * k) 1
    else s
  s.modStw k (fun t => { t with run := if t.run = .finished then .finished else .stopped, ended := true })

/-- A fresh random word (R384), a free value. -/
def State.draw (s : State) : BitVec 256 × State := (Config.random s.draws, { s with draws := s.draws + 1 })

/-- A fresh free value (log 14). -/
def State.freeVal (s : State) : BitVec 64 × State := (Config.freeValue s.draws, { s with draws := s.draws + 1 })

/-- The module's node id and hall id (R224). -/
def State.nodeId (s : State) : Nat := fld s.sloe.panPos 11 0
def State.hallId (s : State) : Nat := fld s.sloe.panPos 27 24

/-- A node's map entry: reset value VALID with the strap coordinates (R226). `nodeMap` lists the entries that differ from it. -/
def State.nodeEntry (s : State) (n : Nat) : W16 := s.pan.nodeMap.get 0#16 n ^^^ BitVec.ofNat 16 (0x8000 + n)

/-- The coordinates of a valid node. -/
def nodeXyz (e : W16) : Nat × Nat × Nat := (fld e 3 0, fld e 7 4, fld e 11 8)

/-- Clusters enabled by the fuses. -/
def State.cluEnabled (s : State) (k : Nat) : Bool := k < 100 && !s.fuses.fusedClu.contains k

/-- Wall-time quanta of a time in nanoseconds (log 2). -/
def quNs (n : Nat) : Nat := n * 6720
def quUs (n : Nat) : Nat := n * 6720000
def quMs (n : Nat) : Nat := n * 6720000000

/-- Frequency in MHz of an operating point code (Table 12.2). -/
def opMhz : Nat → Nat
  | 0 => 1750 | 1 => 1600 | 2 => 1500 | 3 => 1250 | _ => 1000

/-- Half beats per REFCLK period (R335). -/
def opHalf : Nat → Nat
  | 0 => 35 | 1 => 32 | 2 => 30 | 3 => 25 | _ => 20

end Sys2Proof.Machine
end

