-- ==== Sys2Proof/Machine/Ecc.lean ====
section
/-! DEFINITION. The RS(35,32) symbol correction of stored words and SRAM reads and writes through it (R257 to R260).
A stored word is held as the bytes last written and, in a second table, the error values of its 35 symbols. -/

namespace Sys2Proof.Machine

/-- Product in GF(2^8) with x^8 + x^4 + x^3 + x^2 + 1 (R257), by shifting `a` once per bit of `b`. -/
def gf8Mul (a b : Nat) : Nat :=
  ((List.range 8).foldl (fun (acc : Nat × Nat) i =>
    let r := if b.testBit i then acc.1 ^^^ acc.2 else acc.1
    let d := acc.2 * 2
    (r, if 256 ≤ d then d ^^^ 0x11D else d)) (0, a)).1

/-- α to the power `k`. -/
def gf8Pow : Nat → Nat
  | 0 => 1
  | k + 1 => gf8Mul (gf8Pow k) 2

/-- What the decoder finds in a word. -/
inductive WordFind where
  | clean
  | corrected (pos val : Nat)
  | bad
  deriving DecidableEq, Repr

/-- The decoder of R257 on the error symbols (position, value) of one word. -/
def rsFind (errs : List (Nat × Nat)) : WordFind :=
  let syn (j : Nat) := errs.foldl (fun a e => a ^^^ gf8Mul e.2 (gf8Pow (j * (34 - e.1)))) 0
  let s0 := syn 0
  let s1 := syn 1
  let s2 := syn 2
  if s0 = 0 && s1 = 0 && s2 = 0 then .clean
  else if s0 = 0 then .bad
  else match (List.range 35).find? (fun k => gf8Mul s0 (gf8Pow k) == s1 && gf8Mul s1 (gf8Pow k) == s2) with
    | some k => .corrected (34 - k) s0
    | none => .bad

/-- The error symbols of word `w` in a table keyed 35 * word + position. -/
def wordErrs (m : SMap Byte) (w : Nat) : List (Nat × Nat) :=
  (m.filter (fun p => 35 * w ≤ p.1 && p.1 < 35 * w + 35)).map (fun p => (p.1 - 35 * w, p.2.toNat))

/-- What the reader of word `w` is given where the stored bytes are `bs`: the bytes with the errors left in them (R257). -/
def wordRead (errs : List (Nat × Nat)) (bs : List Byte) : WordFind × List Byte :=
  let f := rsFind errs
  let flip := fun (bs : List Byte) (p v : Nat) => bs.modify p (fun b => b ^^^ BitVec.ofNat 8 v)
  let raw := errs.foldl (fun l e => flip l e.1 e.2) bs
  (f, match f with
    | .corrected p v => flip raw p v
    | _ => raw)

def clearWord (m : SMap Byte) (w : Nat) : SMap Byte := m.clearRange (35 * w) (35 * w + 35)

/-- Report an uncorrectable SRAM word met at address `a` of the core at place `n` (R259). -/
def State.sramEvent (s : State) (n a : Nat) : State := s.raise 0x0611 2 (n / 8) (n % 8 * 2 ^ 45 + a)

/-- Count and log an uncorrectable SRAM word. A cluster's log is laid out as a stack's, an address as core and SRAM address (log 17). -/
def State.logSramUe (s : State) (n a : Nat) : State :=
  (s.bump 5 0x098 1).modCel (fun c => { c with sramLog := c.sramLog.upd 0#128 (n / 8) (fun x =>
    if bitOf x 127 then x else putFld (putFld x 127 127 1) 103 64 (n % 8 * 2 ^ 21 + a)) })

/-- Count and log a corrected SRAM word. -/
def State.logSramCe (s : State) (n sym a : Nat) : State :=
  (s.bump 5 0x090 1).modCel (fun c => { c with sramLog := c.sramLog.upd 0#128 (n / 8) (fun x =>
    putFld (putFld (putFld x 63 63 1) 45 40 sym) 39 0 (n % 8 * 2 ^ 21 + a)) })

/-- Read one 32-byte SRAM word of the core at place `n`: the bytes, or none where it is uncorrectable, which is counted, logged and
reported (R258, R259). -/
def State.sramWord (s : State) (n w : Nat) : State × Option (List Byte) :=
  let k := s.coreN n
  match wordErrs k.sramErr w with
  | [] => (s, some (k.sram.read (32 * w) 32))
  | errs =>
    match wordRead errs (k.sram.read (32 * w) 32) with
    | (.bad, _) => ((s.logSramUe n (32 * w)).sramEvent n (32 * w), none)
    | (.clean, bs) => (s, some bs)
    | (.corrected p _, bs) =>
      let s := s.logSramCe n p (32 * w)
      (if s.cel.wbSram.contains (n, w) then s else s.modCel (fun c => { c with wbSram := c.wbSram ++ [(n, w)] }), some bs)

/-- Read `len` SRAM bytes at `a`, or none where one of their words is uncorrectable. -/
def State.sramRead (s : State) (n a len : Nat) : State × Option (List Byte) :=
  let k := s.coreN n
  if k.sramErr = [] then (s, some (k.sram.read a len))
  else
    let w0 := a / 32
    let (s, r) := (List.range ((a + len + 31) / 32 - w0)).foldl (fun (acc : State × Option (List Byte)) i =>
      let (s, o) := acc.1.sramWord n (w0 + i)
      (s, match acc.2, o with
        | some x, some y => some (x ++ y)
        | _, _ => none)) (s, some [])
    (s, r.map (fun bs => (bs.drop (a - 32 * w0)).take len))

/-- Write bytes to SRAM. A word that the write covers whole loses its errors; one that it covers in part is corrected first,
or left as it was where it is uncorrectable, which the answer reports (R258, R260). -/
def State.sramWrite (s : State) (n a : Nat) (bs : List Byte) : State × Bool :=
  let k := s.coreN n
  let len := bs.length
  let cancel (s : State) : State :=
    if s.cel.wbSram = [] then s
    else s.modCel (fun c => { c with wbSram := c.wbSram.filter (fun p => !(p.1 == n && a < 32 * p.2 + 32 && 32 * p.2 < a + len)) })
  if k.sramErr = [] then (cancel (s.modCoreN n (fun k => { k with sram := k.sram.write a bs })), true)
  else
    let w0 := a / 32
    (List.range ((a + len + 31) / 32 - w0)).foldl (fun (acc : State × Bool) i =>
      let w := w0 + i
      let lo := max a (32 * w)
      let hi := min (a + len) (32 * w + 32)
      let part := (bs.drop (lo - a)).take (hi - lo)
      let put (s : State) : State := s.modCoreN n (fun k => { k with sram := k.sram.write lo part, sramErr := clearWord k.sramErr w })
      if hi - lo = 32 then (cancel (put acc.1), acc.2)
      else
        match acc.1.sramWord n w with
        | (s, some old) => (cancel (put (s.modCoreN n (fun k => { k with sram := k.sram.write (32 * w) old }))), acc.2)
        | (s, none) => (s, false)) (s, true)

/-- Replace the 8 bytes at `a`, a multiple of 8, by `f` of them: the old value, or none where their word is uncorrectable. The word is
read once and written whole (R143, R258, R260). -/
def State.sramAtomic (s : State) (n a : Nat) (f : Nat → Nat) : State × Option Nat :=
  let w := a / 32
  match s.sramWord n w with
  | (s, none) => (s, none)
  | (s, some bs) =>
    let old := leNat ((bs.drop (a - 32 * w)).take 8)
    ((s.sramWrite n (32 * w) (bs.take (a - 32 * w) ++ leBytes 8 (f old) ++ bs.drop (a - 32 * w + 8))).1, some old)

end Sys2Proof.Machine
end

