-- ==== Sys2Proof/Machine/Hbm.lean ====
section
/-! DEFINITION. The HBM store: placement (R255), regions and keys (R262, R263), sealing and checking of blocks (R264, R265),
symbol correction (R257 to R259). -/

namespace Sys2Proof.Machine

/-- End of usable HBM (R255). -/
def hbmEnd : Nat := 0x8B80000000

/-- The stack that holds block `bb` (R255). -/
def blockStack (bb : Nat) : Nat := nfld bb 2 0 ^^^ nfld bb 5 3 ^^^ nfld bb 8 6

/-- The stack address of usable offset `o`. -/
def stackAddr (o : Nat) : Nat := 256 * (o / 256 / 8) + o % 256

/-- The stack address of the tag word of block `bb`. -/
def tagAddr (bb : Nat) : Nat := 0x1170000000 + 8 * (bb / 8)

/-- The key of data word `i` (0 to 7) of block `bb`, and of the 32-byte word that holds its tag word, in the error table. -/
def dataWord (bb i : Nat) : Nat := 8 * bb + i
def tagWord (bb : Nat) : Nat := 2 ^ 40 + blockStack bb * 2 ^ 30 + bb / 8 / 4

/-- A context's keys (R263). -/
def ctxKey (label : String) (z : BitVec 256) (ctx : Nat) (epoch : Byte) : Nat :=
  hkdf (List.replicate 32 0#8) (beBytes 32 z.toNat) (ascii label ++ [BitVec.ofNat 8 ctx, epoch])

/-- The tag of ciphertext `ct` of block `bb` (R264). -/
def hbmTag (z : BitVec 256) (ctx : Nat) (epoch : Byte) (bb : Nat) (ct : List Byte) : Nat :=
  let ks := aesKeys (ctxKey "CLTG" z ctx epoch)
  let n := epoch.toNat * 2 ^ 44 + ctx % 16 * 2 ^ 40 + bb % 2 ^ 40
  let g := ghash (aesEncK ks 0) (blocks16 ct)
  leNat (beBytes 16 (aesEncK ks (g ^^^ beNat (leBytes 16 n)))) % 2 ^ 56

/-- Seal 256 bytes as block `bb` (R264). -/
def sealBlock (z : BitVec 256) (ctx : Nat) (epoch : Byte) (bb : Nat) (bs : List Byte) : HBlock :=
  let ct := xtsEnc (ctxKey "CLX1" z ctx epoch) (ctxKey "CLX2" z ctx epoch) bb bs
  ⟨BitVec.ofNat 2048 (leNat ct), BitVec.ofNat 64 (epoch.toNat * 2 ^ 56 + hbmTag z ctx epoch bb ct)⟩

/-- The bytes of a block that a fill or a save wrote. -/
def fillBytes (body : Option Nat) (bb : Nat) : List Byte :=
  match body with
  | none => List.replicate 256 0#8
  | some n => leBytes 256 (Config.savedBlock n bb).toNat

/-- The stored block: what was last written, the last fill that covers it, or what power-on left (log 7). -/
def Cellar.block (c : Cellar) (bb : Nat) : HBlock :=
  match c.blocks.get none bb with
  | some b => b
  | none =>
    match c.fills.find? (fun f => f.lo ≤ bb && bb < f.hi) with
    | some f => sealBlock f.z f.ctx f.epoch bb (fillBytes f.body bb)
    | none =>
      ⟨BitVec.ofNat 2048 ((List.range 4).foldr (fun i a => a * 2 ^ 512 + (Config.hbmPowerOn c.powerOn (4 * bb + i)).toNat) 0),
        (Config.hbmPowerOn c.powerOn (2 ^ 40 + bb)).truncate 64⟩

/-- Record an uncorrectable word of a stack (Table 9.13): the first since UE_VALID was cleared. -/
def State.logUe (s : State) (stack addr : Nat) : State :=
  let s := (s.bump 5 0x088 1).w1Mark 5 (0x80C + 16 * stack) 31
  s.modCel (fun c => { c with log := c.log.upd 0#128 stack (fun x =>
    if bitOf x 127 then x else putFld (putFld x 127 127 1) 103 64 addr) })

/-- Record a corrected word of a stack: the last. -/
def State.logCe (s : State) (stack sym addr : Nat) : State :=
  let s := (s.bump 5 0x080 1).w1Mark 5 (0x804 + 16 * stack) 31
  s.modCel (fun c => { c with log := c.log.upd 0#128 stack (fun x => putFld (putFld (putFld x 63 63 1) 45 40 sym) 39 0 addr) })

/-- Pass `bs`, the word with key `w`, through the decoder; `addr` its stack address. -/
def State.hbmWord (s : State) (w stack addr : Nat) (bs : List Byte) : State × Option (List Byte) :=
  match wordErrs s.cel.symErr w with
  | [] => (s, some bs)
  | errs =>
    match wordRead errs bs with
    | (.bad, _) => ((s.logUe stack addr).raise 0x0610 3 stack addr, none)
    | (.clean, x) => (s, some x)
    | (.corrected p _, x) =>
      let s := s.logCe stack p addr
      (if s.cel.wbHbm.contains w then s else s.modCel (fun c => { c with wbHbm := c.wbHbm ++ [w] }), some x)

/-- Read the ciphertext and the tag word of a block through the decoder; none where a word is uncorrectable. -/
def State.hbmRaw (s : State) (bb : Nat) : State × Option (List Byte × Nat) :=
  let b := s.cel.block bb
  let st := blockStack bb
  let ct := leBytes 256 b.ct.toNat
  let tagBytes := leBytes 8 b.tag.toNat
  if s.cel.symErr = [] then (s, some (ct, b.tag.toNat))
  else
    let (s, r) := (List.range 8).foldl (fun (acc : State × Option (List Byte)) i =>
      let (s, o) := acc.1.hbmWord (dataWord bb i) st (256 * (bb / 8) + 32 * i) ((ct.drop (32 * i)).take 32)
      (s, match acc.2, o with
        | some x, some y => some (x ++ y)
        | _, _ => none)) (s, some [])
    let at8 := 8 * (bb / 8 % 4)
    let whole := List.replicate at8 0#8 ++ tagBytes ++ List.replicate (24 - at8) 0#8
    let (s, t) := s.hbmWord (tagWord bb) st (tagAddr bb / 32 * 32) whole
    (s, match r, t with
      | some x, some y => some (x, leNat ((y.drop at8).take 8))
      | _, _ => none)

/-- The Cellar takes accesses: ready, its regions running, not parked (R256, R271, R405). -/
def State.celOn (s : State) : Bool := s.cel.ready && s.clk.celRun && s.hearth.pState ≤ 1

/-- An access meets a bank under refresh (R271). -/
def State.refreshing (s : State) (off : Nat) : Bool := s.clk.wall < s.cel.refresh.get 0 (Config.hbmBank (off / 256))

/-- The range lies in enabled regions of the context (R262, R292). -/
def State.inRegions (s : State) (ctx off n : Nat) : Bool :=
  0 < n && off + n ≤ hbmEnd &&
    (List.range ((off + n - 1) / 0x200000 - off / 0x200000 + 1)).all (fun i =>
      let u := (off / 0x200000 + i) * 0x200000
      s.cel.regions.any (fun r => bitOf r.2 127 && fld r.2 126 123 == ctx && fld r.2 39 0 ≤ u && u + 0x1FFFFF ≤ fld r.2 103 64))

/-- The range lies in enabled regions of the context, and the context is keyed (R262). -/
def State.hbmAllowed (s : State) (ctx off n : Nat) : Bool :=
  (s.cel.keys.get KeySet.zero ctx).keyed && s.inRegions ctx off n

/-- Read and check one block for a context: its 256 bytes, or the reason it fails (R264). Regions are checked by the caller. -/
def State.hbmBlock (s : State) (ctx bb : Nat) : State × (List Byte × Nat) :=
  let st := blockStack bb
  match s.hbmRaw bb with
  | (s, none) => (s, ([], 0x0610))
  | (s, some (ct, tag)) =>
    let k := s.cel.keys.get KeySet.zero ctx
    if tag / 2 ^ 56 ≠ k.epoch.toNat then
      (((s.cellarCode 0x0613).bump 5 0x0A8 1).raise 0x0613 3 st (stackAddr (256 * bb)), ([], 0x0613))
    else if tag % 2 ^ 56 ≠ hbmTag k.z ctx k.epoch bb ct then
      ((((s.cellarCode 0x0506).bump 5 0x0A0 1).raise 0x0506 3 st (stackAddr (256 * bb))).alarm1 3 0x0506, ([], 0x0506))
    else (s, (xtsDec (ctxKey "CLX1" k.z ctx k.epoch) (ctxKey "CLX2" k.z ctx k.epoch) bb ct, 0))

/-- Seal and store a whole block; the words lose their errors and waiting write-backs (R258, R264). -/
def State.hbmPut (s : State) (ctx bb : Nat) (bs : List Byte) : State :=
  let k := s.cel.keys.get KeySet.zero ctx
  let ws := tagWord bb :: (List.range 8).map (dataWord bb)
  s.modCel (fun c => { c with
    blocks := c.blocks.set none bb (some (sealBlock k.z ctx k.epoch bb bs))
    symErr := ws.foldl clearWord c.symErr
    wbHbm := c.wbHbm.filter (fun w => !ws.contains w) })

/-- Refuse an access outside the context's regions (R262). -/
def State.hbmRefuse (s : State) (off : Nat) : State := ((s.cellarCode 0x0505).bump 5 0x0B0 1).raise 0x0505 0 0 off

/-- Read `n` bytes at `off` for a context: the bytes and 0, or a reason code (R262, R264). -/
def State.hbmRead (s : State) (ctx off n : Nat) : State × (List Byte × Nat) :=
  if !s.hbmAllowed ctx off n then (s.hbmRefuse off, ([], 0x0505))
  else
    let (s, r) := (List.range ((off + n - 1) / 256 - off / 256 + 1)).foldl (fun (acc : State × (List Byte × Nat)) i =>
      if acc.2.2 ≠ 0 then acc
      else
        let (s, b) := acc.1.hbmBlock ctx (off / 256 + i)
        (s, (acc.2.1 ++ b.1, b.2))) (s, ([], 0))
    (s, if r.2 ≠ 0 then ([], r.2) else ((r.1.drop (off % 256)).take n, 0))

/-- Write bytes at `off` for a context; the answer is 0 or a reason code. A block written in part is read and checked first
(R265). -/
def State.hbmWrite (s : State) (ctx off : Nat) (bs : List Byte) : State × Nat :=
  let n := bs.length
  if !s.hbmAllowed ctx off n then (s.hbmRefuse off, 0x0505)
  else
    (List.range ((off + n - 1) / 256 - off / 256 + 1)).foldl (fun (acc : State × Nat) i =>
      if acc.2 ≠ 0 then acc
      else
        let bb := off / 256 + i
        let lo := max off (256 * bb)
        let hi := min (off + n) (256 * bb + 256)
        let part := (bs.drop (lo - off)).take (hi - lo)
        if hi - lo = 256 then (acc.1.hbmPut ctx bb part, 0)
        else
          let (s, old) := (acc.1.bump 5 0x0C0 1).hbmBlock ctx bb
          if old.2 ≠ 0 then (s, old.2)
          else (s.hbmPut ctx bb (old.1.take (lo - 256 * bb) ++ part ++ old.1.drop (hi - 256 * bb)), 0)) (s, 0)

/-- Replace the 8 bytes at `off`, a multiple of 8, by `f` of them for a context: the old value and 0, or a reason code. The block is read
and checked once (R143, R265). -/
def State.hbmAtomic (s : State) (ctx off : Nat) (f : Nat → Nat) : State × (Nat × Nat) :=
  if !s.hbmAllowed ctx off 8 then (s.hbmRefuse off, (0, 0x0505))
  else
    let bb := off / 256
    let o := off % 256
    let (s, b) := (s.bump 5 0x0C0 1).hbmBlock ctx bb
    if b.2 ≠ 0 then (s, (0, b.2))
    else
      let old := leNat ((b.1.drop o).take 8)
      (s.hbmPut ctx bb (b.1.take o ++ leBytes 8 (f old) ++ b.1.drop (o + 8)), (old, 0))

/-- Write whole blocks `lo` to `hi - 1`, zeros or the body of a save, sealed for a context under a key set (R294, R295, R297). -/
def State.hbmFill (s : State) (ctx lo hi : Nat) (k : KeySet) (body : Option Nat) : State :=
  if hi ≤ lo then s
  else s.modCel (fun c => { c with
    blocks := c.blocks.clearRange lo hi
    fills := ⟨lo, hi, ctx, k.epoch, k.z, body⟩ :: c.fills.filter (fun f => !(lo ≤ f.lo && f.hi ≤ hi))
    symErr := c.symErr.filter (fun p =>
      let w := p.1 / 35
      !(8 * lo ≤ w && w < 8 * hi) &&
        !(2 ^ 40 ≤ w && (List.range 4).all (fun j =>
            let b := 8 * (4 * (w % 2 ^ 30) + j)
            lo ≤ b && b + 8 ≤ hi)))
    wbHbm := c.wbHbm.filter (fun w => !(8 * lo ≤ w && w < 8 * hi)) })

end Sys2Proof.Machine
end

