-- ==== Sys2Proof/Machine/Operands.lean ====
section
/-! DEFINITION. Operand forms: register reads (R63), immediates (R92), address sums (R105, R106), descriptors (R107, R138 to
R144), vector lanes and elements (R123), predicates and draws (R124). -/

namespace Sys2Proof.Machine

/-! Registers -/

/-- s0 reads as zero (R63). -/
def Core.s (k : Core) (n : BitVec 6) : W64 := if n = 0#6 then 0#64 else k.sreg.get 0#64 n.toNat

/-- p0 reads as all ones (R63). -/
def Core.p (k : Core) (n : BitVec 4) : Pred := if n = 0#4 then BitVec.allOnes 256 else k.preg.get 0#256 n.toNat

def Core.v (k : Core) (n : BitVec 6) : VecReg := k.vreg.get 0#8192 n.toNat

/-- The value of a completion counter. -/
def Core.ccv (k : Core) (n : Nat) : W32 := k.cc.get 0#32 n

def Core.tile (k : Core) (t : Nat) : Tile := k.tiles.get Tile.zero t

/-- The active and the inactive weight buffer (R64). -/
def Core.active (k : Core) : WBuf := if k.act1 then k.wb1 else k.wb0
/-- Change weight buffer 1 or 0. -/
def Core.modBuf (k : Core) (w1 : Bool) (f : WBuf → WBuf) : Core :=
  if w1 then { k with wb1 := f k.wb1 } else { k with wb0 := f k.wb0 }

/-- The program's identity in draws (R40, R308). -/
def State.coreDraw24 (s : State) (k : Core) (stream idx : Nat) : Nat :=
  draw24 ((s.job.map (fun j => j.seed.toNat)).getD 0) k.vrank.toNat k.vcore.toNat stream idx

/-! Immediates and addresses -/

/-- Sign extension to 64 bits. -/
def sext64 {n : Nat} (x : BitVec n) : W64 := x.signExtend 64
/-- Zero extension to 64 bits. -/
def zext64 {n : Nat} (x : BitVec n) : W64 := x.zeroExtend 64

/-- End of a core's SRAM (R69). -/
def sramEnd : Nat := 0x180000

/-- The address of LDS and STS (R105). -/
def Core.ldsAddr (k : Core) (a : BitVec 6) (off : BitVec 12) : Nat := (k.s a + sext64 off).toNat

/-- The address of VLD and VST (R106). -/
def Core.vldAddr (k : Core) (a : BitVec 6) (off : BitVec 15) : Nat := (k.s a + 64#64 * sext64 off).toNat

/-- A scalar access of `n` bytes is aligned and inside SRAM (R105). -/
def ldsOk (addr n : Nat) : Bool := addr % n == 0 && addr < sramEnd

/-- A vector access is aligned and inside SRAM (R106). -/
def vldOk (addr : Nat) : Bool := addr % 64 == 0 && addr + 1023 < sramEnd

/-- The sum with an unsigned immediate that WAITCC and CCSET use, low 32 bits (R146, R147). -/
def Core.ccImm (k : Core) (a : BitVec 6) (imm : BitVec 13) : W32 := (k.s a + zext64 imm).truncate 32

/-- The signed sum of CCADD (R147). -/
def Core.ccImmS (k : Core) (a : BitVec 6) (imm : BitVec 13) : W32 := (k.s a + sext64 imm).truncate 32

/-- The target of WAITBEAT (R102). -/
def Core.beatImm (k : Core) (a : BitVec 6) (imm : BitVec 14) : Nat := (k.s a + zext64 imm).toNat

/-- A guard is satisfied (R76). -/
def guardMet (cc target : W32) : Bool := !(cc - target).msb

/-! Vector registers -/

/-- Lane `l` of a vector register. -/
def lane (x : VecReg) (l : Nat) : Nat := x.toNat / 2 ^ (32 * l) % 2 ^ 32

/-- The code of element `e` of format `f` (R123). -/
def elem (x : VecReg) (f : Fmt) (e : Nat) : Nat :=
  let c := x.toNat / 2 ^ (f.wid * e) % 2 ^ f.wid
  if f = .e2m3 then c % 64 else c

/-- Pack codes of `w` bits, the first lowest. -/
def packBits (w : Nat) (l : List Nat) : Nat := l.foldr (fun x acc => acc * 2 ^ w + x % 2 ^ w) 0

/-- A value for every lane, with flags, of the lanes that predicate `p` selects; the mask of the lanes written and the flags
of those lanes only (R63, R122). -/
def lanes (p : Pred) (f : Nat → Nat × Flags) : VecReg × VecReg × Flags :=
  let r := (List.range 256).map (fun l => if p.getLsbD l then ((f l).1, 2 ^ 32 - 1, (f l).2) else (0, 0, 0#4))
  (BitVec.ofNat 8192 (packBits 32 (r.map (·.1))), BitVec.ofNat 8192 (packBits 32 (r.map (·.2.1))),
    r.foldl (fun a x => a ||| x.2.2) 0#4)

/-- As `lanes`, for two 16-bit elements of each lane. -/
def lanes16 (p : Pred) (f : Nat → Nat → Nat × Flags) : VecReg × VecReg × Flags :=
  lanes p (fun l =>
    let (a, fa) := f l 0
    let (b, fb) := f l 1
    (a + b * 2 ^ 16, fa ||| fb))

/-- Write codes to elements `e0`, `e0 + 1`, … of format `f`, those that `p` selects: value and mask (R123, R131). -/
def elems (f : Fmt) (p : Pred) (e0 : Nat) (codes : List (Nat × Flags)) : VecReg × VecReg × Flags :=
  let r := (withIx codes).map (fun (i, (c, g)) => if p.getLsbD i then (c, 2 ^ f.wid - 1, g) else (0, 0, 0#4))
  (BitVec.ofNat 8192 (packBits f.wid (r.map (·.1)) * 2 ^ (f.wid * e0)),
   BitVec.ofNat 8192 (packBits f.wid (r.map (·.2.1)) * 2 ^ (f.wid * e0)), r.foldl (fun a x => a ||| x.2.2) 0#4)

/-- A register written whole. -/
def allLanes : VecReg := BitVec.allOnes 8192

/-- Write the masked bits of `x` over `old` (R447). -/
def blend {n : Nat} (old x mask : BitVec n) : BitVec n := (old &&& ~~~mask) ||| (x &&& mask)

/-- Strand group `g` exists and every named register lies in its window (R62). -/
def Core.groupOk (k : Core) (g : BitVec 4) (named : List (BitVec 6)) : Bool :=
  let e := k.groups.get 0#16 g.toNat
  bitOf e 15 && named.all (fun v => fld e 5 0 ≤ v.toNat && v.toNat < fld e 5 0 + fld e 12 6)

/-- The element types that T selects (R120). -/
def tFmt (t : BitVec 2) : Fmt :=
  if t = 0#2 then .fp32 else if t = 1#2 then .bf16 else if t = 2#2 then .fp16 else .int32

/-- The rounding mode field; 0b11 is refused before it is used (R88). -/
def rmOf (rm : BitVec 2) : Rm := if rm = 1#2 then .rtz else if rm = 2#2 then .sr else .rne

/-- The draw of R124 for source index `x` of an instruction of group `g`; zero where no draw is taken. -/
def State.vDraw (s : State) (k : Core) (g : BitVec 4) (rm : Rm) (x : Nat) : Nat :=
  if rm = .sr then s.coreDraw24 k (0x8000 + g.toNat) ((k.rseq.get 0#41 g.toNat).toNat * 512 + x) else 0

/-- The rounding sequence advances once for an instruction with RM = SR (R124). -/
def Core.bumpRseq (k : Core) (g : BitVec 4) (rm : Rm) : Core :=
  if rm = .sr then { k with rseq := k.rseq.upd 0#41 g.toNat (· + 1#41) } else k

/-! Array configuration (R111) -/

def cfgA (c : BitVec 20) : Nat := fld c 2 0
def cfgB (c : BitVec 20) : Nat := fld c 5 3
def cfgAsc (c : BitVec 20) : Bool := bitOf c 6
def cfgBsc (c : BitVec 20) : Bool := bitOf c 7
def cfgIacc (c : BitVec 20) : Bool := bitOf c 8
def cfgStride (c : BitVec 20) : Nat := fld c 19 9

/-- Element width of a format code. -/
def codeBits (f : Nat) : Nat := match Fmt.ofCode f with
  | some x => x.bits
  | none => 8

/-- K of a configuration. -/
def cfgK (c : BitVec 20) : Nat :=
  let small (f : Nat) : Bool := f == 2 || f == 3
  if small (cfgA c) && small (cfgB c) then 128 else 64

/-- Beats per A row. -/
def cfgBeats (c : BitVec 20) : Nat := if cfgA c = 5 || cfgA c = 6 then 2 else 1

/-- Bytes of an A row. -/
def cfgRow (c : BitVec 20) : Nat := cfgK c * codeBits (cfgA c) / 8

/-- The operand pairs of Table 2.6. -/
def pairOk (a b : Nat) : Bool :=
  match a with
  | 0 => b ≤ 3
  | 1 => b ≤ 3
  | 2 => b ≤ 3
  | 3 => b ≤ 3
  | 4 => b == 4
  | 5 => b == 5
  | 6 => b == 6
  | _ => false

/-- The rules of R111 and R112 that WLOAD holds a configuration to. -/
def cfgOk (c : BitVec 20) : Bool :=
  pairOk (cfgA c) (cfgB c) && (!cfgIacc c || (cfgA c == 4 && cfgB c == 4 && !cfgAsc c && !cfgBsc c)) &&
    !(cfgAsc c && 5 ≤ cfgA c) && !(cfgBsc c && 5 ≤ cfgB c)

/-! Descriptors in scalar registers -/

/-- Table 4.8. -/
structure HmovDesc where
  ok    : Bool
  ccen  : Bool
  cc    : Nat
  n     : Nat
  dst   : Nat
  src   : Nat
  deriving DecidableEq, Repr

def hmovDesc (x : W64) : HmovDesc := ⟨fld x 63 58 == 0, bitOf x 57, fld x 56 49, fld x 48 42 + 1, fld x 41 21, fld x 20 0⟩

/-- Table 5.6. -/
structure FsendDesc where
  ok    : Bool
  route : Nat
  cidx  : Nat
  n     : Nat
  dep   : Nat
  src   : Nat
  deriving DecidableEq, Repr

def fsendDesc (x y : W64) : FsendDesc :=
  ⟨fld x 27 15 == 0 && fld y 39 21 == 0, fld x 63 48, fld x 47 28, fld x 14 0 + 1, fld y 63 40, fld y 20 0⟩

/-- Space selector, hall, node and offset of a Pantry address (R138). -/
def paSpace (p : Nat) : Nat := nfld p 63 56
def paHall (p : Nat) : Nat := nfld p 55 52
def paNode (p : Nat) : Nat := nfld p 51 40
def paOff (p : Nat) : Nat := nfld p 39 0

end Sys2Proof.Machine
end

