-- ==== Sys2Proof/Machine/Ops.lean ====
section
/-! DEFINITION. The operations that core instructions share: places on the grid (R9, R15), traps (R79, R445), hazards and
collisions (R58, R77, Table 3.5), results in flight, unit occupancy (R60), bank slots (R69 to R72), counter increments (R75). -/

namespace Sys2Proof.Machine

/-! Places -/

/-- Column and row on the virtual grid of the core at place `n` (R9, R15). -/
def coreCol (n : Nat) : Nat := (n / 8 / 25 % 2) * 10 + n / 8 % 5 * 2 + n % 2
def coreRow (n : Nat) : Nat := (n / 8 / 25 / 2) * 20 + n / 8 % 25 / 5 * 4 + n % 8 / 2

/-- The place of the core at a column and row. -/
def coreAt (col row : Nat) : Nat :=
  8 * (25 * (col / 10 + 2 * (row / 20)) + 5 * (row % 20 / 4) + col % 10 / 2) + 2 * (row % 4) + col % 2

/-- The grid position `j` steps from a core in direction 0 north, 1 east, 2 south, 3 west; none outside the grid (R107). -/
def hopPos (col row dir j : Nat) : Option (Nat × Nat) :=
  let p : Int × Int := match dir with
    | 0 => (col, (row : Int) - j)
    | 1 => ((col : Int) + j, row)
    | 2 => (col, (row : Int) + j)
    | _ => ((col : Int) - j, row)
  if 0 ≤ p.1 && p.1 < 20 && 0 ≤ p.2 && p.2 < 40 then some (p.1.toNat, p.2.toNat) else none

/-- A link between two adjacent positions crosses a quarter boundary (Table 1.2). -/
def isStair (a b : Nat × Nat) : Bool := a.1 / 10 != b.1 / 10 || a.2 / 20 != b.2 / 20

/-! Traps -/

/-- The fault record of Table 3.6; slots are numbered as R89 orders them. -/
def faultRec (beat pc slot res kind : Nat) : W64 :=
  BitVec.ofNat 64 (beat % 2 ^ 24 * 2 ^ 40 + pc % 2 ^ 13 * 2 ^ 27 + (3 - slot) * 2 ^ 25 + res % 256 * 2 ^ 17 + kind)

/-- A request that an instruction already issued waits to enter stays when its core stops (R79). -/
def Wait.stays : Wait → Bool
  | .queue _ => true
  | _ => false

/-- A trap or fault of the core at place `n` for the bundle at `pc` issued at `issue` (R79, R445); nothing for a core that has stopped. -/
def State.trapAt (s : State) (n issue pc slot kind res : Nat) : State :=
  if (s.coreN n).run = .faulted then s
  else
    let r := faultRec (issue - s.tt.beat0) pc slot res kind
    let s := s.modCoreN n (fun k => { k with
      run := .faulted, waits := k.waits.filter (fun w => w.stays && k.since != issue), start := none, branch := none, skip := none
      fault := r })
    (s.stopSection (n / 8)).raise (if kind = 9 then 0x0611 else 0x080C) 2 (n / 8) (n % 8 * 2 ^ 45 + r.toNat % 2 ^ 40)

/-- A trap or fault of the bundle that issues now. -/
def State.trap (s : State) (c : CoreRef) (slot kind res : Nat) : State :=
  s.trapAt c.ix s.clk.beat (s.core c).pc slot kind res

/-- A fault on the uncorrectable words `ws` that the core's own access meets (Table 9.2): each is counted and logged; the fault's
event stands for the first of them, every other word and every word of a core that has stopped has an event of its own (R259, R445). -/
def State.memFault (s : State) (n issue pc slot : Nat) (ws : List Nat) : State :=
  let own := if (s.coreN n).run = .faulted then ws else ws.drop 1
  let s := ws.foldl (fun (s : State) w => s.logSramUe n (32 * w)) s
  let s := s.trapAt n issue pc slot 9 (32 * ws.headD 0 / 64 % 24)
  own.foldl (fun (s : State) w => s.sramEvent n (32 * w)) s

/-! Results in flight -/

/-- What an instruction may read while a write to it is in flight. -/
inductive Res where
  | s (n : BitVec 6)
  | p (n : BitVec 4)
  | v (n : BitVec 6)
  | acfg
  | row (tile row : Nat)
  | tile (tile : Nat)
  | mode (tile : Nat)
  | flags (g : Nat)
  deriving DecidableEq, Repr

/-- The RESOURCE number of Table 3.6. -/
def Res.num : Res → Nat
  | .s n => n.toNat
  | .p n => n.toNat
  | .v n => n.toNat
  | .acfg => 0
  | .row t _ => t
  | .tile t => t
  | .mode t => t
  | .flags g => g

/-- The action writes the resource. -/
def Act.writes (a : Act) : Res → Bool
  | .s n => n != 0#6 && (match a.eff with
    | .sreg d _ => d == n.toNat
    | .loadS d .. => d == n.toNat
    | _ => false)
  | .p n => n != 0#4 && (match a.eff with
    | .preg d .. => d == n.toNat
    | _ => false)
  | .v n => match a.eff with
    | .vreg d .. => d == n.toNat
    | .loadV d _ => d == n.toNat
    | _ => false
  | .acfg => match a.eff with
    | .acfg _ => true
    | _ => false
  | .row t r => match a.eff with
    | .mmaRow t' r' .. => t == t' && r == r'
    | .mmaHalf t' r' .. => t == t' && r == r'
    | .rowAdd t' r' .. => t == t' && r == r'
    | .tclr t' _ => t == t'
    | _ => false
  | .tile t => match a.eff with
    | .mmaRow t' .. => t == t'
    | .mmaHalf t' .. => t == t'
    | .rowAdd t' .. => t == t'
    | _ => false
  | .mode t => match a.eff with
    | .tclr t' _ => t == t'
    | _ => false
  | .flags g => a.fset == some g

/-- A write to the resource is in flight, by an instruction that counts as issued before slot `slot` of beat `b` (R58, R89). -/
def Core.inFlight (k : Core) (b slot : Nat) (r : Res) : Bool :=
  k.acts.any (fun a => (a.issue < b || a.slot < slot) && a.writes r)

/-- The register that an action writes, as (kind, number), and the beat in which the write lands. -/
def Act.dest (a : Act) : Option (Nat × Nat × Nat) :=
  match a.eff with
  | .sreg d _ => if d = 0 then none else some (0, d, a.due)
  | .loadS d .. => if d = 0 then none else some (0, d, a.due + 5)
  | .preg d .. => if d = 0 then none else some (1, d, a.due)
  | .vreg d .. => some (2, d, a.due)
  | .loadV d _ => some (2, d, a.due + 5)
  | .acfg _ => some (3, 0, a.due)
  | _ => none

/-- The register number on which one of `new` would collide with one of `old` or with an earlier one of `new` (Table 3.5). -/
def collide : List Act → List Act → Option Nat
  | _, [] => none
  | old, a :: new =>
    match a.dest with
    | some d => if old.any (fun x => x.dest == some d) then some d.2.1 else collide (old ++ [a]) new
    | none => collide (old ++ [a]) new

/-- What is left of a bundle that faults after its issue beat takes no effect (R79). -/
def Core.cancel (k : Core) (issue pc : Nat) : Core :=
  { k with acts := k.acts.filter (fun x => !(x.issue == issue && x.pc == pc && x.slot < 4)) }

/-! Bank slots -/

def bankOf (a : Nat) : Nat := a / 64 % 24

/-- The chunks that `n` bytes at `a` touch (R69). -/
def chunksOf (a n : Nat) : List Nat :=
  if n = 0 then [] else (List.range ((a + n - 1) / 64 - a / 64 + 1)).map (fun i => a / 64 + i)

/-- The banks of the chunks that `n` bytes at `a` touch, one slot each (R69, R70). -/
def banksOf (a n : Nat) : List Nat := (chunksOf a n).map (· % 24)

/-- The ranges, address and bytes, that an action accesses in its beat. -/
def Eff.spans : Eff → List (Nat × Nat)
  | .loadS _ a n _ => [(a, n)]
  | .loadV _ a => [(a, 1024)]
  | .storeA a bs => [(a, bs.length)]
  | .wload a _ _ => [(a, 512)]
  | .wscale a n _ => [(a, n)]
  | .mmaRow _ _ a rb asc _ cfg =>
    (a, rb) :: (match asc with
      | some x => [(x, cfgK cfg / 32)]
      | none => [])
  | .mmaHalf _ _ a .. => [(a, 64)]
  | .hread _ a .. => [(a, 128)]
  | .stg o => [(o.l, o.n)]
  | _ => []

/-- The bank slots an action takes in its beat, one for each chunk (R70, R114). -/
def Eff.banks (e : Eff) : List Nat := ((e.spans.flatMap (fun x => chunksOf x.1 x.2)).eraseDups).map (· % 24)

/-- The action writes SRAM. -/
def Eff.isStore : Eff → Bool
  | .storeA .. => true
  | _ => false

/-- The action is an access that takes bank slots. -/
def Eff.isAccess (e : Eff) : Bool := e.banks != []

/-- A bank in which one of `new` meets, in its beat, another of the core's accesses. -/
def bankMeet : List Act → List Act → Option Nat
  | _, [] => none
  | old, a :: new =>
    let bs := a.eff.banks
    let taken := (old.filter (fun x => x.due == a.due)).flatMap (fun x => x.eff.banks)
    match bs.find? (fun x => taken.contains x || 1 < bs.count x) with
    | some x => some x
    | none => bankMeet (old ++ [a]) new

/-- The uncorrectable words that an access of the core at place `n` reads, or writes in part (R259, R260). -/
def State.badWords (s : State) (n : Nat) (e : Eff) : List Nat :=
  let k := s.coreN n
  if k.sramErr = [] then []
  else (e.spans.flatMap (fun x =>
    ((List.range ((x.1 + x.2 + 31) / 32 - x.1 / 32)).map (· + x.1 / 32)).filter (fun w =>
      rsFind (wordErrs k.sramErr w) = .bad && !(e.isStore && x.1 ≤ 32 * w && 32 * w + 32 ≤ x.1 + x.2)))).eraseDups

/-- A bank of the core's SRAM is taken in this beat by a scheduled access (R71). -/
def State.bankBusy (s : State) (n bank : Nat) : Bool :=
  let k := s.coreN n
  (k.bankAt == s.clk.beat && k.banks.any (fun x => x.1 == bank)) ||
    k.acts.any (fun a => a.due ≤ s.clk.beat && a.eff.banks.contains bank)

/-- No bank that `n` bytes at `a` touch is taken in this beat. -/
def State.banksFree (s : State) (core a n : Nat) : Bool := (banksOf a n).all (fun x => !s.bankBusy core x)

/-- Take the banks of an unscheduled access for the rest of this beat (R71). -/
def State.takeBanks (s : State) (core a n : Nat) : State :=
  let b := s.clk.beat
  s.modCoreN core (fun k => { k with
    banks := (if k.bankAt = b then k.banks else []) ++ (banksOf a n).map (fun x => (x, b, 0, 9)), bankAt := b })

/-! The tap of a cluster (R21) -/

/-- Cells that the tap of cluster `k` can still move in this beat, outward or inward. -/
def State.tapRoom (s : State) (k : Nat) (out : Bool) : Nat :=
  let x := s.cluster k
  8 * (s.clk.beat + 1) - max (if out then x.tapOut else x.tapIn) (8 * s.clk.beat)

/-- The tap moves `n` cells. -/
def State.tapTake (s : State) (k : Nat) (out : Bool) (n : Nat) : State :=
  let next (x : Nat) : Nat := max x (8 * s.clk.beat) + n
  s.modCluster k (fun x => if out then { x with tapOut := next x.tapOut } else { x with tapIn := next x.tapIn })

/-! Issue -/

/-- The core issues in beat `b`: it runs and waits at nothing, or its wait or its DONE began in this beat (R76, R86, R103). -/
def Core.issues (k : Core) (b : Nat) : Bool :=
  match k.run with
  | .running => k.waits = [] || k.since = b
  | .draining _ => k.since = b
  | _ => false

/-- Whether a core takes an instruction now: it issues and its cluster's region runs. -/
def State.issues (s : State) (c : CoreRef) : Bool := (s.core c).issues s.clk.beat && s.clk.cluRun.contains c.k.val

/-- Issue an instruction in `slot` that is `legal` and reads `reads` (R77, R88): nothing where the core does not issue, a trap
where it is illegal or, in guarded mode, reads before latency; else `f`, with the reads before latency counted. -/
def State.issue (s : State) (c : CoreRef) (slot : Nat) (legal : Bool) (reads : List Res) (f : State → State) : State :=
  if !s.issues c then s
  else if !legal then s.trap c slot 1 0
  else
    match reads.filter ((s.core c).inFlight s.clk.beat slot) with
    | [] => f s
    | r :: rs => if s.guarded then s.trap c slot 3 r.num else f (s.bumpCore c.ix 0x20 (rs.length + 1))

/-- A result or access that an instruction leaves in flight. -/
structure Post where
  due  : Nat
  eff  : Eff
  fset : Option Nat
  fl   : Flags
  deriving DecidableEq, Repr

/-- The actions of the bundle that issues now. -/
def State.mkActs (s : State) (c : CoreRef) (slot : Nat) (l : List Post) : List Act :=
  l.map (fun p => ⟨p.due, s.clk.beat, slot, (s.core c).pc, false, p.eff, p.fset, p.fl⟩)

/-- Put actions in flight, then `f`; a fault instead where an access of this beat meets an uncorrectable word (Table 9.2), and in
guarded mode a trap where one of them meets a write collision or a bank conflict (Table 3.5). -/
def State.post (s : State) (c : CoreRef) (slot : Nat) (l : List Post) (f : State → State) : State :=
  let old := (s.core c).acts
  let new := s.mkActs c slot l
  let go := f (s.modCore c (fun k => { k with acts := k.acts ++ new }))
  match (new.filter (fun a => a.due ≤ s.clk.beat)).flatMap (fun a => s.badWords c.ix a.eff) with
  | w :: ws => s.memFault c.ix s.clk.beat (s.core c).pc slot (w :: ws).eraseDups
  | [] =>
  if !s.guarded then go
  else match collide old new with
    | some r => s.trap c slot 4 r
    | none => match bankMeet old new with
      | some b => s.trap c slot 5 b
      | none => go

/-- A scalar result of latency `lat` (R58). -/
def State.wrS (s : State) (c : CoreRef) (slot lat : Nat) (d : BitVec 6) (x : W64) (f : State → State := id) : State :=
  s.post c slot [⟨s.clk.beat + lat - 1, .sreg d.toNat x, none, 0#4⟩] f

/-- A vector result of latency `lat`, its mask, and flags for a set where it may record any. -/
def State.wrV (s : State) (c : CoreRef) (lat : Nat) (d : BitVec 6) (r : VecReg × VecReg × Flags) (fset : Option Nat)
    (f : State → State := id) : State :=
  s.post c 2 [⟨s.clk.beat + lat - 1, .vreg d.toNat r.1 r.2.1, fset, r.2.2⟩] f

/-- The units with an occupancy: weight-buffer unit, array, accumulator port, special-function unit, lane reduction. Their
numbers in RESOURCE are this model's (log 12). -/
inductive FUnit where
  | wb | array | acc | sfu | red
  deriving DecidableEq, Repr

def FUnit.num : FUnit → Nat
  | .wb => 0 | .array => 1 | .acc => 2 | .sfu => 3 | .red => 4

def Core.freeAt (k : Core) : FUnit → Nat
  | .wb => k.wbFree | .array => k.arFree | .acc => k.acFree | .sfu => k.sfFree | .red => k.rdFree

def Core.setFree (k : Core) (u : FUnit) (n : Nat) : Core :=
  match u with
  | .wb => { k with wbFree := n }
  | .array => { k with arFree := n }
  | .acc => { k with acFree := n }
  | .sfu => { k with sfFree := n }
  | .red => { k with rdFree := n }

/-- Enter a unit for `occ` beats: `f` is given the beat in which the unit takes the instruction. Within an occupancy, a trap in
guarded mode, else the instruction waits inside the unit (Table 3.5). -/
def State.enter (s : State) (c : CoreRef) (slot : Nat) (u : FUnit) (occ : Nat) (f : Nat → State → State) : State :=
  let b := s.clk.beat
  let free := (s.core c).freeAt u
  if free ≤ b then f b (s.modCore c (fun k => k.setFree u (b + occ)))
  else if s.guarded then s.trap c slot 7 u.num
  else f free ((s.bumpCore c.ix 0x20 1).modCore c (fun k => k.setFree u (free + occ)))

/-! Counters -/

/-- A counter increment from outside the program, taken in this beat (R75). -/
def State.incCC (s : State) (n cc amt : Nat) : State :=
  if amt = 0 then s
  else s.modCoreN n (fun k => { k with
    acts := k.acts ++ [⟨s.clk.beat, s.clk.beat, 4, 0, false, .ccAdd cc (BitVec.ofNat 32 amt), none, 0#4⟩] })

/-- The optional counters of Table 15.2 count while OPS_EN is 1 (R396). -/
def State.ops (s : State) (n off d : Nat) : State := if bitOf s.dbg.ctl 27 then s.bumpCore n off d else s

/-- The number of lanes a predicate selects. -/
def popLanes (p : Pred) : Nat := ((List.range 256).filter (fun l => p.getLsbD l)).length

end Sys2Proof.Machine
end

