-- ==== Sys2Proof/Machine/Net.lean ====
section
/-! DEFINITION. Operations of the fabric that several units share: node map and routing (R226 to R239), cells offered to ports
(R161, R165, R174, R240), landing copies (R165), status entries (R244), hold and XOFF (R170, R207), local offsets (R237). -/

namespace Sys2Proof.Machine

/-! Places in the hall -/

/-- Ring length and wrap of axis `a` (0 X, 1 Y, 2 Z) (Table 8.4). -/
def State.ring (s : State) (a : Nat) : Nat := fld s.pan.topoCtl (4 * a + 3) (4 * a) + 1
def State.wraps (s : State) (a : Nat) : Bool := bitOf s.pan.topoCtl (12 + a)

/-- Coordinate of a node map entry on an axis (Table 8.3). -/
def axisOf (e : W16) (a : Nat) : Nat := fld e (4 * a + 3) (4 * a)

/-- The module's own coordinate. -/
def State.ownAxis (s : State) (a : Nat) : Nat := axisOf (s.nodeEntry s.nodeId) a

/-- The coordinates that R223 places on mesh port `p`; none at the end of an axis without wrap. -/
def State.neighbour (s : State) (p : Nat) : Option (Nat × Nat × Nat) :=
  let a := p / 2
  let n := s.ring a
  let x := s.ownAxis a
  let y : Option Nat :=
    if p % 2 = 0 then (if x + 1 < n then some (x + 1) else if s.wraps a then some 0 else none)
    else (if 0 < x then some (x - 1) else if s.wraps a then some (n - 1) else none)
  y.map (fun v => (if a = 0 then v else s.ownAxis 0, if a = 1 then v else s.ownAxis 1, if a = 2 then v else s.ownAxis 2))

/-- The module lies in block `blk` of CTX_JOB_BLOCK (R229), given its node map entry. -/
def State.inBlock (s : State) (blk : W32) (e : W16) : Bool :=
  bitOf blk 31 && bitOf e 15 && (List.range 3).all (fun a =>
    let n := s.ring a
    (axisOf e a + n - fld blk (4 * a + 3) (4 * a) % n) % n ≤ fld blk (16 + 4 * a + 3) (16 + 4 * a))

/-! Local offsets -/

/-- What a local offset names (Table 8.8). -/
inductive Local where
  | hbm (off : Nat)
  | sram (core addr : Nat)
  | unmapped
  deriving DecidableEq, Repr

/-- The physical cluster behind plan position `p` (R237, R307); none where the slot is unmapped. -/
def State.slotCluster (s : State) (p : Nat) : Option Nat :=
  match s.job with
  | some j => (j.phys.find? (fun x => x.1 == p)).map (·.2)
  | none => if s.cluEnabled p then some p else none

def State.localOf (s : State) (off : Nat) : Local :=
  if off < 0x8B80000000 then .hbm off
  else if 0xF000000000 ≤ off && off < 0xF064000000 then
    let k := (off - 0xF000000000) / 0x200000
    let a := (off - 0xF000000000) % 0x200000
    if sramEnd ≤ a then .unmapped
    else match s.slotCluster (k / 8) with
      | some c => .sram (8 * c + k % 8) a
      | none => .unmapped
  else .unmapped

/-- Every byte of a range is mapped, and in one memory (R246). -/
def State.rangeMapped (s : State) (lo hi : Nat) : Bool :=
  match s.localOf lo, s.localOf hi with
  | .hbm _, .hbm _ => true
  | .sram c _, .sram d _ => c == d
  | _, _ => false

/-! Routing the Pantry class -/

inductive Hop where
  | here
  | port (p : Nat)
  | unreachable
  deriving DecidableEq, Repr

/-- A port takes Pantry cells (R239): not excluded, not flushed, not DISABLED, and in DETECT or BACKOFF only out of GRACE. -/
def Port.usable (t : Port) : Bool :=
  !t.excluded && !t.holdsNone && t.state != 0 && !((t.state == 1 || t.state == 10) && t.grace == none)

/-- A switch port is up or in grace (R238). -/
def Port.upOrGrace (t : Port) : Bool := t.state == 7 || t.state == 8 || (t.grace != none && !t.holdsNone)

/-- `pantry_next` of R238 for network class `cls` (1 request, 2 reply). -/
def State.pantryNext (s : State) (dst cls : Nat) (origin : Bool) : Hop :=
  if dst = s.nodeId then .here
  else
    let t := s.nodeEntry dst
    let o := s.nodeEntry s.nodeId
    let far := (List.range 3).any (fun a => axisOf t a / 4 != axisOf o a / 4)
    let sw := if cls = 1 then 6 else 7
    if !bitOf t 15 then .unreachable
    else if origin && bitOf s.pan.topoCtl 15 && far && (s.port sw).upOrGrace then .port sw
    else match (List.range 3).find? (fun a => axisOf t a != axisOf o a) with
      | some a => .port (if axisOf o a < axisOf t a then 2 * a else 2 * a + 1)
      | none => .here

/-- Insert into a Pantry queue in the order of R240: the beat of eligibility, transit first. -/
def panInsert (x : TxEntry) (l : List TxEntry) : List TxEntry :=
  insertBy (fun e => 2 * e.elig + b2n (!e.transit)) x l

/-- Hand a Pantry cell to a port's queue or to this module; false where no usable path exists (R238, R239). -/
def State.routePan (s : State) (c : Cell) (origin : Bool) (src elig : Nat) : State × Bool :=
  let cls := c.cls.toNat
  match s.pantryNext c.dst cls origin with
  | .here =>
    let x : RxPan := ⟨elig, src, c, []⟩
    (s.modPan (fun p => if cls = 1 then { p with inReq := p.inReq ++ [x] } else { p with inRpl := p.inRpl ++ [x] }), true)
  | .port p =>
    if (s.port p).usable then
      let x : TxEntry := ⟨c, elig, elig, elig, src, !origin⟩
      (s.modPort p (fun t => if cls = 1 then { t with reqQ := panInsert x t.reqQ } else { t with rplQ := panInsert x t.rplQ }), true)
    else (s, false)
  | .unreachable => (s, false)

/-- Beats from an engine to its own port's slots, and to the module's own spine (Table 6.4). -/
def originLag : Nat := 85
def spineLag : Nat := 80
/-- Beats from release to the next port (R161). -/
def forwardLag : Nat := 88

/-- The beat from which a cell of the module's own is in hand at its next stage. -/
def State.originElig (s : State) (dst : Nat) : Nat := s.clk.beat + (if dst = s.nodeId then spineLag else originLag)

/-- Send a cell of the module's own; false where its destination is unreachable. -/
def State.sendPan (s : State) (c : Cell) : State × Bool := s.routePan c true ownSource (s.originElig c.dst)

/-- A Pantry cell (Table 7.5). -/
def panCell (cls dst src rid : Nat) (payload : Nat) : Cell :=
  ⟨BitVec.ofNat 2 cls, BitVec.ofNat 40 (dst % 4096 * 2 ^ 28 + src % 4096 * 2 ^ 16 + rid % 2 ^ 16), BitVec.ofNat 512 payload⟩

/-! Status entries (R244, Table 8.11) -/

def statusEntry (rid status bytes value : Nat) : BitVec 128 :=
  BitVec.ofNat 128 (value % 2 ^ 64 * 2 ^ 64 + bytes % 2 ^ 16 * 2 ^ 32 + 2 ^ 31 + status % 256 * 2 ^ 16 + rid % 2 ^ 16)

/-- Send a gathered status cell; an unroutable one is discarded and counted in MISROUTED (R239). -/
def State.sendStatusCell (s : State) (g : StatusGather) : State :=
  let payload := packBits 128 (g.entries.map BitVec.toNat)
  match s.sendPan (panCell 2 g.node s.nodeId 0xFFFF payload) with
  | (s, true) => s
  | (s, false) => s.bump 4 0x0A8 1

/-- Gather a status entry for a module; the fourth sends the cell (R244). -/
def State.status (s : State) (node : Nat) (e : BitVec 128) : State :=
  match s.pan.gather.find? (fun g => g.node == node) with
  | none => s.modPan (fun p => { p with gather := p.gather ++ [⟨node, s.clk.beat, [e]⟩] })
  | some g =>
    let g' := { g with entries := g.entries ++ [e] }
    if g'.entries.length < 4 then
      s.modPan (fun p => { p with gather := p.gather.map (fun x => if x.node = node then g' else x) })
    else (s.modPan (fun p => { p with gather := p.gather.filter (fun x => x.node != node) })).sendStatusCell g'

/-- The module that requested what a Pantry cell belongs to (R239). -/
def Cell.requester (c : Cell) : Nat := if c.cls = 1#2 then c.src else c.dst

/-- Answer for a request or reply cell that goes no further: a status entry to the requester; a status cell has none (R239, R249). -/
def State.answerLost (s : State) (c : Cell) (status : Nat) : State :=
  if c.reqId = 0xFFFF then s else s.status c.requester (statusEntry c.reqId status 0 0)

/-- Forward a Pantry cell in transit, released at beat `x` by port `p` (R238, R239). -/
def State.forwardPan (s : State) (c : Cell) (p x : Nat) : State :=
  match s.routePan c false p (x + forwardLag) with
  | (s, true) => if c.dst = s.nodeId then s else s.bump 4 0x0A0 1
  | (s, false) => if c.reqId = 0xFFFF then s.bump 4 0x0A8 1 else s.answerLost c 2

/-! Scheduled cells -/

/-- A saturating count of 32 bits. -/
def sat32 (x : Nat) : Nat := min x (2 ^ 32 - 1)

def State.modMap (s : State) (p : Nat) (f : SlipMap → SlipMap) : State := s.modPort p (fun t => { t with map := f t.map })

/-- Report an occurrence of a scheduled-class reason at a port: the first of the epoch as an event (R182). -/
def State.schedEvent (s : State) (code p : Nat) (c : Cell) : State :=
  let key := code * 8 + p
  if s.tt.seenEvents.contains key then s
  else (s.modTt (fun t => { t with seenEvents := key :: t.seenEvents })).raise code 1 p (c.route * 2 ^ 32 + c.cidx)

/-- Flush a scheduled cell at a port (R174). -/
def State.flushSched (s : State) (p : Nat) (c : Cell) : State := (s.bumpPort p 0x0F8 1).schedEvent 0x0704 p c

/-- Offer a scheduled cell to a port: on its way to the slip buffer, or flushed while the port holds nothing (R174). -/
def State.offerSched (s : State) (q : Nat) (e : TxEntry) : State :=
  if (s.port q).holdsNone then s.flushSched q e.cell
  else s.modPort q (fun t => { t with inbound := t.inbound ++ [e] })

/-- Fields of a route-table entry (Table 6.2) and of a landing-map entry (Table 6.5). -/
def rtValid (e : W32) : Bool := bitOf e 31
def rtRole (e : W32) : Nat := fld e 30 29
def rtShare (e : W32) : Nat := fld e 28 27
def rtIn (e : W32) : Nat := fld e 26 24
def rtOut (e : W32) : List Nat := (List.range 6).filter (fun q => bitOf e (18 + q))
def rtLand (e : W32) : Bool := bitOf e 17
def rtSpan (e : W32) : Nat := fld e 16 14
def rtLbuf (e : W32) : Nat := fld e 13 0

def State.route (s : State) (r : Nat) : W32 := s.tt.routes.get 0#32 r
def State.landing (s : State) (k : Nat) : W64 := s.tt.landings.get 0#64 k

/-- A scheduled cell's route and index as one number. -/
def Cell.key (c : Cell) : Nat := c.route * 2 ^ 20 + c.cidx

/-- The landing part of R165 for a copy that is written in beat `due`, counted at port `p`, which received it unless it is a copy at its
origin. -/
def State.landCopy (s : State) (e : W32) (c : Cell) (p due : Nat) (origin : Bool) : State :=
  let sp := rtSpan e + 7
  let k := rtLbuf e + c.cidx / 2 ^ sp
  let o := c.cidx % 2 ^ sp
  let m := s.landing k
  if 16383 < k || !bitOf m 63 || fld m 44 30 < o then
    (s.modMap p (fun x => { x with landRange := sat32 (x.landRange + 1) })).schedEvent 0x0711 p c
  else
    let clu := fld m 62 56
    s.modCluster clu (fun x => { x with landQ := x.landQ ++
      [⟨due, 8 * clu + fld m 55 53, 64 * (fld m 29 15 + o), 64, c.payload, fld m 52 45, p, k,
        .cell (if origin then none else some p) c.key⟩] })

/-- `receive` of R165 for a scheduled cell released at beat `x` by port `p`. -/
def State.receiveSched (s : State) (c : Cell) (p x : Nat) : State :=
  let e := s.route c.route
  if !rtValid e || rtRole e != 0 || rtIn e != p then
    (s.modMap p (fun m => { m with routeMiss := sat32 (m.routeMiss + 1) })).schedEvent 0x0710 p c
  else
    let s := s.modPort p (fun t => { t with store := t.store ++ [x] })
    let s := if rtLand e && !s.pan.fenced then s.landCopy e c p (x + 98) false else s
    (rtOut e).foldl (fun s q => s.offerSched q ⟨c, x + forwardLag, x + forwardLag, x + forwardLag, p, false⟩) s

/-! Back-pressure -/

/-- Beats for which a cell stands in its receive store for its lookup (Table 6.4). -/
def lookupBeats : Nat := 8

/-- Landing cells come before mover data, and that before Pantry data (R22). -/
def LandKind.rank : LandKind → Nat
  | .cell .. => 0
  | .mover _ => 1
  | .reply .. => 2

/-- The port in whose receive store a landing cell stands while the tap's queue is full. -/
def Landing.store (l : Landing) : Option Nat :=
  match l.kind with
  | .cell p _ => p
  | _ => none

def Landing.key (l : Landing) : Nat :=
  match l.kind with
  | .cell _ k => k
  | _ => 0

/-- Writes of a cluster that wait, oldest first: the tap's queue holds the first 64 (R22). -/
def State.landDue (s : State) (k : Nat) : List Landing :=
  sortByKey (fun l => l.due * 4 + l.kind.rank) ((s.cluster k).landQ.filter (fun l => l.due ≤ s.clk.beat))

/-- The tap's queue of cluster `k` has room. -/
def State.landRoom (s : State) (k : Nat) : Bool := (s.landDue k).length < 64

/-- Cells in a port's receive store: in lookup, or held back by a full slip buffer or landing queue, each once (R169, R170). -/
def State.storeHeld (s : State) (p : Nat) : Nat :=
  let b := s.clk.beat
  ((s.port p).store.filter (fun x => b < x + lookupBeats)).length
    + ((List.range 6).flatMap (fun q => ((s.port q).inbound.filter (fun e => e.src == p && e.elig ≤ b)).map (fun e => e.cell.key))
        ++ s.clusters.flatMap (fun x => (((s.landDue x.1).drop 64).filter (fun l => l.store == some p)).map Landing.key)).eraseDups.length

/-- Cells in a port's receive store with reserved places (R206). -/
def State.storeUsed (s : State) (p : Nat) : Nat := s.storeHeld p + (s.port p).resSched

/-- Cells of network `cls` in a port's Pantry receive buffer with reserved places (R206, R207). -/
def State.panUsed (s : State) (p cls : Nat) : Nat :=
  let here := (if cls = 1 then s.pan.inReq ++ s.pan.serving else s.pan.inRpl).filter (fun x => x.src == p)
  here.length
    + ((List.range 8).map (fun q =>
        (((if cls = 1 then (s.port q).reqQ else (s.port q).rplQ).filter (fun e => e.transit && e.src == p)).length))).sum
    + (if cls = 1 then (s.port p).resReq else (s.port p).resRpl)

/-- Whether a back-pressure bit is set next: set when `free` falls to `head`, cleared at `min (head + margin) 2048`. -/
def pressure (now : Bool) (free head margin : Nat) : Bool :=
  if now then free < min (head + margin) 2048 else free ≤ head

/-- Set or clear hold and XOFF of a port for the places that are free now (R170, R207). -/
def State.pressures (s : State) (p : Nat) : State :=
  let t := s.port p
  let used := s.storeUsed p
  let hold := p < 6 && pressure t.holding (2048 - used) (fld t.schedCtl 11 0) (fld t.schedCtl 23 12)
  let xq := p != 7 && pressure t.xoffReqTx (2048 - s.panUsed p 1) (fld t.panCtl 22 12) (fld t.panCtl 11 0)
  let xr := p != 6 && pressure t.xoffRplTx (2048 - s.panUsed p 2) (fld t.panCtl 22 12) (fld t.panCtl 11 0)
  s.modPort p (fun t => { t with
    holding := hold
    xoffReqTx := xq
    xoffRplTx := xr
    map := { t.map with
      holdTx := if hold && !t.holding then min (t.map.holdTx + 1) 0xFFFF else t.map.holdTx
      storePeak := max t.map.storePeak (min used 2048)
      slipPeak := max t.map.slipPeak t.slip.length } })

end Sys2Proof.Machine
end

