-- ==== Sys2Proof/Machine/Flags.lean ====
section
/-! DEFINITION. Flag sets (R52, R53), predicates' and registers' writes landing, and the element arithmetic with its flags
(R125, R126, R128, R131, R135). -/

namespace Sys2Proof.Machine

/-- Record flags in a set (R52). -/
def Core.orFlags (k : Core) (g : Nat) (fl : Flags) : Core := { k with flags := k.flags.upd 0#4 g (· ||| fl) }

/-- Clear the flags whose mask bits are 1 (R100). -/
def Core.clrFlags (k : Core) (g : Nat) (mask : Flags) : Core := { k with flags := k.flags.upd 0#4 g (· &&& ~~~mask) }

/-- The binary operations of R125. -/
inductive ArithOp where
  | add | sub | mul | min | max
  deriving DecidableEq, Repr

/-- R125 on one element of a floating-point type. -/
def fpArith (f : Fmt) (op : ArithOp) (rm : Rm) (u x y : Nat) : Nat × Flags :=
  let go (r : Val × Flags) : Nat × Flags :=
    let (c, g) := roundTo f rm false u r.1
    (c, r.2 ||| g)
  match op with
  | .add => go ((f.decode x).add (f.decode y))
  | .sub => go ((f.decode x).add (f.decode y).neg)
  | .mul => go ((f.decode x).mul (f.decode y))
  | .min => (maxMinCode f false x y, 0#4)
  | .max => (maxMinCode f true x y, 0#4)

/-- R125 on one INT32 lane: wraps, no flag. -/
def intArith (op : ArithOp) (x y : Nat) : Nat :=
  match op with
  | .add => (x + y) % 2 ^ 32
  | .sub => (x + 2 ^ 32 - y) % 2 ^ 32
  | .mul => x * y % 2 ^ 32
  | .min => if toSigned 32 x ≤ toSigned 32 y then x else y
  | .max => if toSigned 32 x ≤ toSigned 32 y then y else x

/-- Sign cleared (`neg` false) or inverted, NaN to the canonical NaN, no flag (R125). -/
def signOp (f : Fmt) (neg : Bool) (x : Nat) : Nat :=
  match f with
  | .int32 => if neg then (2 ^ 32 - x) % 2 ^ 32 else wrapInt 32 (toSigned 32 x).natAbs
  | _ =>
    if (f.decode x).isNan then f.nan
    else
      let sb := 2 ^ (f.bits - 1)
      if neg then (if x < sb then x + sb else x - sb) else x % sb

/-- The fused forms of R126: sign of the product, sign of the addend. -/
def fusedOp (f : Fmt) (rm : Rm) (u : Nat) (negP negC : Bool) (a b c : Nat) : Nat × Flags :=
  let va := if negP then (f.decode a).neg else f.decode a
  let vc := if negC then (f.decode c).neg else f.decode c
  -- a NaN with no 0 × Inf product raises no flag: `Val.fma` answers so
  let (v, g) := Val.fma va (f.decode b) vc
  let (r, h) := roundTo f rm false u v
  (r, g ||| h)

/-- The comparison of R128 on two codes. -/
def cmpOp (f : Fmt) (cond x y : Nat) : Bool :=
  let a := f.decode x
  let b := f.decode y
  let un := a.isNan || b.isNan
  let lt := a.lt b
  let gt := b.lt a
  match cond with
  | 0 => !un && !lt && !gt
  | 1 => un || lt || gt
  | 2 => !un && lt
  | 3 => !un && !gt
  | 4 => !un && gt
  | 5 => !un && !lt
  | _ => un

/-- The operations of a lane reduction (R56, R135). -/
inductive RedOp where
  | sum | max | min
  deriving DecidableEq, Repr

def redOp (f : Fmt) (op : RedOp) (x y : Nat) : Nat × Flags :=
  match op, f with
  | .sum, .int32 => addClamp32 x (toSigned 32 y)
  | .max, .int32 => (intArith .max x y, 0#4)
  | .min, .int32 => (intArith .min x y, 0#4)
  | .sum, f => fpArith f .add .rne 0 x y
  | .max, f => (maxMinCode f true x y, 0#4)
  | .min, f => (maxMinCode f false x y, 0#4)

/-- The result of an empty list (R135). -/
def redEmpty (f : Fmt) (op : RedOp) : Nat :=
  match op, f with
  | .sum, _ => 0
  | .max, .int32 => 2 ^ 31
  | .min, .int32 => 2 ^ 31 - 1
  | .max, f => f.infCode true
  | .min, f => f.infCode false

/-- A code with every NaN made the canonical NaN of its format (R32). -/
def canonNan (f : Fmt) (x : Nat) : Nat := if (f.decode x).isNan then f.nan else x

/-- A list of elements reduced by the tree of R48; a NaN that stands alone answers the canonical NaN too (R32). -/
def reduceList (f : Fmt) (op : RedOp) (l : List Nat) : Nat × Flags :=
  if l = [] then (redEmpty f op, 0#4)
  else
    let r := treeSum (redOp f op) l
    (canonNan f r.1, r.2)

end Sys2Proof.Machine
end

