-- ==== Sys2Proof/Machine/Scalar.lean ====
section
/-! DEFINITION. The S slot: scalar arithmetic, branches, loops, flags, identity, beats and program end (R90 to R103). -/

namespace Sys2Proof.Machine

/-- What the meanings answer: every command of this block gives a next state. -/
abbrev Result := Host.Outcome State Fault Refusal

/-- A register-register form of one result (R92, R93). -/
def State.aluRR (s : State) (c : CoreRef) (lat : Nat) (d a b : BitVec 6) (f : W64 → W64 → W64) : State :=
  s.issue c 3 true [.s a, .s b] (fun s => s.wrS c 3 lat d (f ((s.core c).s a) ((s.core c).s b)))

/-- A register-immediate form (R92). -/
def State.aluRI (s : State) (c : CoreRef) (legal : Bool) (d a : BitVec 6) (f : W64 → W64) : State :=
  s.issue c 3 legal [.s a] (fun s => s.wrS c 3 1 d (f ((s.core c).s a)))

/-- Bits 13 to 6 of a shift's immediate are reserved (R92). -/
def shiftOk (imm : BitVec 14) : Bool := fld imm 13 6 == 0

/-- The high half of a 128-bit product, signed or not (R93). -/
def mulHigh (sgn : Bool) (x y : W64) : W64 :=
  if sgn then (x.signExtend 128 * y.signExtend 128).extractLsb' 64 64
  else (x.zeroExtend 128 * y.zeroExtend 128).extractLsb' 64 64

/-- Insert a 16-bit immediate at quarter `q` (R94). -/
def limmIns (x : W64) (q : BitVec 2) (imm : BitVec 16) : W64 := putFld x (16 * q.toNat + 15) (16 * q.toNat) imm.toNat

/-- The conditions of Table 4.4. -/
def brTaken (cond : BitVec 3) (x : W64) : Bool :=
  match cond.toNat with
  | 0 => true
  | 1 => x == 0#64
  | 2 => x != 0#64
  | 3 => x.toInt < 0
  | 4 => 0 ≤ x.toInt
  | 5 => x.toInt ≤ 0
  | _ => 0 < x.toInt

/-- No control instruction stands in a delay bundle (R97). -/
def Core.notDelay (k : Core) : Bool := k.branch = none

/-- The address is an active loop body's end (R97). -/
def Core.loopEnd (k : Core) (addr : Nat) : Bool := k.loops.any (fun e => e.stop == addr)

/-- A branch, jump or link may stand here (R97). -/
def Core.branchOk (k : Core) : Bool := k.notDelay && !k.loopEnd k.pc

/-- A taken branch: refused where its delay bundle lies at a loop's end (R97), else the loops whose bodies do not contain the
target are popped (R74) and the target follows the delay bundle (R95). -/
def State.takeBranch (s : State) (c : CoreRef) (target : Nat) : State :=
  let k := s.core c
  if k.loopEnd (k.pc + 1) then s.trap c 3 1 0
  else s.modCore c (fun k => { k with
    branch := some target, loops := k.loops.filter (fun e => e.start ≤ target && target ≤ e.stop) })

/-- LOOP and LOOPI (R98): entries stand innermost first. -/
def State.pushLoop (s : State) (c : CoreRef) (count stop : Nat) : State :=
  let k := s.core c
  let inside : Bool := match k.loops with
    | e :: _ => e.start ≤ stop && stop ≤ e.stop
    | [] => true
  if stop < k.pc + 1 || !inside then s.trap c 3 1 0
  else if count = 0 then s.modCore c (fun k => { k with skip := some (stop + 1) })
  else if 4 ≤ k.loops.length then s.trap c 3 8 0
  else s.modCore c (fun k => { k with loops := ⟨k.pc + 1, stop, count⟩ :: k.loops })

/-- The job identity values of Table 4.5. HTH_EPOCH_STATUS counts an epoch at its barrier; a core that still issues in it reads
the count before it (DEDUCED, log 13). -/
def State.sysVal (s : State) (k : Core) (sel : Nat) : W64 :=
  match sel with
  | 0 => zext64 k.vcore
  | 1 => zext64 k.vrank
  | 2 => BitVec.ofNat 64 ((s.job.map (fun j => 20 * j.vrows)).getD 0)
  | 3 => BitVec.ofNat 64 ((s.job.map (fun j => j.ranks)).getD 0)
  | 4 => zext64 (if s.tt.agreed.isSome then s.tt.index - 1#32 else s.tt.index)
  | _ => BitVec.ofNat 64 s.tt.length

/-- NOP (R87): reads nothing, writes nothing. -/
def execNop (_c : CoreRef) (s : State) : Result := .next s

/-- ADD (R92). -/
def execAdd (c : CoreRef) (d a b : BitVec 6) (s : State) : Result :=
  .next (s.aluRR c 1 d a b (fun x y => x + y))

/-- SUB (R92). -/
def execSub (c : CoreRef) (d a b : BitVec 6) (s : State) : Result :=
  .next (s.aluRR c 1 d a b (fun x y => x - y))

/-- AND (R92). -/
def execAnd (c : CoreRef) (d a b : BitVec 6) (s : State) : Result :=
  .next (s.aluRR c 1 d a b (fun x y => x &&& y))

/-- OR (R92). -/
def execOr (c : CoreRef) (d a b : BitVec 6) (s : State) : Result :=
  .next (s.aluRR c 1 d a b (fun x y => x ||| y))

/-- XOR (R92). -/
def execXor (c : CoreRef) (d a b : BitVec 6) (s : State) : Result :=
  .next (s.aluRR c 1 d a b (fun x y => x ^^^ y))

/-- SHL (R92). -/
def execShl (c : CoreRef) (d a b : BitVec 6) (s : State) : Result :=
  .next (s.aluRR c 1 d a b (fun x y => x <<< (y.toNat % 64)))

/-- SHR (R92). -/
def execShr (c : CoreRef) (d a b : BitVec 6) (s : State) : Result :=
  .next (s.aluRR c 1 d a b (fun x y => x >>> (y.toNat % 64)))

/-- SRA (R92). -/
def execSra (c : CoreRef) (d a b : BitVec 6) (s : State) : Result :=
  .next (s.aluRR c 1 d a b (fun x y => x.sshiftRight (y.toNat % 64)))

/-- SLT (R92). -/
def execSlt (c : CoreRef) (d a b : BitVec 6) (s : State) : Result :=
  .next (s.aluRR c 1 d a b (fun x y => if x.toInt < y.toInt then 1#64 else 0#64))

/-- SLTU (R92). -/
def execSltu (c : CoreRef) (d a b : BitVec 6) (s : State) : Result :=
  .next (s.aluRR c 1 d a b (fun x y => if x.toNat < y.toNat then 1#64 else 0#64))

/-- MIN (R92). -/
def execMin (c : CoreRef) (d a b : BitVec 6) (s : State) : Result :=
  .next (s.aluRR c 1 d a b (fun x y => if x.toInt ≤ y.toInt then x else y))

/-- MAX (R92). -/
def execMax (c : CoreRef) (d a b : BitVec 6) (s : State) : Result :=
  .next (s.aluRR c 1 d a b (fun x y => if y.toInt ≤ x.toInt then x else y))

/-- MINU (R92). -/
def execMinu (c : CoreRef) (d a b : BitVec 6) (s : State) : Result :=
  .next (s.aluRR c 1 d a b (fun x y => if x.toNat ≤ y.toNat then x else y))

/-- MAXU (R92). -/
def execMaxu (c : CoreRef) (d a b : BitVec 6) (s : State) : Result :=
  .next (s.aluRR c 1 d a b (fun x y => if y.toNat ≤ x.toNat then x else y))

/-- MUL (R93). -/
def execMul (c : CoreRef) (d a b : BitVec 6) (s : State) : Result :=
  .next (s.aluRR c 3 d a b (fun x y => x * y))

/-- MULH (R93). -/
def execMulh (c : CoreRef) (d a b : BitVec 6) (s : State) : Result :=
  .next (s.aluRR c 3 d a b (fun x y => mulHigh true x y))

/-- MULHU (R93). -/
def execMulhu (c : CoreRef) (d a b : BitVec 6) (s : State) : Result :=
  .next (s.aluRR c 3 d a b (fun x y => mulHigh false x y))

/-- ADDI (R92). -/
def execAddi (c : CoreRef) (d a : BitVec 6) (imm : BitVec 14) (s : State) : Result :=
  .next (s.aluRI c true d a (fun x => x + sext64 imm))

/-- ANDI (R92). -/
def execAndi (c : CoreRef) (d a : BitVec 6) (imm : BitVec 14) (s : State) : Result :=
  .next (s.aluRI c true d a (fun x => x &&& zext64 imm))

/-- ORI (R92). -/
def execOri (c : CoreRef) (d a : BitVec 6) (imm : BitVec 14) (s : State) : Result :=
  .next (s.aluRI c true d a (fun x => x ||| zext64 imm))

/-- XORI (R92). -/
def execXori (c : CoreRef) (d a : BitVec 6) (imm : BitVec 14) (s : State) : Result :=
  .next (s.aluRI c true d a (fun x => x ^^^ zext64 imm))

/-- SHLI (R92). -/
def execShli (c : CoreRef) (d a : BitVec 6) (imm : BitVec 14) (s : State) : Result :=
  .next (s.aluRI c (shiftOk imm) d a (fun x => x <<< (imm.toNat % 64)))

/-- SHRI (R92). -/
def execShri (c : CoreRef) (d a : BitVec 6) (imm : BitVec 14) (s : State) : Result :=
  .next (s.aluRI c (shiftOk imm) d a (fun x => x >>> (imm.toNat % 64)))

/-- SRAI (R92). -/
def execSrai (c : CoreRef) (d a : BitVec 6) (imm : BitVec 14) (s : State) : Result :=
  .next (s.aluRI c (shiftOk imm) d a (fun x => x.sshiftRight (imm.toNat % 64)))

/-- SLTI (R92). -/
def execSlti (c : CoreRef) (d a : BitVec 6) (imm : BitVec 14) (s : State) : Result :=
  .next (s.aluRI c true d a (fun x => if x.toInt < (sext64 imm).toInt then 1#64 else 0#64))

/-- LIMM (R94): reads s[d] as a source. -/
def execLimm (c : CoreRef) (d : BitVec 6) (q : BitVec 2) (imm : BitVec 16) (s : State) : Result :=
  .next (s.aluRI c true d d (fun x => limmIns x q imm))

/-- BR (R95, R97). -/
def execBr (c : CoreRef) (cond : BitVec 3) (a : BitVec 6) (target : BitVec 13) (s : State) : Result :=
  let k := s.core c
  .next (s.issue c 3 (k.branchOk && cond != 7#3 && (cond != 0#3 || a == 0#6)) (if cond = 0#3 then [] else [.s a]) (fun s =>
    if brTaken cond (k.s a) then s.takeBranch c target.toNat else s))

/-- JAL (R95, R96). -/
def execJal (c : CoreRef) (d : BitVec 6) (target : BitVec 13) (s : State) : Result :=
  let k := s.core c
  .next (s.issue c 3 (k.branchOk && !k.loopEnd (k.pc + 1)) [] (fun s =>
    s.wrS c 3 1 d (BitVec.ofNat 64 (k.pc + 2)) (fun s => s.takeBranch c target.toNat)))

/-- JR (R95, R96). -/
def execJr (c : CoreRef) (a : BitVec 6) (s : State) : Result :=
  let k := s.core c
  .next (s.issue c 3 k.branchOk [.s a] (fun s =>
    if 2 ^ 13 ≤ (k.s a).toNat then s.trap c 3 1 0 else s.takeBranch c (k.s a).toNat))

/-- LOOP (R98). -/
def execLoop (c : CoreRef) (a : BitVec 6) (stop : BitVec 13) (s : State) : Result :=
  let k := s.core c
  .next (s.issue c 3 k.notDelay [.s a] (fun s =>
    if 2 ^ 24 < (k.s a).toNat then s.trap c 3 1 0 else s.pushLoop c (k.s a).toNat stop.toNat))

/-- LOOPI (R98): the field holds the count less 1. -/
def execLoopi (c : CoreRef) (count stop : BitVec 13) (s : State) : Result :=
  .next (s.issue c 3 (s.core c).notDelay [] (fun s => s.pushLoop c (count.toNat + 1) stop.toNat))

/-- FLRD (R100). -/
def execFlrd (c : CoreRef) (d : BitVec 6) (g : BitVec 5) (s : State) : Result :=
  .next (s.issue c 3 (g.toNat ≤ 16) [.flags g.toNat] (fun s =>
    s.wrS c 3 1 d (zext64 ((s.core c).flags.get 0#4 g.toNat))))

/-- FLCLR (R100). -/
def execFlclr (c : CoreRef) (g : BitVec 5) (mask : BitVec 4) (s : State) : Result :=
  .next (s.issue c 3 (g.toNat ≤ 16) [.flags g.toNat] (fun s =>
    s.post c 3 [⟨s.clk.beat, .flclr g.toNat mask, none, 0#4⟩] id))

/-- SYSRD (R101). -/
def execSysrd (c : CoreRef) (d : BitVec 6) (sel : BitVec 4) (s : State) : Result :=
  .next (s.issue c 3 (sel.toNat ≤ 5) [] (fun s => s.wrS c 3 1 d (s.sysVal (s.core c) sel.toNat)))

/-- WAITBEAT (R102): an early target waits, a late one counts step slip. -/
def execWaitbeat (c : CoreRef) (a : BitVec 6) (imm : BitVec 14) (s : State) : Result :=
  let k := s.core c
  .next (s.issue c 3 k.notDelay [.s a] (fun s =>
    let b := k.beatImm a imm
    let w := s.epochBeat
    if s.tt.length ≤ b then s.trap c 3 1 0
    else if b ≤ w then s.bumpCore c.ix 0x18 (w + 1 - b)
    else if b = w + 1 then s
    else s.modCore c (fun k => { k with waits := .beat b :: k.waits, since := s.clk.beat })))

/-- WAITBEAT_RELEASE (R102): the epoch beat that a core waits for has come. -/
def execWaitbeatRelease (c : CoreRef) (s : State) : Result :=
  .next (s.modCore c (fun k => { k with waits := k.waits.filter (fun w => match w with
    | .beat b => s.epochBeat < b
    | _ => true) }))

/-- DONE (R103): issue stops. -/
def execDone (c : CoreRef) (n : BitVec 8) (s : State) : Result :=
  .next (s.issue c 3 (s.core c).notDelay [] (fun s =>
    s.modCore c (fun k => { k with run := .draining n.toNat, since := s.clk.beat })))

/-- Every instruction that the core at place `n` has issued has completed (R103, R148). -/
def State.allDone (s : State) (n : Nat) : Bool :=
  let k := s.coreN n
  k.acts.isEmpty && k.open_ == 0 && s.hall.all (fun u => u.src != n) && k.waits.isEmpty

/-- DONE_COMPLETE (R103): the counter advances and the core stops. -/
def execDoneComplete (c : CoreRef) (s : State) : Result :=
  .next (match (s.core c).run with
    | .draining n =>
      if s.allDone c.ix then s.modCore c (fun k => { k with
        run := .done, waits := [], cc := k.cc.upd 0#32 n (· + 1#32) })
      else s
    | _ => s)

end Sys2Proof.Machine
end

