-- ==== Sys2Proof/Machine/Cellar.lean ====
section
/-! DEFINITION. The Cellar's engines: movers (R266 to R270), hash slots (R272, R273), refresh (R271), patrol scrub and write-back
(R258, R261), keys and key regions (R263, R274). -/

namespace Sys2Proof.Machine

/-! The mover command (Table 9.4) -/

def mvOp (w : BitVec 192) : Nat := fld w 63 60
def mvHash (w : BitVec 192) : Bool := bitOf w 59
def mvSlot (w : BitVec 192) : Nat := fld w 58 55
def mvCore (w : BitVec 192) : Nat := fld w 54 52
def mvCc (w : BitVec 192) : Nat := fld w 51 44
def mvHbm (w : BitVec 192) : Nat := fld w 39 0
def mvSram (w : BitVec 192) : Nat := fld w 84 64
def mvRows (w : BitVec 192) : Nat := fld w 127 116 + 1
def mvRowChunks (w : BitVec 192) : Nat := fld w 115 101 + 1
def mvSramStride (w : BitVec 192) : Nat := fld w 142 128
def mvHbmStride (w : BitVec 192) : Nat := fld w 175 152
def mvTotal (w : BitVec 192) : Nat := mvRows w * mvRowChunks w

/-- HBM offset and SRAM address of chunk `i` in the command's order (R269). -/
def mvHbmAt (w : BitVec 192) (i : Nat) : Nat := mvHbm w + 64 * (i / mvRowChunks w * mvHbmStride w + i % mvRowChunks w)
def mvSramAt (w : BitVec 192) (i : Nat) : Nat := mvSram w + 64 * (i / mvRowChunks w * mvSramStride w + i % mvRowChunks w)

/-- The command names a hash slot (R273). -/
def mvNamesSlot (w : BitVec 192) : Bool := mvOp w = 3 || mvOp w = 4 || mvHash w

/-- The command reads or writes SRAM. -/
def mvUsesSram (w : BitVec 192) : Bool := mvOp w = 0 || mvOp w = 1

/-- The command is well formed (R266), but for its hash slot. OP 3 ignores every other field, OP 2 the SRAM fields (Table 9.5). -/
def mvFormOk (w : BitVec 192) : Bool :=
  let op := mvOp w
  let reserved := fld w 191 176 = 0 && fld w 151 143 = 0 && fld w 100 85 = 0 && fld w 43 40 = 0
  if !(op ≤ 4) || !reserved then false
  else match op with
    | 3 => true
    | 4 => mvHbm w % 64 == 0 && mvSram w % 64 == 0 && mvSram w + 63 < sramEnd
    | 2 => mvHbm w % 64 == 0 && !mvHash w
    | _ => mvHbm w % 64 == 0 && mvSram w % 64 == 0 &&
        mvSram w + 64 * ((mvRows w - 1) * mvSramStride w + mvRowChunks w) ≤ sramEnd

def State.hashSlot (s : State) (h : Nat) : HashSlot := s.cel.hash.get HashSlot.zero h
def State.modHash (s : State) (h : Nat) (f : HashSlot → HashSlot) : State :=
  s.modCel (fun c => { c with hash := c.hash.upd HashSlot.zero h f })

/-- The hash slot that a command needs is assigned to its cluster (R266). -/
def State.slotHeld (s : State) (m : MoverCmd) : Bool :=
  let h := s.hashSlot (mvSlot m.args)
  if mvOp m.args = 4 || (mvOp m.args ≤ 1 && mvHash m.args) then h.isOpen && h.cluster == m.cluster else true

/-! Movers -/

def State.mover (s : State) (m : Nat) : Option Mover := s.cel.movers.get none m
def State.setMover (s : State) (m : Nat) (x : Option Mover) : State := s.modCel (fun c => { c with movers := c.movers.set none m x })

/-- Record a failure of a command in its cluster's CLR_ERR, or count it while VALID is 1 (Table 9.7). -/
def State.cellErr (s : State) (c : MoverCmd) (off code : Nat) : State :=
  let w := c.args
  let s := s.cellarCode code
  if bitOf (s.cel.err.get 0#64 c.cluster) 63 then s.bump 5 0x0E0 1
  else
    let e : W64 := BitVec.ofNat 64 (2 ^ 63 + mvCore w * 2 ^ 60 + mvOp w * 2 ^ 56 + off % 2 ^ 40 * 2 ^ 16 + code)
    (s.modCel (fun x => { x with err := x.err.set 0#64 c.cluster e })).w1Mark 5 (0x404 + 8 * c.cluster) 31

/-- Trace record of mover `m` (R399, R400). -/
def State.mvTrace (s : State) (m ev : Nat) (c : MoverCmd) : State :=
  s.trace 2 (100 + m / 8) (m % 8) ev c.layer.toNat c.oper.toNat c.seq

/-- A command ends at mover `m`. -/
def State.mvEnd (s : State) (m : Nat) (c : MoverCmd) (failed : Bool) : State :=
  (s.setMover m none).mvTrace m (if failed then 2 else 1) c

/-- Refuse a command (R266); it stops its cluster's section (R300). -/
def State.mvRefuse (s : State) (m : Nat) (c : MoverCmd) (code : Nat) : State :=
  (((s.cellErr c (mvHbm c.args) code).raise code 5 m 0).mvTrace m 2 c).stopSection c.cluster

/-- A queued command may start (R273): its slot is not held by another cluster for HASH_OPEN, and no running command of its
cluster still feeds the slot. -/
def State.mvMayStart (s : State) (c : MoverCmd) : Bool :=
  !mvNamesSlot c.args ||
    (let h := s.hashSlot (mvSlot c.args)
     (mvOp c.args != 3 || !h.isOpen || h.cluster == c.cluster) &&
     s.cel.movers.all (fun p => match p.2 with
       | some x => !(mvNamesSlot x.cmd.args && mvSlot x.cmd.args == mvSlot c.args && x.cmd.cluster == c.cluster)
       | none => true))

/-- The cluster that mover `m` serves next: the first after the one it last served whose oldest command may start (R267). -/
def State.mvNext (s : State) (m : Nat) : Option (Nat × MoverCmd × List MoverCmd) :=
  let v := s.cel.lastServed.get 0 m
  ((List.range 25).map (fun i => 25 * (m / 8) + (v + i) % 25)).findSome? (fun k =>
    match (s.cluster k).movQ with
    | c :: rest => if s.mvMayStart c then some (k, c, rest) else none
    | [] => none)

/-- Cellar read turnaround: the Cellar's own, whatever the image's profile (R268). -/
def State.turnaround (s : State) : Nat := if s.fuses.b0 then 38 else 44

/-- MOVER_START (R266, R267): a free mover takes its next command, or refuses it. -/
def execMoverStart (m : Fin 32) (s : State) : Result :=
  .next (match s.mover m.val, s.mvNext m.val with
    | none, some (k, c, rest) =>
      if !s.celOn then s
      else
        let s := (s.modCluster k (fun x => { x with movQ := rest })).modCel (fun x => { x with
          lastServed := x.lastServed.set 0 m.val (k % 25 + 1) })
        let (s, n) := s.nextSeq (100 + m.val / 8) (m.val % 8)
        let c := { c with seq := n }
        let s := s.mvTrace m.val 0 c
        if !mvFormOk c.args || !s.slotHeld c then s.mvRefuse m.val c 0x040B
        else s.setMover m.val (some ⟨c, s.clk.beat, 0, false, 0⟩)
    | _, _ => s)

/-- Feed bytes to a hash slot (R272, R273). -/
def HashSlot.feed (h : HashSlot) (bs : List Byte) : HashSlot :=
  { h with buf := h.buf ++ bs, len := h.len + bs.length, blocks := min (h.blocks + bs.length / 64) (2 ^ 23 - 1) }

/-- A hashing command waits while its slot's engine has a block in hand (R272). -/
def State.hashBusy (s : State) (w : BitVec 192) : Bool := mvHash w && 64 ≤ (s.hashSlot (mvSlot w)).buf.length

/-- A chunk of `w` moved with its plaintext, or failed: the hash slot learns of it (R269). -/
def State.hashChunk (s : State) (w : BitVec 192) (bs : Option (List Byte)) : State :=
  if !mvHash w then s
  else s.modHash (mvSlot w) (fun h => match bs with
    | some x => h.feed x
    | none => { h with failed := true })

/-- The place of the SRAM side of a command. -/
def MoverCmd.place (c : MoverCmd) : Nat := 8 * c.cluster + mvCore c.args

/-- Chunks that move together from chunk `i`: four of a WRITE or FILL that make a whole block, else one (R269). -/
def mvGroup (w : BitVec 192) (i : Nat) : Nat :=
  if mvOp w != 0 && mvHbmAt w i % 256 == 0 && i + 4 ≤ mvTotal w && (List.range 4).all (fun j => mvHbmAt w (i + j) == mvHbmAt w i + 64 * j)
  then 4 else 1

/-- Read the SRAM chunks of a WRITE through the tap: all of a group, or none where one cannot be read. -/
def State.readChunks (s : State) (c : MoverCmd) (i n : Nat) : State × Option (List Byte) :=
  (List.range n).foldl (fun (acc : State × Option (List Byte)) j =>
    let a := mvSramAt c.args (i + j)
    let (s, r) := (acc.1.takeBanks c.place a 64).sramRead c.place a 64
    (s, match acc.2, r with
      | some x, some y => some (x ++ y)
      | _, _ => none)) (s.tapTake c.cluster true n, some [])

/-- What moving chunks does: the state, 0 or the code of a failure, the plaintext. -/
structure Moved where
  st   : State
  code : Nat
  data : List Byte

/-- Bring a chunk that mover `m` read to SRAM: written by the tap now, else into the tap's queue (R22, R268). -/
def State.mvDeliver (s : State) (m : Nat) (c : MoverCmd) (a : Nat) (bs : List Byte) : State :=
  if s.tapRoom c.cluster false != 0 && s.banksFree c.place a 64 then
    ((((s.takeBanks c.place a 64).tapTake c.cluster false 1).sramWrite c.place a bs).1.incCC c.place (mvCc c.args) 1).bump 5 0x0B8 1
  else s.modCluster c.cluster (fun x => { x with
    landQ := x.landQ ++ [⟨s.clk.beat, c.place, a, 64, BitVec.ofNat 512 (leNat bs), mvCc c.args, 6, 0, .mover m⟩] })

/-- Move `n` chunks from chunk `i` (R269). -/
def State.moveChunks (s : State) (m : Nat) (c : MoverCmd) (i n : Nat) : Moved :=
  let w := c.args
  let ctx := s.hearth.running.getD 0
  let h := mvHbmAt w i
  let count (s : State) : State := (s.incCC c.place (mvCc w) n).bump 5 0x0B8 n
  match mvOp w with
  | 0 =>
    match s.hbmRead ctx h 64 with
    | (s, (bs, 0)) => ⟨s.mvDeliver m c (mvSramAt w i) bs, 0, bs⟩
    | (s, (_, code)) => ⟨s, code, []⟩
  | 1 =>
    match s.readChunks c i n with
    | (s, some bs) =>
      let r := s.hbmWrite ctx h bs
      ⟨if r.2 = 0 then count r.1 else r.1, r.2, bs⟩
    | (s, none) => ⟨s, 0x0611, []⟩
  | _ =>
    let r := s.hbmWrite ctx h (List.replicate (64 * n) 0#8)
    ⟨if r.2 = 0 then count r.1 else r.1, r.2, []⟩

/-- Chunks that mover `m` read wait in the tap's queue of cluster `k`. -/
def State.landsFor (s : State) (k m : Nat) : Bool := (s.cluster k).landQ.any (fun l => l.kind == .mover m)

/-- Mover `m` has moved `n` chunks: its command ends with the last, once none of it waits in the tap's queue. -/
def State.mvMoved (s : State) (m n : Nat) (bad : Bool) : State :=
  match s.mover m with
  | none => s
  | some x =>
    let y := { x with done := x.done + n, failed := x.failed || bad }
    if mvTotal x.cmd.args ≤ y.done && !s.landsFor x.cmd.cluster m then s.mvEnd m x.cmd y.failed else s.setMover m (some y)

/-- The SRAM side of the next `n` chunks can be accessed now: a WRITE's through the tap; a READ's by the tap or its queue (R21, R22). -/
def State.mvSramFree (s : State) (c : MoverCmd) (i n : Nat) : Bool :=
  let free : Bool := (List.range n).all (fun j => s.banksFree c.place (mvSramAt c.args (i + j)) 64)
  match mvOp c.args with
  | 0 => (s.tapRoom c.cluster false != 0 && free) || s.landRoom c.cluster
  | 1 => n ≤ s.tapRoom c.cluster true && free
  | _ => true

/-- Move the chunks of a group one at a time, after the group failed as a whole. -/
def State.moveSingly (s : State) (m : Nat) (c : MoverCmd) (i n : Nat) : State × Bool :=
  (List.range n).foldl (fun (acc : State × Bool) j =>
    let r := acc.1.moveChunks m c (i + j) 1
    if r.code = 0 then (r.st.hashChunk c.args (some r.data), acc.2)
    else ((r.st.hashChunk c.args none).cellErr c (mvHbmAt c.args (i + j)) r.code, true)) (s, false)

/-- Move the next group of chunks of mover `m`'s command: nothing while its turnaround, the tap, its banks, its hash engine or a refresh
hold it back (R268, R271, R272). A group with a bad chunk moves chunk by chunk. -/
def State.moveNext (s : State) (m : Nat) : State :=
  match s.mover m with
  | none => s
  | some x =>
    let c := x.cmd
    let w := c.args
    let i := x.done
    let n := mvGroup w i
    if 2 < mvOp w || !s.celOn then s
    else if mvTotal w ≤ i then s.mvMoved m 0 false
    else if mvOp w = 0 && s.clk.beat < x.start + s.turnaround then s
    else if s.hashBusy w || !s.mvSramFree c i n then s
    else if s.refreshing (mvHbmAt w i) then s.bump 5 0x0D0 1
    else
      let r := s.moveChunks m c i n
      if r.code = 0 then (r.st.hashChunk w (some r.data)).mvMoved m n false
      else if n = 1 then ((r.st.hashChunk w none).cellErr c (mvHbmAt w i) r.code).mvMoved m 1 true
      else
        let t := r.st.moveSingly m c i n
        t.1.mvMoved m n t.2

/-- Chunks that mover `m` has moved of its command. -/
def State.mvDone (s : State) (m : Nat) : Nat :=
  match s.mover m with
  | some x => x.done
  | none => 0

/-- Up to `left` chunks of one beat (R268), in at most `fuel` groups; the first that must wait ends the beat. -/
def State.moveUpTo (s : State) (m : Nat) : Nat → Nat → State
  | 0, _ => s
  | fuel + 1, left =>
    match s.mover m with
    | none => s
    | some x =>
      if left < mvGroup x.cmd.args x.done then s
      else
        let t := s.moveNext m
        if t.mvDone m ≤ x.done then t else t.moveUpTo m fuel (left - (t.mvDone m - x.done))

/-- The chunks that mover `m` moves in one beat, where its command has operation `op`. -/
def State.moveBeat (s : State) (m : Nat) (op : Nat) : State :=
  match s.mover m with
  | some x => if mvOp x.cmd.args = op then s.moveUpTo m 8 8 else s
  | none => s

/-- READ (R268, R269): mover `m` moves the chunks of this beat. -/
def execRead (m : Fin 32) (s : State) : Result := .next (s.moveBeat m.val 0)
/-- WRITE (R269). -/
def execWrite (m : Fin 32) (s : State) : Result := .next (s.moveBeat m.val 1)
/-- FILL (R269). -/
def execFill (m : Fin 32) (s : State) : Result := .next (s.moveBeat m.val 2)

/-- MOVER_CHUNK_DONE (R268): the next chunk, or whole block, of mover `m`'s command. -/
def execMoverChunkDone (m : Fin 32) (s : State) : Result := .next (s.moveNext m.val)

/-! Hash slots (R272, R273) -/

/-- Trace record of the hash engine that serves a slot. -/
def State.hashTrace (s : State) (m ev : Nat) (c : MoverCmd) (seq : Nat) : State :=
  s.trace 4 (108 + m / 8) (mvSlot c.args % 2) ev c.layer.toNat c.oper.toNat seq

/-- HASH_OPEN (R273): the slot starts a message for the cluster, unless another cluster has taken it meanwhile. -/
def execHashOpen (m : Fin 32) (s : State) : Result :=
  .next (match s.mover m.val with
    | some x =>
      let c := x.cmd
      let h := s.hashSlot (mvSlot c.args)
      if mvOp c.args != 3 || !s.celOn || (h.isOpen && h.cluster != c.cluster) then s
      else
        let (s, n) := s.nextSeq (108 + m.val / 8) (mvSlot c.args % 2)
        let s := s.modHash (mvSlot c.args) (fun _ => ⟨true, false, c.cluster, 0, BitVec.ofNat 256 shaInit, [], 0, n⟩)
        ((s.incCC c.place (mvCc c.args) 1).hashTrace m.val 0 c n).mvEnd m.val c false
    | none => s)

/-- HASH_COMPRESS (R272): an engine compresses one block of slot `h`. -/
def State.compress (s : State) (h : Nat) : State :=
  let x := s.hashSlot h
  if x.isOpen && 64 ≤ x.buf.length then
    (s.modHash h (fun x => { x with
      chain := BitVec.ofNat 256 (shaCompress x.chain.toNat (x.buf.take 64)), buf := x.buf.drop 64 })).bump 5 0x0C8 1
  else s

def execHashCompress (h : Fin 16) (s : State) : Result := .next (s.compress h.val)

/-- The digest of a slot whose whole blocks are compressed. -/
def HashSlot.digest (h : HashSlot) : List Byte :=
  let p := h.buf ++ shaPad h.len
  beBytes 32 (shaBlocks (p.length / 64) h.chain.toNat p)

/-- HASH_CLOSE (R273): the digest is written and the slot freed; a failed slot writes nothing and records 0x0616. -/
def execHashClose (m : Fin 32) (s : State) : Result :=
  .next (match s.mover m.val with
    | some x =>
      let c := x.cmd
      let w := c.args
      let h := s.hashSlot (mvSlot w)
      if mvOp w != 4 || !s.celOn || 64 ≤ h.buf.length then s
      else
        let free (s : State) : State := s.modHash (mvSlot w) (fun _ => HashSlot.zero)
        if h.failed then
          (((free s).cellErr c (mvHbm w) 0x0616).raise 0x0616 6 (mvSlot w) 0 |>.hashTrace m.val 2 c h.seq).mvEnd m.val c true
        else if !s.banksFree c.place (mvSram w) 32 then s
        else
          let s := s.bump 5 0x0C8 ((h.buf.length + 72) / 64)
          let r := ((free s).takeBanks c.place (mvSram w) 32).sramWrite c.place (mvSram w) h.digest
          ((r.1.incCC c.place (mvCc w) 1).hashTrace m.val 1 c h.seq).mvEnd m.val c false
    | none => s)

/-! Refresh, write-back, patrol -/

/-- The least time between two refreshes that accesses on one pseudo-channel can meet (R271). The stacks' temperature is taken as the
junction's (log 13). -/
def State.refreshGap (s : State) : Nat := if s.hearth.junction ≤ 85 then quNs 3900 else quNs 1950

/-- REFRESH (R271): a bank is under refresh for 240 ns, unless its pseudo-channel had one too short a time ago; in P2 the stacks refresh
themselves. -/
def execRefresh (bank : Nat) (s : State) : Result :=
  let ch := Config.hbmChannel bank
  .next (if 2 ≤ s.hearth.pState || s.clk.wall < s.cel.refreshAt.get 0 ch then s
    else s.modCel (fun c => { c with
      refresh := c.refresh.set 0 bank (s.clk.wall + quNs 240), refreshAt := c.refreshAt.set 0 ch (s.clk.wall + s.refreshGap) }))

/-- The blocks whose tag words the 32-byte word with key `w` of the error table holds, in order. -/
def tagBlocks (w : Nat) : List Nat :=
  let st := (w - 2 ^ 40) / 2 ^ 30
  (List.range 4).map (fun j =>
    let q := 4 * (w % 2 ^ 30) + j
    8 * q + (st ^^^ (q % 8) ^^^ (q / 8 % 8)))

/-- Store the word that the decoder delivered in place of an HBM word in error (R258). -/
def State.hbmRestore (s : State) (w : Nat) : State :=
  let errs := wordErrs s.cel.symErr w
  let put (s : State) (bb : Nat) (b : HBlock) : State := s.modCel (fun c => { c with blocks := c.blocks.set none bb (some b) })
  let s' := if w < 2 ^ 40 then
      let b := s.cel.block (w / 8)
      let i := w % 8
      let old := ((leBytes 256 b.ct.toNat).drop (32 * i)).take 32
      let new := (wordRead errs old).2
      if old = new then s else put s (w / 8) { b with ct := putFld b.ct (256 * i + 255) (256 * i) (leNat new) }
    else
      let bs := (tagBlocks w).map (fun bb => (bb, s.cel.block bb))
      let old := bs.flatMap (fun x => leBytes 8 x.2.tag.toNat)
      let new := (wordRead errs old).2
      if old = new then s
      else (withIx bs).foldl (fun (s : State) x => put s x.2.1 { x.2.2 with tag := BitVec.ofNat 64 (leNat ((new.drop (8 * x.1)).take 8)) }) s
  s'.modCel (fun c => { c with symErr := clearWord c.symErr w })

/-- CORRECTION_WRITEBACK (R258): the oldest corrected word of HBM, and of SRAM where its bank is free, is written back as the decoder
delivers it; a word that has become uncorrectable meanwhile is left. -/
def execCorrectionWriteback (s : State) : Result :=
  let bad (errs : List (Nat × Nat)) : Bool := rsFind errs == .bad
  let s := match s.cel.wbHbm with
    | w :: rest =>
      let t := s.modCel (fun c => { c with wbHbm := rest })
      if bad (wordErrs s.cel.symErr w) then t else t.hbmRestore w
    | [] => s
  .next (match s.cel.wbSram with
    | (n, w) :: rest =>
      if !s.banksFree n (32 * w) 32 then s
      else
        let errs := wordErrs (s.coreN n).sramErr w
        let t := s.modCel (fun c => { c with wbSram := rest })
        if bad errs then t
        else (t.takeBanks n (32 * w) 32).modCoreN n (fun k => { k with
          sram := k.sram.write (32 * w) (wordRead errs (k.sram.read (32 * w) 32)).2, sramErr := clearWord k.sramErr w })
    | [] => s)

/-- Stack and stack address of a word of the error table. -/
def wordPlace (w : Nat) : Nat × Nat :=
  if w < 2 ^ 40 then (blockStack (w / 8), stackAddr (256 * (w / 8)) + 32 * (w % 8))
  else ((w - 2 ^ 40) / 2 ^ 30, 0x1170000000 + 32 * (w % 2 ^ 30))

/-- Patrol reads one HBM word (R258, R259, R261). -/
def State.patrolHbm (s : State) (w : Nat) : State :=
  let (st, addr) := wordPlace w
  match rsFind (wordErrs s.cel.symErr w) with
  | .clean => s
  | .bad => (s.logUe st addr).raise 0x0610 3 st addr
  | .corrected p _ =>
    let s := (s.logCe st p addr).modCel (fun c => { c with
      passCe := c.passCe.upd 0 st (· + 1), wbHbm := if c.wbHbm.contains w then c.wbHbm else c.wbHbm ++ [w] })
    if 2 ^ fld s.cel.ctl 27 24 < s.cel.passCe.get 0 st && !s.cel.passOver.contains st then
      (s.modCel (fun c => { c with passOver := st :: c.passOver, reason := 0x0612 })).raise 0x0612 3 st 0
    else s

/-- Patrol reads one SRAM word, core place and word number. -/
def State.patrolSram (s : State) (n w : Nat) : State := ((s.takeBanks n (32 * w) 32).sramWord n w).1

/-- Words of the stacks, data words before tag words, and of every core's SRAM, in patrol's order (log 13). -/
def hbmWords : Nat := 8 * (hbmEnd / 256)
def tagWords : Nat := hbmEnd / 256 / 8 / 4
def patrolWords : Nat := hbmWords + 8 * tagWords
def sramWords : Nat := 800 * 49152

/-- The place in patrol's order of a word with key `w`. -/
def patrolPlace (w : Nat) : Nat :=
  if w < 2 ^ 40 then w else hbmWords + (w - 2 ^ 40) / 2 ^ 30 * tagWords + w % 2 ^ 30

/-- The next HBM word in error at or after patrol's place. -/
def State.nextHbmErr (s : State) : Option Nat :=
  (sortByKey patrolPlace ((s.cel.symErr.map (fun e => e.1 / 35)).filter (fun w => s.cel.patrolAt ≤ patrolPlace w))).head?

/-- The next SRAM word in error of an enabled core at or after place `at_` (49,152 words to a core). -/
def State.nextSramErr (s : State) (at_ : Nat) : Option (Nat × Nat) :=
  (s.cores.filter (fun p => s.cluEnabled (p.1 / 8))).findSome? (fun p =>
    (p.2.sramErr.map (fun e => e.1 / 35)).findSome? (fun w => if at_ ≤ 49152 * p.1 + w then some (p.1, w) else none))

/-- Patrol of HBM goes on to the next word that holds an error, or to the end of its pass. -/
def State.patrolHbmOn (s : State) : State :=
  match s.nextHbmErr with
  | some w => (s.modCel (fun c => { c with patrolAt := patrolPlace w + 1 })).patrolHbm w
  | none => (s.modCel (fun c => { c with patrolAt := 0, hbmGone := 0, passCe := [], passOver := [] })).bump 5 0x0D8 1

/-- Patrol of SRAM goes on to the next word that holds an error, whose bank must be free, or to the end of its pass. -/
def State.patrolSramOn (s : State) : State :=
  match s.nextSramErr s.cel.sramPatrolAt with
  | some (n, w) =>
    if s.banksFree n (32 * w) 32 then (s.modCel (fun c => { c with sramPatrolAt := 49152 * n + w + 1 })).patrolSram n w else s
  | none => s.modCel (fun c => { c with sramPatrolAt := 0, sramGone := 0 })

/-- PATROL_SCRUB (R261): patrol goes on to its next word in error, or to the end of its pass, of HBM and of SRAM. -/
def execPatrolScrub (s : State) : Result := .next (if !bitOf s.cel.ctl 31 || !s.celOn then s else s.patrolHbmOn.patrolSramOn)

/-- The patrol periods (Table 9.8). -/
def State.hbmPeriod (s : State) : Nat := quMs (3600000 * min (max (fld s.cel.ctl 23 16) 1) 168)
def State.sramPeriod (s : State) : Nat := quMs (min (max (fld s.cel.ctl 15 6) 1) 1000)

/-- Patrol by time (R261): in each period it comes past every word once, so that in `gone` of it it has come to the same part of the
words. -/
def State.patrolTime (s : State) : State :=
  let d := s.clk.wall - s.cel.patrolSeen
  let s := s.modCel (fun c => { c with patrolSeen := s.clk.wall })
  if !bitOf s.cel.ctl 31 || !s.celOn then s
  else
    let s := s.modCel (fun c => { c with hbmGone := c.hbmGone + d, sramGone := c.sramGone + d })
    let c := s.cel
    let s := match s.nextHbmErr with
      | some w => if patrolPlace w * s.hbmPeriod < c.hbmGone * patrolWords then s.patrolHbmOn else s
      | none => if s.hbmPeriod ≤ c.hbmGone then s.patrolHbmOn else s
    match s.nextSramErr c.sramPatrolAt with
    | some (n, w) => if (49152 * n + w) * s.sramPeriod < c.sramGone * sramWords then s.patrolSramOn else s
    | none => if s.sramPeriod ≤ c.sramGone then s.patrolSramOn else s

/-! Keys and regions (R263, R274) -/

/-- Draw a fresh secret and advance EPOCH (R263); refused for the running context (Table 9.10). Without the random generator it leaves
KEYED 0 (R384). -/
def State.keyGenerate (s : State) (x : Nat) : State × Nat :=
  if s.hearth.running = some x then (s, 0x0304)
  else if !s.hearth.entropyOk then
    (s.modCel (fun c => { c with keys := c.keys.upd KeySet.zero x (fun k => { k with keyed := false, z := 0#256 }) }), 0x050D)
  else
    let (r, s) := s.draw
    (s.modCel (fun c => { c with keys := c.keys.upd KeySet.zero x (fun k => ⟨true, k.epoch + 1#8, r⟩) }), 0)

/-- Destroy a key set (R263). -/
def State.keyErase (s : State) (x : Nat) : State :=
  s.modCel (fun c => { c with keys := c.keys.upd KeySet.zero x (fun k => ⟨false, k.epoch, 0#256⟩) })

/-- GENERATE (R263). -/
def execGenerate (x : Fin 16) (s : State) : Result := .next (s.keyGenerate x.val).1
/-- ERASE (R263). -/
def execErase (x : Fin 16) (s : State) : Result := .next (s.keyErase x.val)

/-- The checks of R274; 0 when they pass. -/
def State.regionCheck (s : State) (v : BitVec 128) : Nat :=
  let lo := fld v 39 0
  let hi := fld v 103 64
  if lo % 0x200000 ≠ 0 || (hi + 1) % 0x200000 ≠ 0 || hi < lo || hbmEnd ≤ hi then 0x040C
  else if s.cel.regions.any (fun r => bitOf r.2 127 && fld r.2 39 0 ≤ hi && lo ≤ fld r.2 103 64) then 0x040C
  else 0

/-- Set ENABLE of region `w`. -/
def State.enableRegion (s : State) (w : Nat) : State × Nat :=
  let v := s.cel.regions.get 0#128 w
  if bitOf v 127 then (s, 0)
  else match s.regionCheck v with
    | 0 => (s.modCel (fun c => { c with regions := c.regions.set 0#128 w (putFld v 127 127 1) }), 0)
    | code => (s.modCel (fun c => { c with reason := code }), code)

/-- CLR_REGION_ENABLE (R274). -/
def execClrRegionEnable (w : Fin 32) (s : State) : Result := .next (s.enableRegion w.val).1

end Sys2Proof.Machine
end

