-- ==== Sys2Proof/Machine/CryptoEc.lean ====
section
/-! DEFINITION. ECDH and ECDSA on P-256 (FIPS 186-5) with the nonces of RFC 6979 (R193, R214, R372). -/

namespace Sys2Proof

def p256 : Nat := 0xffffffff00000001000000000000000000000000ffffffffffffffffffffffff
def p256n : Nat := 0xffffffff00000000ffffffffffffffffbce6faada7179e84f3b9cac2fc632551
def p256b : Nat := 0x5ac635d8aa3a93e7b3ebbd55769886bc651d06b0cc53b0f63bce3c3e27d2604b
def p256gx : Nat := 0x6b17d1f2e12c4247f8bce6e563a440f277037d812deb33a0f4a13945d898c296
def p256gy : Nat := 0x4fe342e2fe1a7f9b8ee7eb4a7c0f9e162bce33576b315ececbb6406837bf51f5

/-- `b` to the power `e` modulo `m`, over the low `n` bits of `e`. -/
def powMod (m b e n : Nat) : Nat :=
  ((List.range n).foldl (fun (a : Nat × Nat) i =>
    (if e.testBit i then a.1 * a.2 % m else a.1, a.2 * a.2 % m)) (1 % m, b % m)).1

/-- Inverse modulo a prime. -/
def invMod (m x : Nat) : Nat := powMod m x (m - 2) 256

def subMod (m a b : Nat) : Nat := (a + m - b % m) % m

/-- A point in Jacobian coordinates; Z = 0 is the point at infinity. -/
structure EcPoint where
  x : Nat
  y : Nat
  z : Nat
  deriving DecidableEq, Repr

def EcPoint.inf : EcPoint := ⟨1, 1, 0⟩

def EcPoint.dbl (a : EcPoint) : EcPoint :=
  if a.z = 0 || a.y = 0 then EcPoint.inf
  else
    let zz := a.z * a.z % p256
    let s := 4 * a.x * (a.y * a.y % p256) % p256
    let m := 3 * (subMod p256 a.x zz) * (a.x + zz) % p256
    let x := subMod p256 (m * m % p256) (2 * s)
    let yy := a.y * a.y % p256
    ⟨x, subMod p256 (m * (subMod p256 s x) % p256) (8 * yy * yy), 2 * a.y * a.z % p256⟩

def EcPoint.add (a b : EcPoint) : EcPoint :=
  if a.z = 0 then b
  else if b.z = 0 then a
  else
    let az := a.z * a.z % p256
    let bz := b.z * b.z % p256
    let u1 := a.x * bz % p256
    let u2 := b.x * az % p256
    let s1 := a.y * b.z % p256 * bz % p256
    let s2 := b.y * a.z % p256 * az % p256
    if u1 = u2 then (if s1 = s2 then a.dbl else EcPoint.inf)
    else
      let h := subMod p256 u2 u1
      let r := subMod p256 s2 s1
      let hh := h * h % p256
      let hhh := hh * h % p256
      let v := u1 * hh % p256
      let x := subMod p256 (subMod p256 (r * r % p256) hhh) (2 * v)
      ⟨x, subMod p256 (r * (subMod p256 v x) % p256) (s1 * hhh), h * a.z % p256 * b.z % p256⟩

def EcPoint.mul (k : Nat) (a : EcPoint) : EcPoint :=
  (List.range 256).foldl (fun acc i =>
    let acc := acc.dbl
    if k.testBit (255 - i) then acc.add a else acc) EcPoint.inf

def EcPoint.affine (a : EcPoint) : Nat × Nat :=
  let zi := invMod p256 a.z
  let zi2 := zi * zi % p256
  (a.x * zi2 % p256, a.y * (zi2 * zi % p256) % p256)

def p256g : EcPoint := ⟨p256gx, p256gy, 1⟩

/-- A 64-byte public key, x then y, as a number; a point of the curve other than infinity. -/
def pubOk (x y : Nat) : Bool :=
  x < p256 && y < p256 && y * y % p256 == (x * x % p256 * x + (p256 - 3) * x + p256b) % p256

/-- A private key from 32 bytes: 1 to n - 1. -/
def privOf (x : Nat) : Nat := x % (p256n - 1) + 1

/-- The public key of a private key, x in the upper 32 bytes. -/
def pubOf (d : Nat) : BitVec 512 :=
  let (x, y) := (p256g.mul d).affine
  BitVec.ofNat 512 (x * 2 ^ 256 + y)

def pubX (k : BitVec 512) : Nat := k.toNat / 2 ^ 256
def pubY (k : BitVec 512) : Nat := k.toNat % 2 ^ 256

/-- The x-coordinate that two parties share (R193). -/
def ecdh (d : Nat) (pub : BitVec 512) : Nat := (EcPoint.mul d ⟨pubX pub, pubY pub, 1⟩).affine.1

/-- The nonce of RFC 6979 under SHA-256 for a 32-byte digest; `fuel` bounds the retries. -/
def nonceLoop : Nat → List Byte → List Byte → Nat
  | 0, _, _ => 1
  | fuel + 1, k, v =>
    let v := beBytes 32 (hmac k v)
    let t := beNat v
    if 1 ≤ t && t < p256n then t
    else
      let k := beBytes 32 (hmac k (v ++ [0#8]))
      nonceLoop fuel k (beBytes 32 (hmac k v))

def rfc6979 (d digest : Nat) : Nat :=
  let x := beBytes 32 d ++ beBytes 32 (digest % p256n)
  let v := List.replicate 32 1#8
  let k := List.replicate 32 0#8
  let k := beBytes 32 (hmac k (v ++ [0#8] ++ x))
  let v := beBytes 32 (hmac k v)
  let k := beBytes 32 (hmac k (v ++ [1#8] ++ x))
  let v := beBytes 32 (hmac k v)
  nonceLoop 8 k v

/-- The signature of a digest, r in the upper 32 bytes. -/
def ecdsaSign (d digest : Nat) : BitVec 512 :=
  let k := rfc6979 d digest
  let r := (p256g.mul k).affine.1 % p256n
  let s := invMod p256n k * ((digest + r * d) % p256n) % p256n
  BitVec.ofNat 512 (r * 2 ^ 256 + s)

def ecdsaVerify (pub : BitVec 512) (digest : Nat) (sig : BitVec 512) : Bool :=
  let r := sig.toNat / 2 ^ 256
  let s := sig.toNat % 2 ^ 256
  if !(pubOk (pubX pub) (pubY pub)) || r = 0 || s = 0 || p256n ≤ r || p256n ≤ s then false
  else
    let w := invMod p256n s
    let q := (p256g.mul (digest * w % p256n)).add (EcPoint.mul (r * w % p256n) ⟨pubX pub, pubY pub, 1⟩)
    q.z != 0 && q.affine.1 % p256n == r

end Sys2Proof
end

