-- ==== Sys2Proof/Machine/Fec.lean ====
section
/-! DEFINITION. The frame code RS(1023,1007) over GF(2^10) and the slot check CRC-16 (R190, R191). -/

namespace Sys2Proof

/-- Product in GF(2^10) with x^10 + x^3 + 1. -/
def gf10Mul (a b : Nat) : Nat :=
  ((List.range 10).foldl (fun (acc : Nat × Nat) i =>
    let r := if b.testBit i then acc.1 ^^^ acc.2 else acc.1
    let d := acc.2 * 2
    (r, if 1024 ≤ d then d ^^^ 0x409 else d)) (0, a)).1

def gf10Pow (a : Nat) : Nat → Nat
  | 0 => 1
  | n + 1 => gf10Mul (gf10Pow a n) a

/-- Inverse: the power 1022 by squaring. -/
def gf10Inv (a : Nat) : Nat :=
  ((List.range 10).foldl (fun (acc : Nat × Nat) i =>
    (if (1022).testBit i then gf10Mul acc.1 acc.2 else acc.1, gf10Mul acc.2 acc.2)) (1, a)).1

/-- Polynomials are coefficient lists, constant term first. -/
def polyMul10 (a b : List Nat) : List Nat :=
  (List.range (a.length + b.length - 1)).map (fun k =>
    (List.range a.length).foldl (fun acc i =>
      if i ≤ k && k - i < b.length then acc ^^^ gf10Mul (a.getD i 0) (b.getD (k - i) 0) else acc) 0)

def polyEval10 (p : List Nat) (x : Nat) : Nat := p.foldr (fun c acc => gf10Mul acc x ^^^ c) 0

/-- The generator with roots α^0 to α^15. -/
def rsGen : List Nat := (List.range 16).foldl (fun g i => polyMul10 g [gf10Pow 2 i, 1]) [1]

/-- The 16 parity symbols, coefficient of x^15 first, of a message given highest coefficient first. -/
def rsParity (msg : List Nat) : List Nat :=
  let g := rsGen.reverse.drop 1
  msg.foldl (fun rem m =>
    let f := rem.headD 0 ^^^ m
    List.zipWith (fun x y => x ^^^ gf10Mul f y) (rem.drop 1 ++ [0]) g) (List.replicate 16 0)

/-- The 16 syndromes of a word given highest coefficient first. -/
def rsSyn (word : List Nat) : List Nat :=
  (List.range 16).map (fun j =>
    let a := gf10Pow 2 j
    word.foldl (fun acc c => gf10Mul acc a ^^^ c) 0)

/-- State of the Berlekamp-Massey recurrence: locator, previous locator, length, gap, previous discrepancy. -/
structure BmState where
  c : List Nat
  b : List Nat
  l : Nat
  m : Nat
  d : Nat
  deriving DecidableEq, Repr

def bmStep (syn : List Nat) (n : Nat) (s : BmState) : BmState :=
  let disc := (List.range (s.l + 1)).foldl (fun a i =>
    if i ≤ n then a ^^^ gf10Mul (s.c.getD i 0) (syn.getD (n - i) 0) else a) 0
  if disc = 0 then { s with m := s.m + 1 }
  else
    let k := gf10Mul disc (gf10Inv s.d)
    let shifted := List.replicate s.m 0 ++ s.b.map (gf10Mul k)
    let len := max s.c.length shifted.length
    let c := (List.range len).map (fun i => s.c.getD i 0 ^^^ shifted.getD i 0)
    if 2 * s.l ≤ n then ⟨c, s.c, n + 1 - s.l, 1, disc⟩ else { s with c := c, m := s.m + 1 }

/-- Decode a word of 1,023 symbols, highest coefficient first: the corrected word and the number of symbols corrected, or none
where it is uncorrectable (R190). -/
def rsDecode (word : List Nat) : Option (List Nat × Nat) :=
  let syn := rsSyn word
  if syn.all (· == 0) then some (word, 0)
  else
    let bm := iter 16 (⟨[1], [1], 0, 1, 1⟩ : BmState) (bmStep syn)
    -- position p (from the highest coefficient) has locator α^(1022 - p)
    let locs := (List.range 1023).filter (fun p => polyEval10 bm.c (gf10Pow 2 ((p + 1) % 1023)) == 0)
    if 8 < bm.l || locs.length != bm.l then none
    else
      let omega := (polyMul10 syn bm.c).take 16
      let deriv := (List.range (bm.c.length - 1)).map (fun i => if i % 2 = 0 then bm.c.getD (i + 1) 0 else 0)
      let fixed := locs.foldl (fun w p =>
        let xi := gf10Pow 2 ((p + 1) % 1023)
        let x := gf10Pow 2 (1022 - p)
        let e := gf10Mul x (gf10Mul (polyEval10 omega xi) (gf10Inv (polyEval10 deriv xi)))
        w.modify p (· ^^^ e)) word
      if (rsSyn fixed).all (· == 0) then some (fixed, locs.length) else none

/-- CRC-16 with polynomial 0x1021 and initial value 0xFFFF (R191). -/
def crc16 (bs : List Byte) : Nat :=
  bs.foldl (fun c b =>
    iter 8 (c ^^^ (b.toNat * 256)) (fun _ c => if c < 2 ^ 15 then 2 * c else (2 * c) % 2 ^ 16 ^^^ 0x1021)) 0xFFFF

end Sys2Proof
end

