-- ==== Sys2Proof/Machine/JobOps.lean ====
section
/-! DEFINITION. What several units do to the whole module: regions that stop and go on (R405, R406), the job that ends at once
(JOB_STOP mode 2 of Table 10.22; R197, R233, R303, R329, R390, R424), the running clusters (R334, R350). -/

namespace Sys2Proof.Machine

/-- Clusters that run when nothing stops them: in P0 those of the running context's cluster map (R349). -/
def State.allClusters (s : State) : List Nat :=
  if s.hearth.pState != 0 || s.sloe.latched then []
  else match s.job with
    | some j => (List.range 100).filter (fun k => j.phys.any (fun x => x.2 == k))
    | none => []

/-- Cellar regions run in P0 and P1 (Table 12.6), and not while LATCHED is 1 (R391). -/
def State.celRuns (s : State) : Bool := s.hearth.pState ≤ 1 && !s.sloe.latched

/-- Times of a core's work put off by `d` beats. -/
def Core.putOff (k : Core) (d : Nat) : Core :=
  { k with
    acts := k.acts.map (fun a => { a with due := a.due + d, issue := a.issue + d })
    start := k.start.map (· + d)
    since := k.since + d
    wbFree := k.wbFree + d
    arFree := k.arFree + d
    acFree := k.acFree + d
    sfFree := k.sfFree + d
    rdFree := k.rdFree + d }

/-- Times of a cluster's work put off by `d` beats. -/
def Cluster.putOff (x : Cluster) (d : Nat) : Cluster :=
  { x with
    stw := { x.stw with since := x.stw.since + d }
    deps := x.deps.map (fun e => { e with dep := e.dep + d, issue := e.issue + d })
    landQ := x.landQ.map (fun l => { l with due := l.due + d })
    samp := x.samp.map (fun v => { v with start := v.start + d })
    panQ := x.panQ.map (fun o => { o with issued := o.issued + d }) }

/-- A table without its unlisted places, every listed element changed. -/
def mapOver {α : Type} [DecidableEq α] (d : α) (m : SMap α) (f : α → α) : SMap α :=
  (m.map (fun p => (p.1, f p.2))).filter (fun p => p.2 != d)

/-- The stopped regions go on `d` beats later than planned: what they hold keeps its distance to the epoch's beats, and piece
timeouts have not advanced (R405). -/
def State.putOff (s : State) (d w : Nat) : State :=
  { s with
    cores := mapOver Core.zero s.cores (fun k => k.putOff d)
    clusters := mapOver Cluster.zero s.clusters (fun x => x.putOff d)
    hall := s.hall.map (fun u => { u with enter := u.enter + d, issue := u.issue + d })
    tt := { s.tt with beat0 := s.tt.beat0 + d, readyAt := s.tt.readyAt + w }
    pan := { s.pan with
      pieces := s.pan.pieces.map (fun x => { x with opened := x.opened + w, hold := x.hold.map (· + w) })
      gather := s.pan.gather.map (fun g => { g with first := g.first + d }) } }

/-! Alignment (R325) -/

/-- Time that the alignment of R325 steps 2 to 5 takes at the first attempt, and a generator's lock (log 13). -/
def alignTime : Nat := quUs 2
def lockTime : Nat := quUs 20

/-- Attempts of the next alignment that fail, up to the eight after which it is given up. -/
def State.alignTries (s : State) : Nat := min (Config.alignTries s.clk.alignCount) 8

/-- When an alignment that takes `w` at its first attempt ends: each further attempt takes 1 µs (R332). -/
def State.alignEnd (s : State) (w : Nat) : Nat := s.clk.wall + w + quUs s.alignTries

/-- An alignment begins. -/
def State.beginAlign (s : State) : State :=
  s.modClk (fun c => { c with alignCount := c.alignCount + 1, alignBad := c.alignBad || s.alignTries = 8 })

/-- Crossings fail their alignment (R325): the event, and no context until a full reset. -/
def State.alignFails (s : State) : State :=
  ((s.modHearth (fun h => { h with noAdmit := 0x0624 })).modClk (fun c => { c with aligned := false })).raise 0x0624 0 0 0

/-- Regions that nothing stops run: clusters of the cluster map in P0, Cellar in P0 and P1 (R349); their crossings are aligned. -/
def State.regionsOn (s : State) : State :=
  if s.stopped || s.clk.resumeAt.isSome || s.hearth.noAdmit = 0x0624 then s
  else s.modClk (fun c => { c with cluRun := s.allClusters, celRun := s.celRuns, startAt := none })

/-- An alignment is over: the regions run, or it has failed eight times. -/
def State.alignOver (s : State) : State :=
  if s.clk.alignBad then (s.modClk (fun c => { c with alignBad := false })).alignFails
  else (s.modClk (fun c => { c with offs := [] })).regionsOn

/-- Regions as R349 has them: those not wanted stop, those that start are aligned first (R325); from P1 their generators lock before
(log 13). -/
def State.runRegions (s : State) : State :=
  if s.stopped || s.clk.resumeAt.isSome || s.hearth.noAdmit = 0x0624 then s
  else
    let want := s.allClusters
    let keep := s.clk.cluRun.filter want.contains
    let t := s.modClk (fun c => { c with cluRun := keep, celRun := c.celRun && s.celRuns })
    if want.all keep.contains && t.clk.celRun == s.celRuns then t.modClk (fun c => { c with startAt := none })
    else if s.clk.startAt.isSome then t
    else t.beginAlign.modClk (fun c => { c with startAt := some (s.alignEnd (alignTime + if s.clk.celRun then 0 else lockTime)) })

/-! The end of a global stop (R406) -/

def breakArmed (w : W64) : Bool := bitOf w 63

/-- POSTURE_NOW as the debug facilities stand (Table 14.7). -/
def Dbg.postureNow (d : Dbg) : Byte :=
  BitVec.ofNat 8 (b2n (bitOf d.ctl 31) + 2 * b2n (bitOf d.ctl 28) + 4 * b2n (d.breaks.any (fun x => breakArmed x.2)) + 8 * b2n d.scan.isSome)

/-- Take up a change of POSTURE_NOW: its accumulations and its alarm source (R385). -/
def State.updatePosture (s : State) : State :=
  let p := s.dbg.postureNow
  if p = s.dbg.posture then s
  else
    let s := s.modDbg (fun d => { d with posture := p, postReset := d.postReset ||| p, postRestore := d.postRestore ||| p })
    let s := match s.hearth.running with
      | some x => s.modCtx x (fun c => { c with debugSeen := c.debugSeen ||| p })
      | none => s
    s.alarm1 6 0x0516

/-- End a global stop: the stopped regions are aligned first, and the stop holds until then (R406). -/
def State.resumeStop (s : State) : State :=
  if !s.stopped then s.modDbg (fun d => { d with stopAt := none })
  else
    let s := (s.modDbg (fun d => { d with stopAt := none, scan := none })).updatePosture
    if s.clk.stopEnds.isSome then s else s.beginAlign.modClk (fun c => { c with stopEnds := some (s.alignEnd alignTime) })

/-- The stopped regions are aligned: the FBC and what they hold go on. -/
def State.stopOver (s : State) : State :=
  let s := s.putOff (s.clk.beat - s.dbg.stopBeat) (s.clk.wall - s.dbg.stopWall)
  let s := (s.modDbg (fun d => { d with stop := putFld d.stop 63 62 0 })).modClk (fun c => { c with stopEnds := none })
  (s.trace 6 124 0 5 (fld s.dbg.stop 31 20) 0 (fld s.dbg.stop 19 0)).alignOver

/-- A core stopped at once with the job: what it had in flight does not land (log 13). -/
def Core.halt (k : Core) : Core :=
  { k with
    run := if k.run = .faulted then .faulted else if k.run = .loaded then .loaded else .done
    waits := []
    start := none
    branch := none
    acts := []
    open_ := 0 }

/-- Stop every core and steward at once; a steward's command in progress ends (R399). -/
def State.haltAll (s : State) : State :=
  let s := (s.clusters.map (·.1)).foldl (fun (s : State) k => s.stopSection k) s
  { s with cores := mapOver Core.zero s.cores Core.halt, hall := [] }

/-- A JOB event (Table 10.15): its severity is a free value (log 11). -/
def State.jobEvent (s : State) (reason state : Nat) : State :=
  s.event 3 reason (Config.eventSeverity 3 reason).toNat (s.hearth.running.getD 0) (state * 2 ^ 56)

/-- End the running job at once with a reason, as JOB_STOP mode 2 does; nothing where no job runs or stands paused. -/
def State.endJob (s : State) (reason : Nat) : State :=
  match s.hearth.running with
  | none => s
  | some x =>
    let j := (s.ctx x).job
    if j = 1 || j = 2 then
      ((((s.resumeStop.haltAll).modCtx x (fun c => { c with job := 3, reason := reason })).modTt
        (fun t => { t with state := 5 })).jobEvent reason 5)
    else s

end Sys2Proof.Machine
end

