-- ==== Sys2Proof/Machine/LinkOps.lean ====
section
/-! DEFINITION. Operations that the rows of a port share: events, the bypass queue (R209), keys (R193), flush and link down
(R174, R197, R218 to R220, R249), the neighbour check (R228), slots of a beat (R184). -/

namespace Sys2Proof.Machine

/-! Slots -/

/-- Beats in which a width gives three slots (Table 7.1). -/
def widthBeats (w : Nat) : Nat := if w = 3 then 1 else if w = 2 then 2 else 4

/-- Slots of beat `b` after the port entered UP (R184, log 13). -/
def slotsOf (w b : Nat) : Nat := 3 * (b + 1) / widthBeats w - 3 * b / widthBeats w

/-- The beat, from the port's entry of UP, of slot `k`. -/
def slotBeat (w k : Nat) : Nat := ceilDiv (widthBeats w * (k + 1)) 3 - 1

/-- Frames are sent and received in UP and DRAIN (R217). -/
def Port.carries (t : Port) : Bool := t.state == 7 || t.state == 8

/-- From ALIGN to MEASURE, frames carry training messages (R212). -/
def Port.training (t : Port) : Bool := 3 ≤ t.state && t.state ≤ 6

/-! Events -/

/-- LNK_STATUS.REASON takes a code of Table 7.11 (Table 7.15). -/
def State.linkReason (s : State) (reason p : Nat) : State :=
  if reason = 0x0727 then s else s.modPort p (fun t => { t with reason := reason })

/-- An event of Table 7.11 for port `p` (R221); a failed identity and an unverified frame are also alarm sources (Table 14.5). -/
def State.linkEvent (s : State) (reason p low : Nat) : State :=
  let s := (s.linkReason reason p).raise reason 1 p low
  if reason = 0x0501 then s.alarm1 0 reason else if reason = 0x0503 then s.alarm1 2 reason else s

/-- At most one event in a second (R221). -/
def tooSoon (last : Option Nat) (now : Nat) : Bool :=
  match last with
  | some t => now < t + quMs 1000
  | none => false

/-- 0x0502 and its alarm source (R197, Table 14.5); within the second it is only counted, in TAG_FAILURES and L1_COUNT. -/
def State.tagEvent (s : State) (p : Nat) : State :=
  if tooSoon (s.port p).lastTagEvent s.clk.wall then (s.linkReason 0x0502 p).alarmCount 1
  else ((s.modPort p (fun t => { t with lastTagEvent := some s.clk.wall })).linkEvent 0x0502 p 0).alarm1 1 0x0502

/-- 0x0726; within the second it is only counted. -/
def State.trainEvent (s : State) (p : Nat) : State :=
  if tooSoon (s.port p).lastTrainEvent s.clk.wall then
    (s.linkReason 0x0726 p).modPort p (fun t => { t with trainHeld := t.trainHeld + 1 })
  else (s.modPort p (fun t => { t with lastTrainEvent := some s.clk.wall })).linkEvent 0x0726 p 0

/-! States -/

/-- Enter a state of Table 7.9, sending its training pattern (R212, R218). -/
def State.enterState (s : State) (p st : Nat) : State :=
  let s := s.modPort p (fun t => { t with state := st, stateAt := s.clk.wall, stateBeat := s.clk.beat })
  if 1 ≤ st && st ≤ 6 then s.emit (.training p st) else s

/-- Go to BACKOFF with a reason (R212). -/
def State.backOff (s : State) (p reason : Nat) : State :=
  let long := reason / 256 = 2 || reason / 256 = 5 || reason = 0x0722 || reason = 0x0723
  let s := (s.enterState p 10).modPort p (fun t => { t with
    reason := reason, backoff := s.clk.wall + (if long then quMs 100 else quMs 1) })
  if reason = 0x0726 then s.trainEvent p else s.linkEvent reason p 0

/-- Erase a port's keys (R193). -/
def Port.eraseKeys (t : Port) : Port :=
  { t with keyed := false, z := 0#256, ephKey := 0#256, txKey := 0#256, rxKey := 0#256 }

/-! Bypass cells (R209, Table 7.7) -/

/-- Queue a bypass cell from beat `elig` on; a port that holds nothing, or was never up, discards it (R219). Its STAMP is filled
in when its first half takes a frame. -/
def State.sendBypass (s : State) (p elig type : Nat) (body : BitVec 192) : State :=
  let t := s.port p
  if t.holdsNone || !(t.carries || t.grace != none) then s
  else
    let job := match s.hearth.running with
      | some x => if (s.ctx x).job = 1 then x else 0
      | none => 0
    let cell : BitVec 256 := BitVec.ofNat 256 (type * 2 ^ 248 + s.nodeId * 2 ^ 236 + job % 16 * 2 ^ 232 + body.toNat)
    s.modPort p (fun t => { t with bypTx := insertBy (fun x => x.1) (elig, cell) t.bypTx })

def bypType (c : BitVec 256) : Nat := fld c 255 248
def bypSrc (c : BitVec 256) : Nat := fld c 247 236
def bypCtx (c : BitVec 256) : Nat := fld c 235 232
def bypStamp (c : BitVec 256) : Nat := fld c 231 192
def bypBody (c : BitVec 256) : BitVec 192 := c.extractLsb' 0 192

/-- Take the first received bypass cell of a type that is in hand since `lag` beats. -/
def State.takeBypass (s : State) (p type lag : Nat) : Option (BypRx × State) :=
  match (s.port p).bypRx.find? (fun x => bypType x.cell == type && x.rel + lag ≤ s.clk.beat) with
  | some x => some (x, s.modPort p (fun t => { t with bypRx := t.bypRx.erase x }))
  | none => none

/-! Certificates (R214, R373) -/

/-- The digest that a certificate signs is signed by `key`. -/
def certSigned (key : BitVec 512) (c : Cert) : Bool := ecdsaVerify key c.tbs.toNat c.sig

/-- A chain from its leaf: each certificate is signed by the next, the last by the root. -/
def chainSigned (root : BitVec 512) : List Cert → Bool
  | [] => false
  | [c] => certSigned root c
  | c :: d :: rest => certSigned d.key c && chainSigned root (d :: rest)

/-- A device certificate and its intermediate lead to the manufacturing root, whose key has the digest that the ROM holds (R373, log 18). -/
def State.chainRooted (s : State) (chain : List Cert) : Bool :=
  sha256 (beBytes 64 s.flash.rootKey.toNat) == Config.rootDigest.toNat && chain.length == 2 && chainSigned s.flash.rootKey chain

/-- A rack switch's chain leads to a switch root. -/
def switchRooted (chain : List Cert) : Bool := Config.switchRoots.any (fun k => chainSigned k chain)

/-! Keys -/

/-- The key of a direction (R193): the sender's node and port, the direction's session id. -/
def linkKey (z : BitVec 256) (salt : BitVec 64) (node port : Nat) (sid : W32) : BitVec 256 :=
  BitVec.ofNat 256 (hkdf (leBytes 8 salt.toNat) (beBytes 32 z.toNat)
    (ascii "CLSK" ++ leBytes 2 node ++ leBytes 1 port ++ leBytes 4 sid.toNat))

/-- The port number by which the partner names itself: the opposite port of a mesh axis, else the port of its message. -/
def State.txKeyOf (s : State) (p : Nat) (sid : W32) : BitVec 256 := linkKey (s.port p).z (s.port p).salt s.nodeId p sid
def State.rxKeyOf (s : State) (p : Nat) (sid : W32) : BitVec 256 :=
  linkKey (s.port p).z (s.port p).salt (s.port p).partNode (s.port p).partPort sid

/-! Flush and link down -/

/-- A fresh INSTANCE (R220). -/
def State.newInstance (s : State) (p : Nat) : State :=
  let (r, s) := s.draw
  s.modPort p (fun t => { t with inst := r.truncate 32 })

/-- A pending frame is unverified (R197): an event, and the running job stops with that reason. -/
def State.unverified (s : State) (p : Nat) : State := (s.linkEvent 0x0503 p 0).endJob 0x0503

/-- Accepted cells that a flush leaves to be released (R219): those that are no duplicates, in release order. -/
def keepAccepted : List RxCell → Nat → List Nat → List RxCell
  | [], _, _ => []
  | r :: rest, cum, seen =>
    let seq := fld r.hdr 77 67
    let d := (cum + 2048 - seq) % 2048
    if !r.ok || fld r.hdr 79 78 = 3 || seen.contains seq || (1 ≤ d && d ≤ 1023 && !r.old) then keepAccepted rest cum seen
    else { r with old := true } :: keepAccepted rest cum (seq :: seen)

/-- Flush every held cell of a port and its sequence state (R174, R219, R220, R249). -/
def State.flushPort (s : State) (p : Nat) : State :=
  let t := s.port p
  let sched := (t.inbound ++ t.slip).map (fun e => e.cell) ++ (t.replay.filter (fun r => r.cell.cls == 0#2)).map (fun r => r.cell)
  let pan := (t.reqQ ++ t.rplQ).map (fun e => e.cell) ++ (t.replay.filter (fun r => r.cell.cls != 0#2)).map (fun r => r.cell)
  let byp := t.bypTx.length + b2n t.bypHalf.isSome
  let any := sched.length + pan.length + byp
  let s := s.modPort p (fun t => { t with
    inbound := [], slip := [], reqQ := [], rplQ := [], replay := [], nextSeq := 0, ackCum := 0
    bypTx := [], bypHalf := none, bypRxHalf := none, bypRx := [], outst := [], credit := 0
    frame := [], frameByp := 0, rx := keepAccepted t.rx t.rxCum t.rxMarks, rxCum := 0, rxMarks := [], expect := 0, noFail := true
    resSched := 0, resReq := 0, resRpl := 0, pend := [], idleAt := [], lastAcked := 0
    held := false, xoffReqRx := false, xoffRplRx := false
    grace := none, holdsNone := true, flushedW1 := true, sent := [] })
  let s := (s.w1Mark 3 (0x200 * p + 0x008) 24).newInstance p
  let s := s.bumpPort p 0x0F8 (pan.length + byp)
  let s := sched.foldl (fun s c => s.flushSched p c) s
  let s := pan.foldl (fun s c => s.answerLost c 4) s
  let s := if any = 0 then s else if sched.isEmpty then s.linkEvent 0x0704 p 0 else s.linkReason 0x0704 p
  if t.pend.isEmpty then s else s.unverified p

/-- The link goes down (R218, R219): `cause` for LNK_STATUS, `sig` whether every lane of its group still has signal, `now`
whether it flushes without a grace period. Otherwise it enters GRACE, from which the next beat takes it to its training. -/
def State.linkDown (s : State) (p cause : Nat) (sig now : Bool) : State :=
  if !(s.port p).carries then s
  else
    let s := s.modPort p (fun t => { t.eraseKeys with
      frame := [], frameByp := 0, bypHalf := none, bypRxHalf := none, idleAt := [], trainTx := [], rxWait := []
      rtReq := false, rtAck := false, graceTo := if sig then 3 else 1
      grace := if t.grace = none then some (s.clk.wall + quUs (fld t.ctl 16 0)) else t.grace })
    let s := (s.bumpPort p 0x0E8 1).linkEvent 0x0720 p 0
    (if now then (s.enterState p (if sig then 3 else 1)).flushPort p else s.enterState p 9).linkReason cause p

/-- The link goes down at once without a grace period (R197); where it is down already, what it still holds is flushed. -/
def State.downNow (s : State) (p cause : Nat) : State :=
  if (s.port p).carries then s.linkDown p cause true true
  else if (s.port p).grace.isSome then (s.flushPort p).linkReason cause p
  else s

/-- GRACE is left for ALIGN or DETECT in the beat after it is entered (R219). -/
def State.graceEnds (s : State) (p : Nat) : State :=
  let t := s.port p
  if t.state = 9 && t.stateBeat < s.clk.beat then s.enterState p t.graceTo else s

/-! The neighbour check (R228) -/

/-- The partner stands where R223 places it, in the same hall. -/
def State.neighbourOk (s : State) (p : Nat) : Bool :=
  let t := s.port p
  let e := s.nodeEntry t.partNode
  match s.neighbour p with
  | some x => bitOf e 15 && nodeXyz e == x && t.partHall == s.hallId
  | none => false

/-- Check a mesh port that is up; on a mismatch it is excluded, with an event. -/
def State.checkNeighbour (s : State) (p : Nat) : State :=
  if 6 ≤ p || !(s.port p).carries then s
  else if s.neighbourOk p then s.modPort p (fun t => { t with excluded := false })
  else
    let t := s.port p
    (s.modPort p (fun t => { t with excluded := true })).linkEvent 0x0727 p
      (t.partNode * 2 ^ 36 + t.partHall * 2 ^ 32 + t.partPort * 2 ^ 28)

/-- LNK_PAN_CTL.PAN_CAP. -/
def Port.panCap (t : Port) : Nat := fld t.panCtl 27 23

end Sys2Proof.Machine
end

