-- ==== Sys2Proof/Machine/LinkTx.lean ====
section
/-! DEFINITION. The transmit side of a port: slots (R162, R188, R189, R198 to R204, R207), frames (R185, R187, R190 to R192),
timers (R200, R202), rekeying (R194), bypass credits (R210, R211), beacons and FBC cells are queued elsewhere. -/

namespace Sys2Proof.Machine

/-! Headers and slots -/

/-- The selective acknowledgement bitmap (R199). -/
def Port.sack (t : Port) : Nat :=
  ((List.range 16).map (fun j => if t.rxMarks.contains ((t.rxCum + 1 + j) % 2048) then 2 ^ j else 0)).sum

/-- A cell header (Table 7.4); a null cell carries no acknowledgement. -/
def Port.header (t : Port) (cls : BitVec 2) (seq : Nat) (form : BitVec 40) (null : Bool) : BitVec 80 :=
  let ack := if null then 0 else t.rxCum * 2 ^ 56 + t.sack * 2 ^ 40
  BitVec.ofNat 80 (cls.toNat * 2 ^ 78 + seq % 2048 * 2 ^ 67 + ack + form.toNat)

/-- Slot bytes 0 to 73: header and payload. -/
def slotWord (h : BitVec 80) (payload : BitVec 512) : BitVec 592 := BitVec.ofNat 592 (h.toNat + payload.toNat * 2 ^ 80)

def Port.nullSlot (t : Port) : BitVec 592 := slotWord (t.header 3#2 0 0#40 true) 0#512
def Port.idleSlot (t : Port) : BitVec 592 :=
  slotWord (t.header 3#2 0 (BitVec.ofNat 40 (1 * 2 ^ 36 + t.nextSeq * 2 ^ 25)) false) 0#512

/-- A cell other than a null takes a slot of beat `b`: it carries the acknowledgement (R200). -/
def Port.ackSent (t : Port) (b : Nat) : Port :=
  { t with lastAcked := t.rxCum, lastNonNull := b, idleAt := t.idleAt.filter (fun x => b < x) }

/-- Slip map bin of an added slip (R181). -/
def slipBin (x : Nat) : Nat := if x = 0 then 0 else min (log2Nat x + 1) 15

/-- Record a scheduled cell's added slip (R163). -/
def SlipMap.record (m : SlipMap) (x : Nat) : SlipMap :=
  { m with
    hist := m.hist.upd 0 (slipBin x) (fun n => sat32 (n + 1))
    sum := min (m.sum + x) (2 ^ 40 - 1)
    max := Nat.max m.max (min x (2 ^ 24 - 1))
    cells := sat32 (m.cells + 1) }

/-- A first transmission takes the next sequence number and a place in the replay buffer (R198, R202). -/
def Port.firstTx (t : Port) (b : Nat) (c : Cell) : Port × BitVec 592 :=
  let w := slotWord (t.header c.cls t.nextSeq c.form false) c.payload
  ({ t.ackSent b with
      nextSeq := (t.nextSeq + 1) % 2048
      timerBase := if t.replay.isEmpty then b else t.timerBase
      replay := t.replay ++ [⟨t.nextSeq, c, b, 1, none⟩] }, w)

/-- The order of scheduled cells at a port (R162). -/
def schedKey (e : TxEntry) : Nat := e.dep * 2 ^ 36 + e.cell.route * 2 ^ 20 + e.cell.cidx

/-- Cells that have reached the port move into the slip buffer while it has room (R169). -/
def Port.fillSlip (t : Port) (b : Nat) : Nat → Port
  | 0 => t
  | n + 1 =>
    if 64 ≤ t.slip.length then t
    else match (t.inbound.filter (fun e => e.elig ≤ b)) with
      | [] => t
      | e :: es =>
        let m := es.foldl (fun m x => if schedKey x < schedKey m then x else m) e
        { t with inbound := t.inbound.erase m, slip := insertBy schedKey m t.slip }.fillSlip b n

/-- What takes a slot of a port: the port after it, the slot's bytes 0 to 73, whether it is a retransmission. -/
structure Slot where
  port : Port
  word : BitVec 592
  retx : Bool
  deriving DecidableEq, Repr

/-- A first transmission may be made: up, not excluded, room in the replay buffer (R204, R217, R228). -/
def Port.mayFirst (t : Port) : Bool := t.state == 7 && !t.excluded && t.replay.length < 1024

/-- A Pantry network's waiting cell may take a slot (R207). -/
def Port.panReady (t : Port) (b : Nat) (q : List TxEntry) (xoff : Bool) (sent : Nat) : Option TxEntry :=
  if xoff || t.panCap ≤ sent then none else q.find? (fun e => e.elig ≤ b)

/-- What takes a slot of beat `b` (Table 1.5); no first transmission is made while crossings are being aligned (R329). -/
def Port.pick (t : Port) (b : Nat) (may : Bool) : Slot :=
  match t.replay.find? (fun r => match r.marked with
    | some m => m ≤ b
    | none => false) with
  | some r =>
    let w := slotWord (t.header r.cell.cls r.seq r.cell.form false) r.cell.payload
    let t := t.ackSent b
    ⟨{ t with replay := t.replay.map (fun x => if x.seq = r.seq then { x with last := b, count := x.count + 1, marked := none } else x) },
      w, true⟩
  | none =>
    let first : Option Slot :=
      if !(may && t.mayFirst) then none
      else match (if t.held then none else t.slip.head?) with
        | some e =>
          let r := { t with slip := t.slip.drop 1, lastFirst := b, map := t.map.record (b - e.base) }.firstTx b e.cell
          some ⟨r.1, r.2, false⟩
        | none => match t.panReady b t.rplQ t.xoffRplRx t.frameRpl with
          | some e =>
            let r := { t with rplQ := t.rplQ.erase e, frameRpl := t.frameRpl + 1 }.firstTx b e.cell
            some ⟨r.1, r.2, false⟩
          | none => match t.panReady b t.reqQ t.xoffReqRx t.frameReq with
            | some e =>
              let r := { t with reqQ := t.reqQ.erase e, frameReq := t.frameReq + 1 }.firstTx b e.cell
              some ⟨r.1, r.2, false⟩
            | none => none
    match first with
    | some x => x
    | none =>
      if t.idleAt.any (fun x => x ≤ b) then ⟨t.ackSent b, t.idleSlot, false⟩ else ⟨t, t.nullSlot, false⟩

/-! Frames -/

/-- Slot 0 of a frame fixes its FBC_STAMP and takes a bypass half: the second of a cell under way, else the first of the next
that is in hand while a credit is held (R187, R209, R210). An FBC cell carries the RBC of this beat (R337), a beacon is recorded
with it (R408). -/
def State.frameStart (s : State) (p : Nat) : State :=
  let t := s.port p
  let stamp := s.clk.fbc.toNat
  let t := { t with frameFbc := BitVec.ofNat 32 stamp, frameByp := 0, frameHalf := 0#128, frameReq := 0, frameRpl := 0 }
  match t.bypHalf, t.bypTx with
  | some h, _ => s.setPort p { t with bypHalf := none, frameByp := 2, frameHalf := h }
  | none, (e, c) :: rest =>
    if e ≤ s.clk.beat && t.outst.length < t.window then
      let c := putFld c 231 192 stamp
      let c := if fld c 255 248 = 5 then putFld (putFld c 191 128 (s.clk.rbcHalf.toNat / 2)) 103 103 s.clk.rbcHalf.toNat else c
      let s := if fld c 255 248 = 3 then s.trace 5 (112 + p) 0 0xB t.partNode 0 (fld c 191 160) else s
      s.setPort p { t with
        bypTx := rest, outst := t.outst ++ [s.clk.beat], frameByp := 1
        frameHalf := c.truncate 128, bypHalf := some (c.extractLsb' 128 128) }
    else s.setPort p t
  | none, [] => s.setPort p t

/-- The side band without its check (Table 7.3). -/
def Port.sideBand (t : Port) (p : Nat) : Nat :=
  t.txCtr % 256 * 2 ^ 45 + t.frameFbc.toNat * 2 ^ 13 + min t.credit 8 * 2 ^ 9 + t.frameByp * 2 ^ 7 + t.reqWidth % 4 * 2 ^ 5
    + b2n t.rtAck * 2 ^ 4 + b2n t.rtReq * 2 ^ 3 + b2n (p != 6 && t.xoffRplTx) * 2 ^ 2 + b2n (p != 7 && t.xoffReqTx) * 2
    + b2n (p < 6 && t.holding)

/-- The initialisation vector of R192. -/
def frameIv (sid : W32) (ctr : Nat) : List Byte := leBytes 4 sid.toNat ++ leBytes 8 ctr

/-- The codeword of a frame (R186, R190): 16 parity symbols behind the bits of bytes 0 to 1,259. -/
def frameEncode (body : Nat) : BitVec 10240 :=
  let syms := (List.range 1007).map (fun k => nfld body (10 * k + 19) (10 * k + 10))
  BitVec.ofNat 10240 (body + packBits 10 (rsParity syms) * 2 ^ 10080)

/-- Lanes of a width (Table 7.1). -/
def laneCount (w : Nat) : Nat := 2 ^ (w + 1)

/-- What each lane of the group carries of a frame (R186): symbol k on lane k mod W, symbols in increasing k; a lane's interval i is bits
[2i+1:2i] of its word. -/
def laneSplit (w : Nat) (bits : BitVec 10240) : List (BitVec 2560) :=
  (List.range (laneCount w)).map (fun i => BitVec.ofNat 2560 (packBits 10 ((List.range (1024 / laneCount w)).map (fun m =>
    nfld bits.toNat (10 * (laneCount w * m + i) + 9) (10 * (laneCount w * m + i))))))

/-- The frame that the lanes of a group bring. -/
def laneJoin (w : Nat) (lanes : List (BitVec 2560)) : BitVec 10240 :=
  BitVec.ofNat 10240 (packBits 10 ((List.range 1024).map (fun k =>
    nfld (lanes.getD (k % laneCount w) 0#2560).toNat (10 * (k / laneCount w) + 9) (10 * (k / laneCount w)))))

/-- The width at which a port's frames go: WIDTH_MAX until ALIGN has chosen one (log 15). -/
def Port.frameWidth (t : Port) : Nat := if t.state = 3 then fld t.ctl 28 27 else t.width

/-- Seal and send the frame whose 16 slots are filled (R185, R191, R192); the sender keeps its contributions (R196). Before keys are agreed
frames go open, their tag zero (R212). A frame that has carried RT_ACK takes its sender into DRAIN (R217). -/
def State.sendFrame (s : State) (p : Nat) : State :=
  let t := s.port p
  let sb := t.sideBand p
  let aad := leBytes 9 sb
  let pt := (t.frame.flatMap (fun w => leBytes 74 w.toNat)) ++ leBytes 16 t.frameHalf.toNat
  let (ct, tag) := if t.keyed then gcmSeal t.txKey.toNat (frameIv t.txSid t.txCtr) aad pt else (pt, 0)
  let slots := (List.range 16).flatMap (fun j =>
    let x := (ct.drop (74 * j)).take 74
    x ++ leBytes 2 (crc16 x))
  let half := ct.drop 1184
  let sbcrc := crc16 (aad ++ half)
  let body := 0x2D3 + sb * 2 ^ 10 + sbcrc * 2 ^ 80 + leNat (slots ++ half ++ beBytes 16 tag) * 2 ^ 96
  let kept : SentFrame := ⟨t.txCtr, BitVec.ofNat 128 (aes256 t.txKey.toNat 0), BitVec.ofNat 72 sb, BitVec.ofNat 9600 (leNat ct)⟩
  let s := s.setPort p { t with
    frame := [], txCtr := t.txCtr + 1, credit := t.credit - min t.credit 8
    sent := if t.carries then (t.sent ++ [kept]).drop (t.sent.length + 1 - 1024) else t.sent }
  let s := (s.bumpPort p 0x080 1).emit (.frame p t.group (laneSplit t.frameWidth (frameEncode body)))
  if t.rtAck && t.state = 7 then s.enterState p 8 else s

/-- Derive the next key of a direction (R194). -/
def State.rekeyDir (s : State) (p : Nat) (tx : Bool) : State :=
  if tx then
    let sid := (s.port p).txSid + 1#32
    let k := s.txKeyOf p sid
    s.modPort p (fun t => { t with txSid := sid, txKey := k, txCtr := 0 })
  else
    let sid := (s.port p).rxSid + 1#32
    let k := s.rxKeyOf p sid
    s.modPort p (fun t => { t with rxSid := sid, rxKey := k, rxCtr := 0 })

/-- A direction whose counter has reached 2^40 rekeys (R194). -/
def State.rekeyDue (s : State) (p : Nat) (tx : Bool) : State :=
  let t := s.port p
  if t.keyed && 2 ^ 40 ≤ (if tx then t.txCtr else t.rxCtr) then s.rekeyDir p tx else s

/-- REKEY (R194). -/
def execRekey (p : Fin 8) (tx : Bool) (s : State) : Result := .next (s.rekeyDue p.val tx)

/-- Fill one slot. -/
def State.fillSlot (s : State) (p : Nat) : State :=
  let s := if (s.port p).frame.isEmpty then s.frameStart p else s
  let b := s.clk.beat
  let x := ((s.port p).fillSlip b 64).pick b s.clk.aligned
  let s := s.setPort p { x.port with frame := x.port.frame ++ [x.word] }
  let s := if x.retx then s.bumpPort p 0x0A8 1 else s
  if 16 ≤ (s.port p).frame.length then (s.rekeyDue p true).sendFrame p else s

/-- A link-control cell of KIND 2 (R189, Table 7.5). -/
def trainSlot (payload : BitVec 512) : BitVec 592 := slotWord (BitVec.ofNat 80 (3 * 2 ^ 78 + 2 * 2 ^ 36)) payload

/-- What takes a slot of a training port (R212): the next fragment of its message; in ALIGN its lanes and width, in MEASURE one echo or
return in the first slot of a frame (R215). -/
def Port.trainPick (t : Port) : Port × BitVec 592 :=
  if t.state = 6 && !t.frame.isEmpty then (t, t.nullSlot)
  else match t.trainTx with
    | x :: rest => ({ t with trainTx := rest }, trainSlot x)
    | [] => (t, if t.state = 3 then trainSlot (Config.trainMsg 1 t.lanesOk.toNat t.reqWidth) else t.nullSlot)

/-- Fill one slot of a training port. -/
def State.fillTraining (s : State) (p : Nat) : State :=
  let s := if (s.port p).frame.isEmpty then s.modPort p (fun t => { t with
      frameFbc := BitVec.ofNat 32 s.clk.fbc.toNat, frameByp := 0, frameHalf := 0#128 }) else s
  let x := (s.port p).trainPick
  let s := s.setPort p { x.1 with frame := x.1.frame ++ [x.2] }
  if 16 ≤ (s.port p).frame.length then s.sendFrame p else s

/-- A message as the payloads of consecutive slots, the last filled with zeros (R212, log 15). -/
def fragments (bs : List Byte) : List (BitVec 512) :=
  (List.range (ceilDiv bs.length 64)).map (fun i => BitVec.ofNat 512 (leNat ((bs.drop (64 * i)).take 64)))

/-- Queue a training message. -/
def State.sendTraining (s : State) (p : Nat) (cells : List (BitVec 512)) : State :=
  s.modPort p (fun t => { t with trainTx := t.trainTx ++ cells })

/-- A Pantry or scheduled cell waits for a slot. -/
def Port.waiting (t : Port) (b : Nat) : Bool :=
  !t.slip.isEmpty || t.rplQ.any (fun e => e.elig ≤ b) || t.reqQ.any (fun e => e.elig ≤ b)

/-- Counts of beats in which first transmissions are held back (Tables 6.13, 7.20). -/
def State.countHeld (s : State) (p : Nat) : State :=
  let t := s.port p
  let b := s.clk.beat
  let s := if t.held then s.modMap p (fun m => { m with holdBeats := sat32 (m.holdBeats + 1) }) else s
  let s := if 1024 ≤ t.replay.length && t.waiting b then s.bumpPort p 0x0C0 1 else s
  if (t.xoffRplRx && t.rplQ.any (fun e => e.elig ≤ b)) || (t.xoffReqRx && t.reqQ.any (fun e => e.elig ≤ b)) then
    s.bumpPort p 0x0D8 1
  else s

/-- SLOT_FILL (R27, R162): port `p` fills its slots of this beat; a port without a link sends training messages (R212) and takes in what
reaches it. -/
def execSlotFill (p : Fin 8) (s : State) : Result :=
  let q := p.val
  let t := s.port q
  let b := s.clk.beat
  .next (if !t.carries then
      let s := if t.training && s.clk.linkRun then iter (slotsOf t.frameWidth b) s (fun _ s => s.fillTraining q) else s
      (s.modPort q (fun t => t.fillSlip b 64)).pressures q
    else
      let s := s.countHeld q
      let s := iter (slotsOf t.width (b - t.upBeat)) s (fun _ s => s.fillSlot q)
      (s.modPort q (fun t => t.fillSlip b 64)).pressures q)

/-! Timers -/

/-- CUM has advanced by ACK_BATCH since the last acknowledgement: an idle cell is due two beats after this one (R200). -/
def Port.batchDue (t : Port) (b : Nat) : Port :=
  if fld t.ctl 24 17 ≤ (t.rxCum + 2048 - t.lastAcked) % 2048 && t.carries && !t.idleAt.contains (b + 2) then
    { t with idleAt := t.idleAt ++ [b + 2] }
  else t

/-- IDLE_CELL_TIMER (R200): 512 beats after the last cell other than a null, an idle cell is due. -/
def execIdleCellTimer (p : Fin 8) (s : State) : Result :=
  .next (s.modPort p.val (fun t =>
    let d := t.lastNonNull + 512
    if t.carries && d ≤ s.clk.beat && !t.idleAt.contains d then { t with idleAt := t.idleAt ++ [d] } else t))

/-- Mark a cell for retransmission from beat `e`; one sent 16 times takes the link down (R203). -/
def State.markReplay (s : State) (p seq e : Nat) : State :=
  match (s.port p).replay.find? (fun r => r.seq == seq) with
  | none => s
  | some r =>
    if r.marked.isSome then s
    else if 16 ≤ r.count then (s.linkEvent 0x0725 p 0).linkDown p 0x0725 true false
    else s.modPort p (fun t => { t with replay := t.replay.map (fun x => if x.seq = seq then { x with marked := some e } else x) })

/-- REPLAY_TIMER_EXPIRY (R202): 1,024 beats without progress mark the oldest cell. -/
def execReplayTimerExpiry (p : Fin 8) (s : State) : Result :=
  let t := s.port p.val
  let b := s.clk.beat
  .next (match t.replay with
    | [] => s
    | r :: _ =>
      if !t.carries || b < t.timerBase + 1024 then s
      else ((s.modPort p.val (fun t => { t with timerBase := b })).bumpPort p.val 0x0B0 1).markReplay p.val r.seq (b + 2))

/-- BYPASS_CREDIT_TIMEOUT (R211): a credit 4,096 beats old is written off; at a window of 2 a retrain is asked for. -/
def execBypassCreditTimeout (p : Fin 8) (s : State) : Result :=
  let t := s.port p.val
  .next (match t.outst with
    | [] => s
    | x :: rest =>
      if s.clk.beat < x + 4096 || t.window ≤ 2 then s
      else
        let w := t.window - 1
        let s := (s.modPort p.val (fun t => { t with outst := rest, window := w })).bumpPort p.val 0x0E0 1
        if w = 2 then (s.linkEvent 0x0724 p.val 0).modPort p.val (fun t => { t with retrain := true }) else s)

end Sys2Proof.Machine
end

