-- ==== Sys2Proof/Machine/LinkRx.lean ====
section
/-! DEFINITION. The receive side of a port: frames (R187, R190, R192, R195, R209, R210), pending frames and their repair (R196,
R197), releases, acknowledgements and reservations (R198 to R203, R206). -/

namespace Sys2Proof.Machine

/-! Parts of a frame -/

/-- Ciphertext bytes of the parts named by a mask (0 to 15 the slots, 16 the bypass half), zeros elsewhere. -/
def maskParts (mask : BitVec 18) (ct : List Byte) : List Byte :=
  (withIx ct).map (fun p => if bitOf mask (min (p.1 / 74) 16) then p.2 else 0#8)

/-- The GHASH contribution of the parts named by a mask (part 17 the AAD), with the length block or without (R195, R196). -/
def partHash (h : Nat) (mask : BitVec 18) (aad ct : List Byte) (len : Bool) : Nat :=
  ghash h (blocks16 (if bitOf mask 17 then aad else List.replicate 9 0#8) ++ blocks16 (maskParts mask ct)
    ++ [if len then 8 * 9 * 2 ^ 64 + 8 * 1200 else 0])

/-- REPAIR_REQ body (Table 7.8). -/
def repairBody (fctr : Nat) (mask : BitVec 18) (d : Nat) : BitVec 192 :=
  BitVec.ofNat 192 (fctr % 2 ^ 40 * 2 ^ 152 + mask.toNat * 2 ^ 134 + d)

/-- What a received frame holds after decoding: its bits, whether it was correctable, symbols corrected. -/
structure RxFrame where
  bits : Nat
  corr : Bool
  fixed : Nat
  deriving DecidableEq, Repr

def rxDecode (bits : BitVec 10240) : RxFrame :=
  let syms := (List.range 1023).map (fun k => nfld bits.toNat (10 * k + 19) (10 * k + 10))
  match rsDecode syms with
  | some (w, n) => ⟨nfld bits.toNat 9 0 + packBits 10 w * 2 ^ 10, true, n⟩
  | none => ⟨bits.toNat, false, 0⟩

def RxFrame.sb (f : RxFrame) : Nat := nfld f.bits 79 10
def RxFrame.aad (f : RxFrame) : List Byte := leBytes 9 f.sb
def RxFrame.slot (f : RxFrame) (j : Nat) : List Byte := leBytes 74 (nfld f.bits (96 + 608 * j + 591) (96 + 608 * j))
def RxFrame.half (f : RxFrame) : List Byte := leBytes 16 (nfld f.bits 9951 9824)
def RxFrame.tag (f : RxFrame) : Nat := beNat (leBytes 16 (nfld f.bits 10079 9952))
def RxFrame.ct (f : RxFrame) : List Byte := (List.range 16).flatMap f.slot ++ f.half
/-- Slot checks of R191 and the side-band check of Table 7.3. -/
def RxFrame.slotOk (f : RxFrame) (j : Nat) : Bool := crc16 (f.slot j) == nfld f.bits (96 + 608 * j + 607) (96 + 608 * j + 592)
def RxFrame.sbOk (f : RxFrame) : Bool := crc16 (f.aad ++ f.half) == nfld f.bits 95 80

/-! Side band -/

/-- The end with the lower node id leads where both asked (R217). -/
def State.leads (s : State) (p : Nat) : Bool := s.nodeId < (s.port p).partNode

/-- The partner's side band asks for a retrain, which this port acknowledges, or acknowledges this port's request: DRAIN (R217). -/
def State.retrainBits (s : State) (p : Nat) (sb : Nat) : State :=
  let t := s.port p
  let req := sb.testBit 3
  let ack := sb.testBit 4
  if t.state != 7 then s
  else if t.rtReq && ack then
    (s.modPort p (fun t => { t with partWidth := nfld sb 6 5, drainLead := true })).enterState p 8
  else if req && !(t.rtReq && s.leads p) then
    s.modPort p (fun t => { t with partWidth := nfld sb 6 5, rtAck := true, rtReq := false, retrain := false })
  else s

/-- The live beat-count offset of a mesh port (R340). -/
def State.portOffset (s : State) (p sb : Nat) : State :=
  if 6 ≤ p then s
  else s.modTim (fun t => { t with
    portOff := t.portOff.set 0#32 p (BitVec.ofNat 32 s.clk.fbc.toNat - BitVec.ofNat 32 (s.port p).hop - BitVec.ofNat 32 (nfld sb 44 13)) })

/-- Accept a side band (R170, R187, R207, R210, R217). -/
def State.acceptSb (s : State) (p : Nat) (sb : Nat) : State :=
  let t := s.port p
  let hold := p < 6 && sb.testBit 0
  let ret := nfld sb 12 9
  let excess := ret - t.outst.length
  let s := s.portOffset p sb
  let s := s.modPort p (fun t => { t with
    lastSb := BitVec.ofNat 70 sb
    held := hold
    heldAt := if hold && !t.held then s.clk.beat else t.heldAt
    xoffAt := if (sb.testBit 1 || sb.testBit 2) && !(t.xoffReqRx || t.xoffRplRx) then s.clk.beat else t.xoffAt
    xoffReqRx := sb.testBit 1
    xoffRplRx := sb.testBit 2
    outst := t.outst.drop ret
    map := if hold && !t.held then { t.map with holdRx := min (t.map.holdRx + 1) 0xFFFF } else t.map })
  (if excess = 0 then s else s.bumpPort p 0x0E0 excess).retrainBits p sb

/-- Accept a bypass half (R209): a pair of halves of consecutive frames is a cell; its entry's credit goes back (R210). A cell of a reserved
type is discarded and counted (Table 7.7). -/
def State.acceptHalf (s : State) (p kind : Nat) (half : BitVec 128) (ok : Bool) : State :=
  let t := s.port p
  match kind, t.bypRxHalf with
  | 1, _ => s.modPort p (fun t => { t with bypRxHalf := some ⟨s.clk.beat, s.clk.fbc, s.clk.rbcHalf, half.zeroExtend 256, ok⟩ })
  | 2, some x =>
    let cell : BitVec 256 := half ++ (x.cell.truncate 128 : BitVec 128)
    let s := s.modPort p (fun t => { t with bypRxHalf := none, credit := t.credit + 1 })
    let known := 1 ≤ bypType cell && bypType cell ≤ 7
    s.modPort p (fun t =>
      if known then { t with bypRx := t.bypRx ++ [{ x with cell := cell, ok := ok && x.ok }] } else { t with bypBad := t.bypBad + 1 })
  | _, _ => s.modPort p (fun t => { t with bypRxHalf := none })

/-! Frames -/

/-- Hold the slots of a frame, the `n`-th since the port entered UP, until their release beats (R161, R195). -/
def State.holdSlots (s : State) (p n : Nat) (w : Nat) (ok : Nat → Bool) (text : Nat → Nat) : State :=
  let b0 := slotBeat w (16 * n)
  let cells : List RxCell := (List.range 16).map (fun j =>
    ⟨ok j, false, s.clk.beat + (slotBeat w (16 * n + j) - b0), BitVec.ofNat 80 (text j), BitVec.ofNat 512 (text j / 2 ^ 80)⟩)
  let failed := ((List.range 16).filter (fun j => !ok j)).length
  (s.modPort p (fun t => { t with rx := t.rx ++ cells })).bumpPort p 0x0A0 failed

/-- Every slot of a frame fails; side band and bypass half are discarded. -/
def State.failFrame (s : State) (p n w : Nat) : State :=
  (s.holdSlots p n w (fun _ => false) (fun _ => 0)).modPort p (fun t => { t with bypRxHalf := none })

/-- A correctable frame's tag fails (R195): the fourth within 1 s takes the link down (R197). -/
def State.tagFailure (s : State) (p : Nat) : State :=
  let w := s.clk.wall
  let l := ((s.port p).tagFails.filter (fun x => w < x + quMs 1000)) ++ [w]
  let s := ((s.modPort p (fun t => { t with tagFails := l })).bumpPort p 0x0C8 1).tagEvent p
  if 4 ≤ l.length then ((s.modPort p (fun t => { t with tagFails := [] })).linkEvent 0x0503 p 0).downNow p 0x0503 else s

/-- The frame counter's low bits against the receiver's count (R187): four misses in a row take the link down. -/
def State.checkSync (s : State) (p f sb : Nat) : State :=
  if nfld sb 52 45 = f % 256 then s.modPort p (fun t => { t with fcMiss := 0 })
  else
    let n := (s.port p).fcMiss + 1
    let s := s.modPort p (fun t => { t with fcMiss := n })
    if 4 ≤ n then s.linkDown p 0x0720 true false else s

/-- Ask the sender for the contribution of the failed parts (R196). -/
def State.askRepair (s : State) (p f : Nat) (mask : BitVec 18) : State :=
  s.sendBypass p s.clk.beat 0x06 (repairBody f mask 0)

/-- A frame whose slot 0 is released in this beat (R195). -/
def State.takeFrame (s : State) (q : Nat) (bits : BitVec 10240) : State :=
    if !(s.port q).carries then s
    else
      let s := (s.rekeyDue q false).bumpPort q 0x088 1
      let t := s.port q
      let f := t.rxCtr
      let w := t.width
      let n := t.rxFrames
      let s := s.modPort q (fun t => { t with rxCtr := f + 1, rxFrames := n + 1 })
      let fr := rxDecode bits
      let s := s.bumpPort q 0x090 fr.fixed
      let sbok := fr.corr || fr.sbOk
      let s := if sbok then s.checkSync q f fr.sb else s
      let iv := frameIv t.rxSid f
      let ct := fr.ct
      let (pt, tag) := gcmOpen t.rxKey.toNat iv fr.aad ct
      let text (j : Nat) : Nat := leNat ((pt.drop (74 * j)).take 74)
      let half : BitVec 128 := BitVec.ofNat 128 (leNat (pt.drop 1184))
      if fr.corr then
        if tag = fr.tag then
          ((s.holdSlots q n w (fun _ => true) text).acceptHalf q (nfld fr.sb 8 7) half true).acceptSb q fr.sb
        else (s.failFrame q n w).tagFailure q
      else
        let s := s.bumpPort q 0x098 1
        let bad := (List.range 16).filter (fun j => !fr.slotOk j)
        if bad.length = 16 || 8 ≤ (s.port q).pend.length then s.failFrame q n w
        else
          let mask : BitVec 18 := BitVec.ofNat 18 ((bad.map (2 ^ ·)).sum + (if sbok then 0 else 2 ^ 16 + 2 ^ 17))
          let h := aes256 t.rxKey.toNat 0
          let e : PendFrame := ⟨f, BitVec.ofNat 128 fr.tag, BitVec.ofNat 128 (aes256 t.rxKey.toNat (beNat iv * 2 ^ 32 + 1)),
            BitVec.ofNat 128 (partHash h (~~~mask) fr.aad ct true), mask, s.clk.beat, 1⟩
          let s := (s.holdSlots q n w (fun j => !bad.contains j) text).modPort q (fun t => { t with pend := t.pend ++ [e] })
          let s := s.askRepair q f mask
          if sbok then (s.acceptHalf q (nfld fr.sb 8 7) half false).acceptSb q fr.sb
          else s.modPort q (fun t => { t with bypRxHalf := none })

/-- An echo frame is returned (R215). -/
def State.echo (s : State) (q : Nat) (payload : BitVec 512) : State :=
  match (List.range 64).find? (fun i => payload == Config.trainMsg 2 i 0) with
  | some i => s.sendTraining q [Config.trainMsg 3 i 0]
  | none => s

/-- A frame in training (R212): open before keys are agreed, sealed in MEASURE. Its cells of KIND 2 are accepted (R189): what they spell comes
as the message's own command, and an echo is returned. -/
def State.takeTraining (s : State) (q : Nat) (bits : BitVec 10240) : State :=
  let t := s.port q
  let s := (s.bumpPort q 0x088 1).modPort q (fun t => { t with rxCtr := t.rxCtr + 1 })
  let fr := rxDecode bits
  let s := s.bumpPort q 0x090 fr.fixed
  if !fr.corr then s.bumpPort q 0x098 1
  else
    let (pt, tag) := if t.keyed then gcmOpen t.rxKey.toNat (frameIv t.rxSid t.rxCtr) fr.aad fr.ct else (fr.ct, 0)
    if tag ≠ fr.tag || t.state ≠ 6 then s
    else (List.range 16).foldl (fun (s : State) j =>
      let w := leNat ((pt.drop (74 * j)).take 74)
      if nfld w 79 78 = 3 && nfld w 39 36 = 2 then s.echo q (BitVec.ofNat 512 (w / 2 ^ 80)) else s) s

/-- RX_FRAME (R186, R195): what the lanes of the active group bring in one frame, in the beat in which this end's own half round trip after
its slot beats has passed; the rest of HOP_BEATS is padding (R215, log 15). -/
def execRxFrame (p : Fin 8) (lanes : List (BitVec 2560)) (s : State) : Result :=
  let q := p.val
  let t := s.port q
  let bits := laneJoin t.frameWidth lanes
  .next (if t.training then s.takeTraining q bits
    else if !t.carries then s
    else if t.hop ≤ t.half && t.rxWait.isEmpty then s.takeFrame q bits
    else s.modPort q (fun t => { t with rxWait := t.rxWait ++ [(s.clk.beat + (t.hop - t.half), bits)] }))

/-- Padded frames whose release beat has come. -/
def State.paddedFrames (s : State) (q : Nat) : State :=
  ((s.port q).rxWait.filter (fun x => x.1 ≤ s.clk.beat)).foldl (fun (s : State) x =>
    (s.modPort q (fun t => { t with rxWait := t.rxWait.erase x })).takeFrame q x.2) s

/-! Repair (R196, R197) -/

/-- A pending frame that cannot be verified takes the link down and stops the job (R197). -/
def State.pendFail (s : State) (p f : Nat) : State :=
  let s := (s.modPort p (fun t => { t with pend := t.pend.filter (fun x => x.fctr != f) })).unverified p
  s.downNow p 0x0503

/-- REPAIR_REQ (R196): the sender of a frame answers with the contribution of the parts named, MASK 0 where it no longer keeps
the frame. -/
def execRepairReq (p : Fin 8) (s : State) : Result :=
  let q := p.val
  .next (match s.takeBypass q 6 0 with
    | none => s
    | some (x, s) =>
      let body := bypBody x.cell
      let f := fld body 191 152
      let mask : BitVec 18 := BitVec.ofNat 18 (fld body 151 134)
      match (s.port q).sent.reverse.find? (fun k => k.fctr % 2 ^ 40 == f) with
      | none => s.sendBypass q s.clk.beat 0x07 (repairBody f 0#18 0)
      | some k =>
        let d := partHash k.h.toNat mask (leBytes 9 k.aad.toNat) (leBytes 1200 k.ct.toNat) false
        s.sendBypass q s.clk.beat 0x07 (repairBody f mask d))

/-- REPAIR_RSP (R196, R197): an answer whose own frames were verified settles the pending frame it names. -/
def execRepairRsp (p : Fin 8) (s : State) : Result :=
  let q := p.val
  .next (match s.takeBypass q 7 0 with
    | none => s
    | some (x, s) =>
      let body := bypBody x.cell
      let f := fld body 191 152
      match (s.port q).pend.find? (fun e => e.fctr % 2 ^ 40 == f) with
      | none => s
      | some e =>
        if !x.ok then s
        else
          let m := fld body 151 134
          let d : BitVec 128 := BitVec.ofNat 128 (fld body 127 0)
          if m = e.mask.toNat && m != 0 && e.tag == e.ekj0 ^^^ e.part ^^^ d then
            (s.modPort q (fun t => { t with pend := t.pend.erase e })).bumpPort q 0x0D0 1
          else s.pendFail q e.fctr)

/-- REPAIR_TIMEOUT (R196, R197): after 1,024 beats of a link that is up a request is sent again; the third unanswered leaves the frame
unverified. -/
def execRepairTimeout (p : Fin 8) (s : State) : Result :=
  let q := p.val
  .next (((s.port q).pend.filter (fun e => (s.port q).carries && e.asked + 1024 ≤ s.clk.beat)).foldl (fun s e =>
    if 3 ≤ e.tries then s.pendFail q e.fctr
    else
      (s.modPort q (fun t => { t with pend := t.pend.map (fun x =>
        if x.fctr = e.fctr then { x with asked := s.clk.beat, tries := x.tries + 1 } else x) })).askRepair q e.fctr e.mask) s)

/-! Sequence numbers, acknowledgements (R199 to R203) -/

/-- `a` precedes `b` in serial order (R199). -/
def precedes (a b : Nat) : Bool := let d := (b + 2048 - a) % 2048; 1 ≤ d && d ≤ 1023

/-- An idle cell is due from beat `e` (R200). -/
def Port.owe (t : Port) (e : Nat) : Port := if t.idleAt.contains e then t else { t with idleAt := t.idleAt ++ [e] }

/-- Apply an acknowledgement released at beat `x` (R201, R202). -/
def State.applyAck (s : State) (p : Nat) (cum sack x : Nat) : State :=
  let t := s.port p
  if precedes cum t.ackCum then s
  else
    let acked (n : Nat) : Bool :=
      precedes n cum || (List.range 16).any (fun j => sack.testBit j && (cum + 1 + j) % 2048 == n)
    let s := s.modPort p (fun t => { t with
      timerBase := if cum = t.ackCum then t.timerBase else x
      ackCum := cum
      replay := t.replay.filter (fun r => !acked r.seq) })
    let holes := if sack = 0 then [cum]
      else cum :: ((List.range (log2Nat sack)).filter (fun j => !sack.testBit j)).map (fun j => (cum + 1 + j) % 2048)
    let lag := 2 * t.hop + 2
    (((s.port p).replay.filter (fun r => holes.contains r.seq && r.last + lag ≤ x)).map (fun r => r.seq)).foldl
      (fun s n => s.markReplay p n (x + 2)) s

/-- Free every reservation where the port has no hole (R206). -/
def Port.noHole (t : Port) : Port :=
  if t.noFail && t.rxCum = t.expect then { t with resSched := 0, resReq := 0, resRpl := 0 } else t

/-- The accepted cell teaches the expected number `e` (R206); an idle cell also confirms it. -/
def Port.learn (t : Port) (e : Nat) (idle : Bool) : Port :=
  if precedes t.expect e || (idle && e == t.expect) then { t with expect := e, noFail := true }.noHole else t.noHole

/-- A slot fails: a place of every receive store is reserved, an idle cell is due (R200, R206). -/
def Port.slotFailed (t : Port) (x : Nat) : Port :=
  { t.owe (x + 2) with noFail := false, resSched := t.resSched + 1, resReq := t.resReq + 1, resRpl := t.resRpl + 1 }

/-- CUM after number CUM has come, with its marks. -/
def Port.advance (t : Port) : Nat → Port
  | 0 => t
  | n + 1 =>
    if t.rxMarks.contains t.rxCum then
      { t with rxMarks := t.rxMarks.erase t.rxCum, rxCum := (t.rxCum + 1) % 2048 }.advance n
    else t

/-- Receive a sequence number that is no duplicate, in release beat `x` (R199, R200, R206). -/
def Port.received (t : Port) (seq x : Nat) : Port :=
  let hole := precedes seq t.expect
  let t := { t with rxMarks := seq :: t.rxMarks }.advance 1024
  let t := if hole then { t with resSched := t.resSched - 1, resReq := t.resReq - 1, resRpl := t.resRpl - 1 } else t
  let t := t.learn ((seq + 1) % 2048) false
  t.batchDue x

/-- Deliver a cell to its class (R165, R238, R241). -/
def State.deliver (s : State) (p : Nat) (c : Cell) (x : Nat) : State :=
  if c.cls = 0#2 then s.receiveSched c p x
  else if p = 6 && (c.cls != 1#2 || c.dst != s.nodeId) || p = 7 && (c.cls != 2#2 || c.dst != s.nodeId) then s.bump 4 0x0A8 1
  else s.forwardPan c p x

/-- Release one slot of port `p` that is due (R189, R195, R198 to R203, R206). -/
def State.releaseCell (s : State) (p : Nat) (r : RxCell) : State :=
  let s := s.modPort p (fun t => { t with rx := t.rx.erase r })
  if r.old then (s.deliver p ⟨BitVec.ofNat 2 (fld r.hdr 79 78), BitVec.ofNat 40 (fld r.hdr 39 0), r.data⟩ r.rel).pressures p
  else if !r.ok then (s.modPort p (fun t => t.slotFailed r.rel)).pressures p
  else
    let c : Cell := ⟨BitVec.ofNat 2 (fld r.hdr 79 78), BitVec.ofNat 40 (fld r.hdr 39 0), r.data⟩
    let kind := fld r.hdr 39 36
    if c.cls = 3#2 then
      if kind = 1 then
        ((s.applyAck p (fld r.hdr 66 56) (fld r.hdr 55 40) r.rel).modPort p (fun t => t.learn (fld r.hdr 35 25) true)).pressures p
      else s
    else
      let seq := fld r.hdr 77 67
      let s := s.applyAck p (fld r.hdr 66 56) (fld r.hdr 55 40) r.rel
      let t := s.port p
      if precedes seq t.rxCum || t.rxMarks.contains seq then
        (s.modPort p (fun t => t.owe (r.rel + 2))).bumpPort p 0x0B8 1
      else ((s.modPort p (fun t => t.received seq r.rel)).deliver p c r.rel).pressures p

/-- CELL_RELEASE (R195): the first slot of port `p` whose release beat has come. -/
def execCellRelease (p : Fin 8) (s : State) : Result :=
  .next (match (s.port p.val).rx.find? (fun r => r.rel ≤ s.clk.beat) with
    | some r => s.releaseCell p.val r
    | none => s)

end Sys2Proof.Machine
end

