-- ==== Sys2Proof/Machine/LinkTrain.lean ====
section
/-! DEFINITION. Training, retrain, link down and the enable of a port (R212 to R222). -/

namespace Sys2Proof.Machine

/-! Enable (R222) -/

/-- Quarter cells per beat at a WIDTH_MAX (R171). -/
def rate4 (w : Nat) : Nat := if w = 3 then 12 else if w = 2 then 6 else 3

/-- The checks of R222, in order; 0 when they pass. -/
def Port.enableCheck (t : Port) (p : Nat) (ctl : W32) : Nat :=
  let w := fld ctl 28 27
  let g := fld ctl 16 0
  let need := rate4 w * (2 * fld t.limits 8 0 + 8)
  let hh := fld t.schedCtl 11 0
  let ph := fld t.panCtl 22 12
  if w = 0 || (w = 3 && 6 ≤ p) then 0x0406
  else if g < 10 || 100000 < g then 0x0406
  else if fld ctl 24 17 = 0 || fld t.limits 8 0 = 0 || t.panCap = 0 || 16 < t.panCap then 0x0406
  else if 2048 < ph + fld t.panCtl 11 0 || (p < 6 && 2048 < hh + fld t.schedCtl 23 12) then 0x0406
  else if p < 6 && 4 * hh < need then 0x0405
  else if 64 * ph < t.panCap * need then 0x0405
  else 0

/-- A request for a full training: the link goes down and trains from DETECT (R216, R218). -/
def State.fullTraining (s : State) (p : Nat) : State :=
  let s := s.modPort p (fun t => { t with fullTrain := false, retrain := false })
  let t := s.port p
  if t.carries then s.linkDown p 0x0720 false false
  else if t.state = 0 then s else s.enterState p 1

/-- Write LNK_CTL (R222): the answer's reason code comes with the state. -/
def State.writeLnkCtl (s : State) (p : Nat) (v : W32) : State × Nat :=
  let t := s.port p
  let was := bitOf t.ctl 31
  let reqs (s : State) : State :=
    let s := if bitOf v 30 then s.modPort p (fun t => { t with retrain := true }) else s
    if bitOf v 29 then s.fullTraining p else s
  if was then
    if bitOf v 31 then (reqs s, 0)
    else
      let s := s.modPort p (fun t => { t with ctl := putFld t.ctl 31 31 0 })
      let s := if t.carries then s.linkDown p 0x0720 false true else s.modPort p Port.eraseKeys
      let s := if t.carries || t.grace = none then s else s.flushPort p
      (s.modPort p (fun t => { t with state := 0, retrain := false, rtReq := false, rtAck := false, grace := none }), 0)
  else
    let ctl : W32 := BitVec.ofNat 32 (fld v 28 27 * 2 ^ 27 + fld v 24 0)
    let s := s.modPort p (fun t => { t with ctl := ctl })
    if !bitOf v 31 then (s, 0)
    else match t.enableCheck p ctl with
      | 0 => (reqs ((s.modPort p (fun t => { t with ctl := ctl ||| 0x80000000#32 })).enterState p 1), 0)
      | code => ((s.modPort p (fun t => { t with reason := code })).linkEvent code p 0, code)

/-- LNK_CTL_ENABLE (R222): LNK_CTL of port `p` is written with `value`. -/
def execLnkCtlEnable (p : Fin 8) (value : W32) (s : State) : Result := .next (s.writeLnkCtl p.val value).1

/-- RETRAIN (R216): a fast retrain is asked for, at the next quiet window; `width` is the width that the fabric manager requests through
Hearth, 0 for none. -/
def execRetrain (p : Fin 8) (width : Fin 4) (s : State) : Result :=
  .next (if bitOf (s.port p.val).ctl 31 then
      s.modPort p.val (fun t => { t with retrain := true, reqWidth := if width.val = 0 then t.reqWidth else width.val })
    else s)

/-- FULL_TRAIN (R218). -/
def execFullTrain (p : Fin 8) (s : State) : Result := .next (s.fullTraining p.val)

/-! Training (R212) -/

/-- SIGNAL_DETECTED (R212): DETECT to EQUALISE; a port is electrically idle while the link region is stopped (R350, R391). -/
def execSignalDetected (p : Fin 8) (s : State) : Result :=
  .next (if (s.port p.val).state = 1 && s.clk.linkRun then s.enterState p.val 2 else s)

/-- EQUALISE_DONE (R212): the lanes that completed equalisation; EQUALISE to ALIGN. -/
def execEqualiseDone (p : Fin 8) (lanes : W16) (s : State) : Result :=
  .next (if (s.port p.val).state = 2 then (s.modPort p.val (fun t => { t with lanesOk := lanes })).enterState p.val 3 else s)

/-- The lowest group of a width whose lanes are all in `ok` (Table 7.1, R215). -/
def groupOf (p : Nat) (ok : W16) (w : Nat) : Option Nat :=
  let n := 2 ^ (w + 1)
  let all := if p < 6 then 16 else 8
  if all < n then none
  else (List.range (all / n)).find? (fun g => fld ok (n * g + n - 1) (n * g) == 2 ^ n - 1)

/-- The width and lane group of R215; none where no group has all its lanes. -/
def alignChoice (p : Nat) (ok : W16) (limit : Nat) : Option (Nat × Nat) :=
  ([3, 2, 1].filter (fun w => w ≤ limit)).findSome? (fun w => (groupOf p ok w).map (fun g => (w, g)))

/-- The smallest of WIDTH_MAX and the nonzero requests (R215). -/
def Port.widthLimit (t : Port) (own partner : Nat) : Nat :=
  [own, partner].foldl (fun a x => if x = 0 then a else min a x) (fld t.ctl 28 27)

/-- The capability message of the OD-800 (R213, Table 7.10). -/
def State.capMsg (s : State) (p : Nat) : BitVec 128 :=
  let t := s.port p
  let wm := fld t.ctl 28 27
  BitVec.ofNat 128 (t.inst.toNat * 2 ^ 96 + t.lanesOk.toNat * 2 ^ 80 + (2 ^ wm - 1) * 2 ^ 76 + t.reqWidth * 2 ^ 74 + 1 * 2 ^ 66
    + 1 * 2 ^ 62 + 1 * 2 ^ 58 + 1 * 2 ^ 54 + 1 * 2 ^ 50 + 1 * 2 ^ 46 + p * 2 ^ 42 + s.hallId * 2 ^ 38 + s.nodeId * 2 ^ 26)

/-- ALIGN_DONE (R215): the partner's good lanes and requested width are known; ALIGN to CAPS, with this end's capability message
(R213). Without a whole lane group the port stays until its limit. -/
def execAlignDone (p : Fin 8) (lanes : W16) (width : Fin 4) (s : State) : Result :=
  let q := p.val
  let t := s.port q
  .next (if t.state != 3 then s
    else match alignChoice q (t.lanesOk &&& lanes) (t.widthLimit t.reqWidth width.val) with
      | none => s
      | some (w, g) =>
        let s := (s.modPort q (fun t => { t with width := w, group := g, partLanes := lanes, partWidth := width.val })).enterState q 4
        let m := s.capMsg q
        ((s.modPort q (fun t => { t with capOwn := m, trainTx := [] })).sendTraining q (fragments (leBytes 16 m.toNat))).emit (.capability q m))

/-- The first reason of R213 that applies to a partner's message; 0 where none does. -/
def State.capCheck (s : State) (p : Nat) (m : BitVec 128) : Nat :=
  let cls := fld m 49 46
  if !(fld m 53 50 ≤ 1 && 1 ≤ fld m 57 54) || !(fld m 61 58 ≤ 1 && 1 ≤ fld m 65 62) then 0x0201
  else if !bitOf m 66 then 0x0504
  else if p < 6 && (cls != 1 || fld m 45 42 != (p ^^^ 1) || fld m 37 26 = s.nodeId) then 0x0722
  else if 6 ≤ p && cls != 2 then 0x0722
  else 0

/-- CAPABILITY_MESSAGE (R213, R220): the partner's message in CAPS. A partner that has lost its link state flushes the port; then
KEYS, with a fresh ephemeral key and session id (R193, R214); without the random generator it goes on to BACKOFF (R384). -/
def execCapabilityMessage (p : Fin 8) (msg : BitVec 128) (s : State) : Result :=
  let q := p.val
  let t := s.port q
  .next (if t.state != 4 then s
    else match s.capCheck q msg with
      | 0 =>
        let inst : W32 := BitVec.ofNat 32 (fld msg 127 96)
        let s := s.modPort q (fun t => { t with
          capPart := msg, partInst := inst, protoVer := 1, cellVer := 1, suite := 1
          partClass := fld msg 49 46, partPort := fld msg 45 42, partHall := fld msg 41 38, partNode := fld msg 37 26 })
        let same := t.prevInst == BitVec.ofNat 32 (fld t.capOwn 127 96) && t.prevPart == inst
        let s := if t.trained && !t.holdsNone && !same then s.flushPort q else s
        let (a, s) := s.draw
        let (b, s) := s.draw
        let d := privOf a.toNat
        let sid : W32 := b.truncate 32
        if !s.hearth.entropyOk then (s.enterState q 5).backOff q 0x050D
        else
          let s := (s.modPort q (fun t => { t with ephKey := BitVec.ofNat 256 d, txSid := sid })).enterState q 5
          let certs := s.flash.certs.flatMap (fun c => c.der)
          (s.sendTraining q (fragments (beBytes 64 (pubOf d).toNat ++ leBytes 4 sid.toNat ++ certs))).emit (.keys q (pubOf d) sid s.flash.certs)
      | code => s.backOff q code)

/-- The digest that both ends sign (R214): capability messages, ephemeral keys and session ids, the lower node id first. -/
def keysDigest (c1 c2 : BitVec 128) (k1 k2 : BitVec 512) (s1 s2 : W32) : Nat :=
  sha256 (leBytes 16 c1.toNat ++ leBytes 16 c2.toNat ++ beBytes 64 k1.toNat ++ beBytes 64 k2.toNat ++ leBytes 4 s1.toNat
    ++ leBytes 4 s2.toNat)

/-- KEYS_MESSAGE (R193, R214): the partner's ephemeral key and session id, its certificate chain and its signature. The chain must lead to
the root whose key's digest the ROM holds; a rack switch's to a switch root of Hearth firmware. -/
def execKeysMessage (p : Fin 8) (pub : BitVec 512) (sid : W32) (chain : List Cert) (sig : BitVec 512) (s : State) : Result :=
  let q := p.val
  let t := s.port q
  .next (if t.state != 5 then s
    else
      let low := s.nodeId < t.partNode
      let mine := pubOf t.ephKey.toNat
      let dig := if low then keysDigest t.capOwn t.capPart mine pub t.txSid sid else keysDigest t.capPart t.capOwn pub mine sid t.txSid
      let own := ecdsaSign s.sloe.idKey.toNat dig
      let s := (s.sendTraining q (fragments (beBytes 64 own.toNat))).emit (.keySig q own)
      let rooted := if q < 6 then s.chainRooted chain else switchRooted chain
      let good := match chain with
        | c :: _ => rooted && ecdsaVerify c.key dig sig && pubOk (pubX pub) (pubY pub)
        | [] => false
      if !good then (s.modPort q Port.eraseKeys).backOff q 0x0501
      else
        let z : BitVec 256 := BitVec.ofNat 256 (ecdh t.ephKey.toNat pub)
        let salt : BitVec 64 := if low then t.txSid ++ sid else sid ++ t.txSid
        let s := s.modPort q (fun t => { t with z := z, salt := salt, rxSid := sid })
        let kt := s.txKeyOf q t.txSid
        let kr := s.rxKeyOf q sid
        (s.modPort q (fun t => { t with
          keyed := true, txKey := kt, rxKey := kr, txCtr := 0, rxCtr := 0
          trainTx := (List.range 64).map (fun i => Config.trainMsg 2 i 0) })).enterState q 6)

/-- Enter UP (R206, R211, R217, R220, R228): 8 credits in each direction, unacknowledged cells due again, the neighbour checked. -/
def State.enterUp (s : State) (p hop : Nat) : State :=
  let b := s.clk.beat
  let again := (s.port p).trained
  let s := s.modPort p (fun t => { t with
    hop := hop, upBeat := b + 1, rxFrames := 0, rxWait := [], trainTx := [], quietNow := false, window := 8, outst := [], credit := 0, bypRxHalf := none, bypHalf := none
    retrain := false, rtReq := false, rtAck := false, drainLead := false, reqWidth := 0, fullTrain := false
    prevInst := BitVec.ofNat 32 (fld t.capOwn 127 96), prevPart := t.partInst, trained := true, grace := none, holdsNone := false
    pend := t.pend.map (fun e => { e with asked := b }), fcMiss := 0, frame := [], frameByp := 0, lastNonNull := b, timerBase := b
    replay := t.replay.map (fun r => if r.count < 16 then { r with marked := some (b + 1) } else r) })
  let s := s.enterState p 7
  let s := if again then s.bumpPort p 0x0F0 1 else s
  (s.linkEvent 0x0721 p 0).checkNeighbour p

/-- MEASURE_DONE (R215): the longest round trip of the 64 echo frames, net of the fixed turnaround, and the partner's value. -/
def execMeasureDone (p : Fin 8) (trip partner : Nat) (s : State) : Result :=
  let q := p.val
  let half := (trip + 1) / 2
  let hop := max half partner
  let s := s.modPort q (fun t => if t.state = 6 then { t with half := half } else t)
  let t := s.port q
  .next (if t.state != 6 then s
    else if fld t.limits 8 0 < hop then (s.modPort q Port.eraseKeys).backOff q 0x0723
    else s.enterUp q hop)

/-- Limits of Table 7.9 in wall time. -/
def trainLimit : Nat → Option Nat
  | 2 => some (quMs 40)
  | 3 => some (quUs 200)
  | 4 => some (quUs 50)
  | 5 => some (quUs 500)
  | 6 => some (quUs 50)
  | _ => none

/-- TRAIN_TIMEOUT (R212): a training state has passed its limit. -/
def execTrainTimeout (p : Fin 8) (s : State) : Result :=
  let t := s.port p.val
  .next (match trainLimit t.state with
    | some l => if t.stateAt + l ≤ s.clk.wall then (s.modPort p.val Port.eraseKeys).backOff p.val 0x0726 else s
    | none => s)

/-- BACKOFF_END (R212). -/
def execBackoffEnd (p : Fin 8) (s : State) : Result :=
  let t := s.port p.val
  .next (if t.state = 10 && t.backoff ≤ s.clk.wall then s.enterState p.val 1 else s)

/-! Retrain (R216, R217) -/

/-- No job runs, the port has been without scheduled cells for 65,536 beats (R216), or a change to a faster point opens the window
(R332). -/
def State.quiet (s : State) (p : Nat) : Bool :=
  let t := s.port p
  let running := match s.hearth.running with
    | some x => (s.ctx x).job == 1
    | none => false
  !running || t.quietNow || (t.lastFirst + 65536 ≤ s.clk.beat && t.slip.isEmpty && t.replay.all (fun r => r.cell.cls != 0#2))

/-- QUIET_WINDOW (R216, R217): a waiting retrain is asked for in the side band. -/
def execQuietWindow (p : Fin 8) (s : State) : Result :=
  let t := s.port p.val
  .next (if t.state = 7 && t.retrain && s.quiet p.val then s.modPort p.val (fun t => { t with retrain := false, rtReq := true }) else s)

/-- DRAIN ends (R217): ALIGN, keys erased, cells held as in GRACE. -/
def State.drainOver (s : State) (q : Nat) : State :=
  (s.modPort q (fun t => { t.eraseKeys with
    frame := [], frameByp := 0, bypHalf := none, bypRxHalf := none, idleAt := [], trainTx := [], rxWait := []
    reqWidth := if t.partWidth = 0 then t.reqWidth else if t.reqWidth = 0 then t.partWidth else min t.reqWidth t.partWidth
    grace := some (s.clk.wall + quUs (fld t.ctl 16 0)) })).enterState q 3

/-- RETRAIN_DRAIN_END (R217): the replay buffer is empty, or DRAIN has lasted 2,048 beats. -/
def execRetrainDrainEnd (p : Fin 8) (s : State) : Result :=
  let t := s.port p.val
  .next (if t.state = 8 && (t.replay.isEmpty || t.stateBeat + 2048 ≤ s.clk.beat) then s.drainOver p.val else s)

/-! Link down (R218, R219) -/

/-- LOSS_OF_SIGNAL (R218): `all` says whether every lane of the group has signal when training starts again (R219). -/
def execLossOfSignal (p : Fin 8) (all : Bool) (s : State) : Result := .next (s.linkDown p.val 0x0720 all false)

/-- TRAINING_PATTERN_SEEN (R217, R218): the partner has left UP, or has ended the DRAIN of both: then this end enters ALIGN with it. -/
def execTrainingPatternSeen (p : Fin 8) (s : State) : Result :=
  let t := s.port p.val
  .next (if t.state = 8 then s.drainOver p.val else if t.state = 7 then s.linkDown p.val 0x0720 true false else s)

/-- GRACE_EXPIRY (R219): the grace period ends before the link is back. -/
def execGraceExpiry (p : Fin 8) (s : State) : Result :=
  .next (match (s.port p.val).grace with
    | some t => if t ≤ s.clk.wall && !(s.port p.val).carries then s.flushPort p.val else s
    | none => s)

end Sys2Proof.Machine
end

