-- ==== Sys2Proof/Machine/PantryOps.lean ====
section
/-! DEFINITION. Pantry operations at the requester and at the target (R138, R141 to R145, R242 to R251). -/

namespace Sys2Proof.Machine

/-! Ends of operations -/

/-- The core that an operation reads, writes and counts in. -/
def PanOp.place (o : PanOp) : Nat := 8 * o.cluster + o.core

/-- A core instruction's operation reaches its completion point (R148). -/
def State.opClosed (s : State) (o : PanOp) : State :=
  if o.steward then s else s.modCoreN o.place (fun k => { k with open_ := k.open_ - 1 })

/-- BEGIN, END or END_FAULT record of the engine that serves an operation (R399, R400). -/
def State.engTrace (s : State) (e : EngOp) (ev : Nat) : State :=
  if e.engine < 16 then s.trace 3 (104 + e.engine / 4) (e.engine % 4) ev e.op.layer e.op.oper e.op.seq else s

/-- PAN_ERR of a cluster takes the first error while VALID is 0 (Table 8.17). -/
def State.panError (s : State) (o : PanOp) (code : Nat) : State :=
  let w : W64 := BitVec.ofNat 64 (2 ^ 63 + o.core % 8 * 2 ^ 45 + o.opcode % 32 * 2 ^ 40 + o.pc % 2 ^ 13 * 2 ^ 27 + code)
  let s := s.modPan (fun p => { p with panErr := p.panErr.upd 0#64 o.cluster (fun x => if bitOf x 63 then x else w) })
  ((s.w1Mark 4 (0x404 + 8 * o.cluster) 31).bump 4 0x0C0 1).raise code 2 o.cluster (w.toNat % 2 ^ 48)

/-- End an operation: with code 0 its counter advances, else R145; the wait-for graph still names a failed one. -/
def State.endOp (s : State) (e : EngOp) (code : Nat) : State :=
  let s := s.modPan (fun p => { p with ops := p.ops.filter (fun x => x.id != e.id) })
  if code = 0 then ((s.incCC e.op.place e.op.cc 1).opClosed e.op).engTrace e 1
  else (((s.modPan (fun p => { p with dead := p.dead ++ [e.op] })).panError e.op code).opClosed e.op).engTrace e 2

/-- Record a failure of an operation: no further piece opens (R247). -/
def State.failOp (s : State) (id code : Nat) : State :=
  s.modPan (fun p => { p with ops := p.ops.map (fun x => if x.id = id && x.err = none then { x with err := some code } else x) })

/-- End an operation whose pieces have all closed (R247). -/
def State.settleOp (s : State) (id : Nat) : State :=
  match s.pan.ops.find? (fun x => x.id == id) with
  | none => s
  | some e =>
    if s.pan.pieces.any (fun x => x.op == id && x.hold == none) then s
    else match e.err with
      | some code => s.endOp e code
      | none => if e.op.n ≤ e.next then s.endOp e 0 else s

/-! Pieces -/

/-- The command word of Table 8.10. -/
def cmdWord (len ctx op off : Nat) : Nat := (len - 1) % 2 ^ 13 * 2 ^ 48 + ctx % 16 * 2 ^ 44 + op % 16 * 2 ^ 40 + off % 2 ^ 40

/-- The request cells' payloads of a write of `bs` at `off` (R243). -/
def writePayloads (ctx off : Nat) (bs : List Byte) : List Nat :=
  (List.range (ceilDiv bs.length 56)).map (fun j =>
    let part := (bs.drop (56 * j)).take 56
    cmdWord part.length ctx 1 (off + 56 * j) + leNat part * 2 ^ 64)

/-- Send a piece's request cells; false where the target is unreachable. -/
def State.sendRequests (s : State) (dst rid : Nat) (ps : List Nat) : State × Bool :=
  ps.foldl (fun acc p => if acc.2 then acc.1.sendPan (panCell 1 dst acc.1.nodeId rid p) else acc) (s, true)

/-- Take a piece out of its slot. -/
def State.dropPiece (s : State) (rid : Nat) : State :=
  s.modPan (fun p => { p with pieces := p.pieces.filter (fun x => x.rid != rid) })

def State.setPiece (s : State) (x : Piece) : State :=
  s.modPan (fun p => { p with pieces := p.pieces.map (fun y => if y.rid = x.rid then x else y) })

/-- Close a piece with a code, 0 for success. The read half of a copy goes on to its write half in the same slot (R247). -/
def State.closePiece (s : State) (x : Piece) (code : Nat) : State :=
  if code ≠ 0 then ((s.dropPiece x.rid).failOp x.op code).settleOp x.op
  else
    match x.kind, s.pan.ops.find? (fun e => e.id == x.op) with
    | .copyRead, some e =>
      let bs := x.stage.read 0 x.n
      let ctx := s.hearth.running.getD 0
      let s := s.setPiece { x with kind := .copyWrite, got := [], bytes := 0 }
      match s.sendRequests (paNode e.op.dst) x.rid (writePayloads ctx (paOff e.op.dst + x.off) bs) with
      | (s, true) => s
      | (s, false) => ((s.dropPiece x.rid).failOp x.op 0x0702).settleOp x.op
    | _, _ => (s.dropPiece x.rid).settleOp x.op

/-- Open a piece in slot `rid` that has `need` bytes of its source to read. -/
def State.newPiece (s : State) (e : EngOp) (rid : Nat) (kind : PieceKind) (off n need : Nat) : State :=
  let s := s.modPan (fun p => { p with
    pieces := p.pieces ++ [⟨rid, e.id, kind, off, n, [], 0, [], need, 0, s.clk.wall, none⟩]
    ops := p.ops.map (fun y => if y.id = e.id then { y with next := off + n } else y) })
  if e.engine < 16 then s.bump 4 0x080 1 else s

/-- Send the cells of the open piece in slot `rid`; an unreachable target ends the operation (R239). -/
def State.sendPiece (s : State) (rid dst : Nat) (ps : List Nat) : State :=
  match s.sendRequests dst rid ps, s.pan.pieces.find? (fun x => x.rid == rid) with
  | (s, false), some x => s.closePiece x 0x0702
  | (s, _), _ => s

/-- Open a piece in slot `rid` and send its cells. -/
def State.startPiece (s : State) (e : EngOp) (rid : Nat) (kind : PieceKind) (off n dst : Nat) (ps : List Nat) : State :=
  (s.newPiece e rid kind off n 0).sendPiece rid dst ps

/-- A free piece slot of engine `e` (Table 8.9). -/
def State.freeSlot (s : State) (e : Nat) : Option Nat :=
  ((List.range 32).map (fun i => e * 2048 + i * 64)).find? (fun r => s.pan.pieces.all (fun x => x.rid != r))

/-- A free board-access slot of a core (Table 8.9). -/
def State.freeTag (s : State) (core : Nat) : Option Nat :=
  ((List.range 32).map (fun i => 0x8000 + core * 32 + i)).find? (fun r => s.pan.pieces.all (fun x => x.rid != r))

/-- Operation codes on the wire (Table 8.10) of the atomics of Table 5.7. -/
def atomWire (aop : Nat) : Nat := aop % 4 + 2

/-- The SRAM source of an operation's next piece, address and bytes; none where it reads none (R142, R143). -/
def srcRange (o : PanOp) (off n : Nat) : Nat × Nat :=
  if o.opcode = 0x11 then (o.l + off, n) else if o.opcode = 0x12 then (o.l, if o.aop = 3 then 16 else 8) else (0, 0)

/-- Open the next piece of an operation; one that reads a source of its own is sent once that is read. -/
def State.openPiece (s : State) (e : EngOp) (rid : Nat) : State :=
  let o := e.op
  let off := e.next
  let n := min 4096 (o.n - off)
  let read := cmdWord n (s.hearth.running.getD 0) 0 (paOff o.p + off)
  match o.opcode with
  | 0x13 =>
    if off = 0 && paNode o.p == paNode o.dst && paOff o.p < paOff o.dst + o.n && paOff o.dst < paOff o.p + o.n then
      (s.failOp e.id 0x0703).settleOp e.id
    else s.startPiece e rid .copyRead off n (paNode o.p) [read]
  | 0x10 => s.startPiece e rid .read off n (paNode o.p) [read]
  | _ => s.newPiece e rid (if o.opcode = 0x12 then .atomic else .write) off n (srcRange o off n).2

/-- The request cells of a piece whose source bytes are `bs`. -/
def piecePayloads (o : PanOp) (ctx off : Nat) (bs : List Byte) : List Nat :=
  if o.opcode = 0x12 then [cmdWord 8 ctx (atomWire o.aop) (paOff o.p) + leNat bs * 2 ^ 64] else writePayloads ctx (paOff o.p + off) bs

/-- The next chunk of the source of the piece in slot `rid`, in a beat after issue, through the tap and a bank slot (R21, R71, R142, R143);
after the last the piece is sent. A piece whose source is uncorrectable stays open and is never sent (log 13). -/
def State.readSource (s : State) (rid : Nat) : State :=
  match s.pan.pieces.find? (fun x => x.rid == rid && x.hold == none && x.have_ < x.need) with
  | none => s
  | some x => match s.pan.ops.find? (fun e => e.id == x.op) with
    | none => s
    | some e =>
      let o := e.op
      let a := (srcRange o x.off x.n).1 + x.have_
      let len := min (64 - a % 64) (x.need - x.have_)
      if s.clk.beat ≤ o.issued || s.tapRoom o.cluster true = 0 || !s.banksFree o.place a len then s
      else match ((s.takeBanks o.place a len).tapTake o.cluster true 1).sramRead o.place a len with
        | (s, none) => s.setPiece { x with need := 0 }
        | (s, some bs) =>
          let stage := x.stage.write x.have_ bs
          if x.have_ + len < x.need then s.setPiece { x with have_ := x.have_ + len, stage := stage }
          else (s.setPiece { x with need := 0, have_ := 0 }).sendPiece rid (paNode o.p)
            (piecePayloads o (s.hearth.running.getD 0) x.off (stage.read 0 x.need))

/-- The source chunks that engine `e` reads in this beat, at most 8 of each piece. -/
def State.readSources (s : State) (e : Nat) : State :=
  ((s.pan.pieces.filter (fun x => x.rid / 2048 == e && x.have_ < x.need)).map (fun x => x.rid)).foldl (fun (s : State) r =>
    iter 8 s (fun _ s => s.readSource r)) s

/-- A board access enters a board slot and is sent (R138, R250). -/
def State.openBoard (s : State) (o : PanOp) : State :=
  let e : EngOp := ⟨s.pan.nextId, 16, o, 0, none⟩
  let s := (s.modPan (fun p => { p with ops := p.ops ++ [e], nextId := p.nextId + 1 })).bump 4 0x088 1
  let ctx := s.hearth.running.getD 0
  match s.freeTag o.place with
  | none => s
  | some rid =>
    if o.opcode = 0x06 then s.startPiece e rid .read 0 o.n (paNode o.p) [cmdWord o.n ctx 0 (paOff o.p)]
    else s.startPiece e rid .write 0 o.n (paNode o.p) (writePayloads ctx (paOff o.p) (leBytes o.n o.data.toNat))

/-- The module admits its own Pantry work (R233, R251); a context switch stops it while it quiesces (R295). -/
def State.ownWork (s : State) : Bool := s.pan.enable && !s.pan.fenced && s.hearth.switchSrc.isNone

/-- The engine of cluster `k`'s operations (R141). -/
def engineOf (k : Nat) : Nat := 4 * (k / 25) + k % 25 % 4

/-- Engine `e` accepts waiting operations of its clusters, in cluster order, up to 64 (R141, R247, R251). -/
def State.acceptOps (s : State) (e : Nat) : State :=
  if !s.ownWork then s
  else ((List.range 100).filter (fun k => engineOf k == e)).foldl (fun s k =>
    match (s.cluster k).panQ with
    | [] => s
    | o :: rest =>
      if 64 ≤ (s.pan.ops.filter (fun x => x.engine == e)).length then s
      else
        let (s, n) := s.nextSeq (104 + e / 4) (e % 4)
        let x : EngOp := ⟨s.pan.nextId, e, { o with seq := n }, 0, none⟩
        ((s.modCluster k (fun c => { c with panQ := rest })).modPan (fun p => { p with
          ops := p.ops ++ [x], nextId := p.nextId + 1 })).engTrace x 0) s

/-- PIECE_OPEN (R247): the engine accepts operations, opens the next piece of the oldest that has one, and reads on in the sources of its
pieces. -/
def execPieceOpen (e : Fin 16) (s : State) : Result :=
  let s := s.acceptOps e.val
  let s := match s.pan.ops.find? (fun x => x.engine == e.val && x.err == none && x.next < x.op.n), s.freeSlot e.val with
    | some x, some rid => s.openPiece x rid
    | _, _ => s
  .next (s.readSources e.val)

/-! Answers at the requester -/

/-- The open piece that a REQ_ID names, data cells of an engine by their piece (Table 8.9). -/
def State.pieceOf (s : State) (rid : Nat) : Option Piece :=
  let r := if rid < 0x8000 then rid / 64 * 64 else rid
  s.pan.pieces.find? (fun x => x.rid == r && x.hold == none)

/-- Take the first reply in hand that is (`st`) or is not a status cell. -/
def State.firstReply (s : State) (st : Bool) : Option RxPan :=
  s.pan.inRpl.find? (fun x => x.elig ≤ s.clk.beat && (x.cell.reqId == 0xFFFF) == st)

def State.dropReply (s : State) (x : RxPan) : State :=
  (s.modPan (fun p => { p with inRpl := p.inRpl.erase x })).pressures x.src

/-- A data cell of a piece is at its destination: the piece closes with the last. -/
def State.replyGot (s : State) (pc : Piece) (c : Nat) : State :=
  let pc := { pc with got := if pc.got.contains c then pc.got else c :: pc.got }
  if ceilDiv pc.n 64 ≤ pc.got.length then s.closePiece pc 0 else s.setPiece pc

/-- Write the data cell at place `c` of the piece in slot `rid` to SRAM at `a` of core place `n`; discarded and counted where that piece
has closed (R248). -/
def State.replyWrite (s : State) (rid c n a : Nat) (bs : List Byte) : State :=
  match s.pieceOf rid with
  | none => s.bump 4 0x0B8 1
  | some pc => match pc.kind, s.pan.ops.find? (fun e => e.id == pc.op) with
    | .read, some e =>
      if e.op.place = n && e.op.l + pc.off + 64 * c = a then (((s.takeBanks n a bs.length).sramWrite n a bs).1).replyGot pc c
      else s.bump 4 0x0B8 1
    | _, _ => s.bump 4 0x0B8 1

/-- READ_REPLY_DATA (R22, R247): a data cell is written at its place by the tap, waits in the tap's queue, or stays where that is full;
one that names no open piece is discarded and counted (R248). -/
def execReadReplyData (s : State) : Result :=
  .next (match s.firstReply false with
    | none => s
    | some x =>
      let rid := x.cell.reqId
      let c := if rid < 0x8000 then rid % 64 else 0
      match s.pieceOf rid with
      | none => (s.dropReply x).bump 4 0x0B8 1
      | some pc =>
        if !(pc.kind == .read || pc.kind == .copyRead) || pc.n ≤ 64 * c then (s.dropReply x).bump 4 0x0B8 1
        else
          let bs := leBytes (min 64 (pc.n - 64 * c)) x.cell.payload.toNat
          match pc.kind, s.pan.ops.find? (fun e => e.id == pc.op) with
          | .read, some e =>
            let n := e.op.place
            let k := e.op.cluster
            let a := e.op.l + pc.off + 64 * c
            if s.tapRoom k false != 0 && s.banksFree n a bs.length then ((s.dropReply x).tapTake k false 1).replyWrite rid c n a bs
            else if s.landRoom k then (s.dropReply x).modCluster k (fun y => { y with
              landQ := y.landQ ++ [⟨s.clk.beat, n, a, bs.length, x.cell.payload, 0, 6, 0, .reply rid c⟩] })
            else s
          | _, _ => (s.dropReply x).replyGot { pc with stage := pc.stage.write (64 * c) bs } c)

/-- Codes of the STATUS values of Table 8.11; a reserved value counts as unreachable (log 13). -/
def statusCode (st : Nat) : Nat := if st = 1 then 0x0701 else if st = 4 then 0x0704 else 0x0702

/-- Apply one status entry (R247, R248). -/
def State.applyStatus (s : State) (w : BitVec 128) : State :=
  match s.pieceOf (fld w 15 0) with
  | none => s.bump 4 0x0B8 1
  | some pc =>
    let st := fld w 23 16
    if st ≠ 0 then s.closePiece pc (statusCode st)
    else match pc.kind, s.pan.ops.find? (fun e => e.id == pc.op) with
      | .atomic, some e =>
        if e.op.aop = 0 then s.closePiece pc 0
        else
          let a := e.op.l + 16
          ((((s.takeBanks e.op.place a 8).tapTake e.op.cluster false 1).sramWrite e.op.place a (leBytes 8 (fld w 127 64))).1).closePiece pc 0
      | _, _ =>
        let pc := { pc with bytes := pc.bytes + fld w 47 32 }
        if pc.n ≤ pc.bytes then s.closePiece pc 0 else s.setPiece pc

/-- The tap and the bank that a status entry's atomic writes are free. -/
def State.statusReady (s : State) (w : BitVec 128) : Bool :=
  match s.pieceOf (fld w 15 0) with
  | some pc => match pc.kind, s.pan.ops.find? (fun e => e.id == pc.op) with
    | .atomic, some e =>
      e.op.aop == 0 || fld w 23 16 != 0 || (s.tapRoom e.op.cluster false != 0 && s.banksFree e.op.place (e.op.l + 16) 8)
    | _, _ => true
  | none => true

/-- Apply status entries in turn; those from the first that must wait on. -/
def State.applyAll (s : State) : List (BitVec 128) → State × List (BitVec 128)
  | [] => (s, [])
  | w :: ws => if s.statusReady w then (s.applyStatus w).applyAll ws else (s, w :: ws)

/-- STATUS_CELL (R247): the entries of a status cell close pieces; one whose VALUE cannot be written in this beat waits, and those behind
it. -/
def execStatusCell (s : State) : Result :=
  .next (match s.firstReply true with
    | none => s
    | some x =>
      let ws := (((List.range 4).map (fun i => (x.cell.payload.extractLsb' (128 * i) 128 : BitVec 128))).filter (fun w => bitOf w 31)).drop
        x.got.length
      let r := s.applyAll ws
      if r.2 = [] then r.1.dropReply x
      else r.1.modPan (fun p => { p with
        inRpl := p.inRpl.map (fun y => if y = x then { x with got := x.got ++ List.replicate (ws.length - r.2.length) 0#8 } else y) }))

/-- STATUS_CELL_TIMEOUT (R244): entries gathered for 64 beats are sent. -/
def execStatusCellTimeout (s : State) : Result :=
  let due := s.pan.gather.filter (fun g => g.first + 64 ≤ s.clk.beat)
  .next (due.foldl (fun s g => s.sendStatusCell g)
    (s.modPan (fun p => { p with gather := p.gather.filter (fun g => !(g.first + 64 ≤ s.clk.beat)) })))

/-- PIECE_TIMEOUT in wall time, inside its limits (Table 8.16). -/
def State.pieceLimit (s : State) : Nat := quUs (min (max s.pan.timeout.toNat 1000) 10000000)

/-- PIECE_TIMEOUT (R248): pieces open for the timeout close as unreachable, and their slots stay unused as long again. The time
does not advance while a global stop holds (R405). -/
def execPieceTimeout (s : State) : Result :=
  let w := s.clk.wall
  let lim := s.pieceLimit
  .next (if s.stopped then s else
    (s.pan.pieces.filter (fun x => x.hold == none && x.opened + lim ≤ w)).foldl (fun (s : State) (x : Piece) =>
      ((s.setPiece { x with hold := some (w + lim) }).bump 4 0x0B0 1 |>.failOp x.op 0x0702).settleOp x.op) s)

/-- PIECE_SLOT_HOLD_END (R248): slots kept after a timeout come free. -/
def execPieceSlotHoldEnd (s : State) : Result :=
  .next (s.modPan (fun p => { p with pieces := p.pieces.filter (fun x => match x.hold with
    | some t => s.clk.wall < t
    | none => true) }))

/-! At the target -/

/-- A request's command word. -/
def Cell.word (c : Cell) : W64 := c.payload.truncate 64

/-- The check of R245; a slot that a later image left unmapped lies in no window (R237). -/
def State.requestOk (s : State) (c : Cell) : Bool :=
  let w := c.word
  let n := fld w 60 48 + 1
  let off := fld w 39 0
  let ctx := fld w 47 44
  let op := fld w 43 40
  !s.pan.fenced && s.hearth.running == some ctx && op ≤ 5 && s.rangeMapped off (off + n - 1) &&
    s.pan.win.any (fun v =>
      let v := v.2
      bitOf v 127 && fld v 126 123 == ctx && fld v 39 0 ≤ off && off + n - 1 ≤ fld v 103 64 &&
        (if op = 0 then bitOf v 122 else if op = 1 then bitOf v 121 else bitOf v 120) &&
        (bitOf v 119 || s.inBlock (s.pan.jobBlock.get 0#32 ctx) (s.nodeEntry c.src)))

/-- Refuse a request (R245). -/
def State.refuseReq (s : State) (x : RxPan) : State :=
  ((s.status x.cell.src (statusEntry x.cell.reqId 1 0 0)).bump 4 0x098 1).pressures x.src

/-- PANTRY_REQUEST (R245): the first request in hand is checked: refused, or taken to be served in its turn. -/
def execPantryRequest (s : State) : Result :=
  .next (match s.pan.inReq with
    | [] => s
    | x :: rest =>
      if s.clk.beat < x.elig then s
      else
        let s := s.modPan (fun p => { p with inReq := rest })
        if s.requestOk x.cell then s.modPan (fun p => { p with serving := p.serving ++ [x] })
        else s.refuseReq x)

/-- The value an atomic leaves (R143): wire codes 2 add, 3 fetch-add, 4 swap, 5 compare-and-swap. -/
def atomNew (op old x c : Nat) : Nat :=
  match op with
  | 4 => x
  | 5 => if old = c then x else old
  | _ => (old + x) % 2 ^ 64

/-- Fields of a request cell's command word (Table 8.10): bytes, offset, context, operation. -/
def Cell.reqLen (c : Cell) : Nat := fld c.word 60 48 + 1
def Cell.reqOff (c : Cell) : Nat := fld c.word 39 0
def Cell.reqCtx (c : Cell) : Nat := fld c.word 47 44
def Cell.reqOp (c : Cell) : Nat := fld c.word 43 40

/-- The bytes that a write or an atomic touches. -/
def Cell.span (c : Cell) : Nat := if 2 ≤ c.reqOp then 8 else if c.reqOp = 1 then min c.reqLen 56 else c.reqLen

/-- Send the data cells of a read: a cell without a usable path is not sent (R239). -/
def State.sendData (s : State) (c : Cell) (bs : List Byte) : State :=
  (List.range (ceilDiv bs.length 64)).foldl (fun s i =>
    (s.sendPan (panCell 2 c.src s.nodeId (if c.reqId < 0x8000 then c.reqId + i else c.reqId)
      (leNat ((bs.drop (64 * i)).take 64)))).1) s

/-- Answer a request that is performed: `bs` its bytes for a read, `old` the word before an atomic. -/
def State.panAnswer (s : State) (c : Cell) (bs : List Byte) (old : Nat) : State :=
  let s := s.bump 4 0x090 1
  match c.reqOp with
  | 0 => s.sendData c bs
  | 1 => s.status c.src (statusEntry c.reqId 0 (min c.reqLen 56) 0)
  | op => s.status c.src (statusEntry c.reqId 0 0 (if op = 2 then 0 else old))

/-- The bytes that a write carries, and what an atomic makes of the old word. -/
def Cell.writeBytes (c : Cell) : List Byte := leBytes c.span (c.payload.toNat / 2 ^ 64)
def Cell.atom (c : Cell) (old : Nat) : Nat := atomNew c.reqOp old (nfld c.payload.toNat 127 64) (nfld c.payload.toNat 191 128)

/-- What serving a request comes to: it waits (with what it has read so far), or is done, answered or, where a word cannot be delivered,
not (R245, R259). -/
inductive Served where
  | waits (x : RxPan)
  | done (answer : Option (List Byte × Nat))

/-- Serve a request in HBM: not under refresh, and only while the Cellar takes accesses (R271). -/
def State.serveHbm (s : State) (x : RxPan) (o : Nat) : State × Served :=
  let c := x.cell
  if !s.celOn then (s, .waits x)
  else if s.refreshing o then (s.bump 5 0x0D0 1, .waits x)
  else match c.reqOp with
    | 0 => let r := s.hbmRead c.reqCtx o c.reqLen; (r.1, .done (if r.2.2 = 0 then some (r.2.1, 0) else none))
    | 1 => let r := s.hbmWrite c.reqCtx o c.writeBytes; (r.1, .done (if r.2 = 0 then some ([], 0) else none))
    | _ => let r := s.hbmAtomic c.reqCtx o c.atom; (r.1, .done (if r.2.2 = 0 then some ([], r.2.1) else none))

/-- The reads of one beat of a request that reads SRAM at `a`: a data cell's bytes each, through the tap and their bank slots. -/
def State.serveReads (s : State) (core a : Nat) : Nat → RxPan → State × Served
  | 0, x => (s, .waits x)
  | fuel + 1, x =>
    let n := x.cell.reqLen
    let at_ := a + x.got.length
    let len := min 64 (n - x.got.length)
    if n ≤ x.got.length then (s, .done (some (x.got, 0)))
    else if s.tapRoom (core / 8) true = 0 || !s.banksFree core at_ len then (s, .waits x)
    else match ((s.takeBanks core at_ len).tapTake (core / 8) true 1).sramRead core at_ len with
      | (s, none) => (s, .done none)
      | (s, some bs) => s.serveReads core a fuel { x with got := x.got ++ bs }

/-- Serve a request in SRAM at `a` of a core (R21, R71, R260). -/
def State.serveSram (s : State) (x : RxPan) (core a : Nat) : State × Served :=
  let c := x.cell
  let k := core / 8
  if c.reqOp = 0 then s.serveReads core a 9 x
  else if s.tapRoom k false = 0 || (2 ≤ c.reqOp && s.tapRoom k true = 0) || !s.banksFree core a c.span then (s, .waits x)
  else
    let s := (s.takeBanks core a c.span).tapTake k false 1
    if c.reqOp = 1 then
      let r := s.sramWrite core a c.writeBytes
      (r.1, .done (if r.2 then some ([], 0) else none))
    else
      let r := (s.tapTake k true 1).sramAtomic core a c.atom
      (r.1, .done (r.2.map (fun old => ([], old))))

/-- PANTRY_ACCESS_DONE (R245): the access of the `n`-th admitted request is performed, as far as it can be in this beat. Requests are
served in arrival order, so that one behind another waits. -/
def execPantryAccessDone (n : Nat) (s : State) : Result :=
  .next (match n, s.pan.serving with
    | 0, x :: rest =>
      let done (s : State) : State := s.modPan (fun p => { p with serving := rest })
      let end_ (r : State × Served) : State :=
        match r.2 with
        | .waits y => r.1.modPan (fun p => { p with serving := y :: rest })
        | .done (some z) => ((done r.1).panAnswer x.cell z.1 z.2).pressures x.src
        | .done none => (done r.1).pressures x.src
      match s.localOf x.cell.reqOff with
      | .hbm o => end_ (s.serveHbm x o)
      | .sram core a => end_ (s.serveSram x core a)
      | .unmapped => (done s).refuseReq x
    | _, _ => s)

end Sys2Proof.Machine
end

