-- ==== Sys2Proof/Machine/PanCtl.lean ====
section
/-! DEFINITION. The enables of the Pantry space and fencing (R226 to R233, R246, R251, R291, R292). -/

namespace Sys2Proof.Machine

/-! PAN_CTL (R227, R251) -/

/-- Coordinates of a valid entry lie inside their rings. -/
def State.entryInRings (s : State) (e : W16) : Bool := (List.range 3).all (fun a => axisOf e a < s.ring a)

/-- The valid entries of the board of strap node `n` map onto one aligned 2 × 2 × 2 block, place for place (R227). -/
def State.mapBoardOk (s : State) (n : Nat) : Bool :=
  let es := ((List.range 8).map (fun i =>
      let m := n + i % 2 + i / 2 % 2 * 16 + i / 4 * 256
      (m, s.nodeEntry m))).filter (fun x => bitOf x.2 15)
  es.all (fun x =>
    (List.range 3).all (fun a => axisOf x.2 a % 2 == nfld x.1 (4 * a) (4 * a)) &&
    es.all (fun y => (List.range 3).all (fun a => axisOf x.2 a / 2 == axisOf y.2 a / 2)))

/-- The node map and ring lengths pass R227. -/
def State.nodeMapOk (s : State) : Bool :=
  let es := (List.range 4096).map s.nodeEntry
  let valid := es.filter (fun e => bitOf e 15)
  valid.all s.entryInRings && decide ((valid.map (fun e => fld e 11 0)).Nodup) && bitOf (s.nodeEntry s.nodeId) 15 &&
    (List.range 512).all (fun b => s.mapBoardOk (2 * (b % 8) + 32 * (b / 8 % 8) + 512 * (b / 64)))

/-- Set PAN_CTL.ENABLE (R227, R228): 0, or the reason for which it stays 0. -/
def State.enablePan (s : State) : State × Nat :=
  if s.pan.enable then (s, 0)
  else if !s.nodeMapOk then (s.modPan (fun p => { p with reason := 0x0408 }), 0x0408)
  else (iter 6 (s.modPan (fun p => { p with enable := true })) (fun p s => s.checkNeighbour p), 0)

/-- PAN_CTL_ENABLE (R227). -/
def execPanCtlEnable (s : State) : Result := .next s.enablePan.1

/-- A Pantry cell lies in a transmit queue, receive buffer or replay buffer (R251). -/
def State.panCells (s : State) : Bool :=
  !s.pan.inReq.isEmpty || !s.pan.inRpl.isEmpty || !s.pan.serving.isEmpty ||
    (List.range 8).any (fun p =>
      let t := s.port p
      !t.reqQ.isEmpty || !t.rplQ.isEmpty || t.replay.any (fun r => r.cell.cls != 0#2))

/-- PAN_STATUS.DRAINED (R251). -/
def State.drained (s : State) : Bool := !s.pan.enable && s.pan.ops.isEmpty && !s.panCells

/-! Pantry windows (R246, R292) -/

/-- The save area of a context: 736 units of 2 MiB from SAVE_BASE (R294). -/
def State.inSave (s : State) (x lo hi : Nat) : Bool :=
  let a := (s.ctx x).saveBase * 0x200000
  let has := (s.ctx x).state != 0 && (s.ctx x).state != 5
  has && lo < a + 736 * 0x200000 && a ≤ hi

/-- The checks of R246, in order; 0 when they pass. -/
def State.winCheck (s : State) (v : BitVec 128) : Nat :=
  let lo := fld v 39 0
  let hi := fld v 103 64
  let ctx := fld v 126 123
  if lo % 64 ≠ 0 || (hi + 1) % 64 ≠ 0 || hi < lo || !s.rangeMapped lo hi then 0x0407
  else if s.pan.win.any (fun w => bitOf w.2 127 && fld w.2 126 123 == ctx && fld w.2 39 0 ≤ hi && lo ≤ fld w.2 103 64) then 0x0401
  else match s.localOf lo with
    | .hbm _ => if !s.inRegions ctx lo (hi + 1 - lo) || s.inSave ctx lo hi then 0x040D else 0
    | _ => 0

/-- Set ENABLE of window `w`. -/
def State.enableWin (s : State) (w : Nat) : State × Nat :=
  let v := s.pan.win.get 0#128 w
  if bitOf v 127 then (s, 0)
  else match s.winCheck v with
    | 0 => (s.modPan (fun p => { p with win := p.win.set 0#128 w (putFld v 127 127 1) }), 0)
    | code => (s.modPan (fun p => { p with reason := code }), code)

/-- PAN_WIN_ENABLE (R246). -/
def execPanWinEnable (w : Fin 32) (s : State) : Result := .next (s.enableWin w.val).1

/-! Job blocks (R229, R230) -/

/-- The checks of R230, in order; 0 when they pass. -/
def State.blockCheck (s : State) (x : Nat) (b : W32) : Nat :=
  let org (a : Nat) := fld b (4 * a + 3) (4 * a)
  let ext (a : Nat) := fld b (16 + 4 * a + 3) (16 + 4 * a)
  let bad (a : Nat) : Bool := s.ring a ≤ org a || s.ring a < ext a + 1 || (s.ring a ≤ org a + ext a && !s.wraps a)
  let racks (a : Nat) : Bool := (List.range (ext a + 1)).any (fun i => (org a + i) % s.ring a / 4 != org a / 4)
  if (s.ctx x).state = 0 || (s.ctx x).state = 5 then 0x0302
  else if (List.range 3).any bad || !s.inBlock (putFld b 31 31 1) (s.nodeEntry s.nodeId) then 0x040A
  else if (List.range 3).any racks && !bitOf s.pan.topoCtl 16 then 0x0409
  else 0

/-- Set ENABLE of a context's job block. -/
def State.enableBlock (s : State) (x : Nat) : State × Nat :=
  let b := s.pan.jobBlock.get 0#32 x
  if bitOf b 31 then (s, 0)
  else match s.blockCheck x b with
    | 0 => (s.modPan (fun p => { p with jobBlock := p.jobBlock.set 0#32 x (putFld b 31 31 1) }), 0)
    | code => (s.modCtx x (fun c => { c with reason := code }), code)

/-- CTX_JOB_BLOCK_ENABLE (R230). -/
def execCtxJobBlockEnable (x : Fin 16) (s : State) : Result := .next (s.enableBlock x.val).1

/-! Fencing (R233) -/

/-- Fence the module: its cores stop, its running job ends with 0x0308. -/
def State.fence (s : State) : State :=
  (((s.modPan (fun p => { p with fenced := true })).endJob 0x0308).haltAll)

end Sys2Proof.Machine
end

