-- ==== Sys2Proof/Machine/TimeOps.lean ====
section
/-! DEFINITION. Time words and the time counter's tick (R341 to R343, R347). -/

namespace Sys2Proof.Machine

/-- The fields of a time word (R341). -/
def timeOf (w : BitVec 128) : TimeWord := ⟨fld w 101 54, fld w 53 24, fld w 23 0⟩

/-- The 128 bits of a time word. -/
def TimeWord.pack (t : TimeWord) : BitVec 128 :=
  BitVec.ofNat 128 (t.sec % 2 ^ 48 * 2 ^ 54 + t.ns % 2 ^ 30 * 2 ^ 24 + t.frac % 2 ^ 24)

/-- The signed difference in nanoseconds (R343). -/
def TimeWord.diff (a b : TimeWord) : Int :=
  toSigned 48 ((a.sec + 2 ^ 48 - b.sec % 2 ^ 48) % 2 ^ 48) * 1000000000 + ((a.ns : Int) - (b.ns : Int))

/-- Time `t` is reached (R343). -/
def TimeWord.reached (now t : TimeWord) : Bool := 0 < now.diff t || (now.diff t == 0 && t.frac ≤ now.frac)

/-- A time moved by a signed number of nanoseconds (R341, R346). -/
def TimeWord.addNs (t : TimeWord) (n : Int) : TimeWord :=
  let x : Int := (t.sec : Int) * 1000000000 + t.ns + n
  ⟨wrapInt 48 (x / 1000000000), (x % 1000000000).toNat, t.frac⟩

/-- The counting part of a tick (R341). -/
def TimeWord.count (t : TimeWord) (incr : W32) : TimeWord :=
  let x := t.ns * 2 ^ 24 + t.frac + incr.toNat
  let ns := x / 2 ^ 24
  if 1000000000 ≤ ns then ⟨(t.sec + 1) % 2 ^ 48, ns - 1000000000, x % 2 ^ 24⟩ else ⟨t.sec, ns, x % 2 ^ 24⟩

/-- A step of the counter moves the end of every pulse in progress with it (R347). -/
def Tim.shift (m : SMap Pulse) (d : Int) : SMap Pulse :=
  m.map (fun p => (p.1, { p.2 with active := p.2.active.map (fun e => e.addNs d) }))

/-- The counter is moved by `d` nanoseconds from where this tick took it. -/
def Tim.move (t : Tim) (now : TimeWord) (d : Int) : Tim := { t with now := now, pulses := Tim.shift t.pulses d, moved := true }

/-- One tick of the time counter (R341); a servo step comes after LOAD and APPLY. -/
def Tim.tick (t : Tim) : Tim :=
  let now := t.now.count t.incr
  if t.load then { t.move (timeOf t.set) ((timeOf t.set).diff now) with load := false, apply := false, valid := true }
  else if t.apply then { t.move (now.addNs t.offset.toInt) t.offset.toInt with apply := false }
  else match t.step with
    | some d => { t.move (now.addNs d) d with step := none, valid := true }
    | none => { t with now := now, moved := false }

/-- SECONDS[33:0] and NANOSECONDS as the 64 bits of a TIME record and of AT (Tables 15.4, 15.7). -/
def TimeWord.pack64 (t : TimeWord) : Nat := t.sec % 2 ^ 34 * 2 ^ 30 + t.ns % 2 ^ 30

/-- The time whose seconds lie nearest `now` and whose low 34 bits of seconds are those of AT (R398). -/
def TimeWord.nearest (now : TimeWord) (w : Nat) : TimeWord :=
  let d := toSigned 34 ((nfld w 63 30 + 2 ^ 34 - now.sec % 2 ^ 34) % 2 ^ 34)
  ⟨wrapInt 48 ((now.sec : Int) + d), nfld w 29 0, 0⟩

end Sys2Proof.Machine
end

