-- ==== Sys2Proof/Machine/Recording.lean ====
section
/-! DEFINITION. Mailbox blocks (Table 10.9) and the log of accepted state commands (R366 to R368). -/

namespace Sys2Proof.Machine

/-! Blocks -/

def blkOp (b : BitVec 2048) : Nat := fld b 15 0
def blkVer (b : BitVec 2048) : Nat := fld b 23 16
def blkTag (b : BitVec 2048) : Nat := fld b 31 24
def blkLen (b : BitVec 2048) : Nat := fld b 47 32
/-- `n` payload bytes from byte `i`, as a number. -/
def blkNum (b : BitVec 2048) (i n : Nat) : Nat := fld b (64 + 8 * (i + n) - 1) (64 + 8 * i)
def blkByte (b : BitVec 2048) (i : Nat) : Nat := blkNum b i 1
/-- `n` payload bytes from byte `i`. -/
def blkBytes (b : BitVec 2048) (i n : Nat) : List Byte := leBytes n (blkNum b i n)

/-- The response to a block (Table 10.9): opcode, version and tag returned unchanged. -/
def respBlock (b : BitVec 2048) (reason : Nat) (payload : List Byte) : BitVec 2048 :=
  BitVec.ofNat 2048 (leNat (payload.take 248) * 2 ^ 64 + reason % 2 ^ 16 * 2 ^ 48 + (min payload.length 248) * 2 ^ 32 + b.toNat % 2 ^ 32)

/-! The log (R366, R367) -/

def recEnable (c : W64) : Bool := bitOf c 63
def recReplay (c : W64) : Bool := bitOf c 62
/-- Size and base of the log in bytes. -/
def recSize (c : W64) : Nat := fld c 39 20 * 0x200000
def recBase (c : W64) : Nat := fld c 19 0 * 0x200000

def State.modRec (s : State) (f : Record → Record) : State := s.modHearth (fun h => { h with rec_ := f h.rec_ })

/-- ENABLE is cleared: recording or replay ends. -/
def State.endRecord (s : State) : State := s.modRec (fun r => { r with ctl := putFld r.ctl 63 63 0, active := false })

/-- A job epoch runs: its compute, its barrier and its readiness belong to it (R367, Table 6.11). -/
def State.epochRuns (s : State) : Bool := 2 ≤ s.tt.state && s.tt.state ≤ 4

/-- Payload bytes of a block, at most 248. -/
def logLen (b : BitVec 2048) : Nat := min (blkLen b) 248

/-- The header of Table 13.5 for a command accepted now; DMA and REASON are filled in with the entry. -/
def State.logHeader (s : State) (mgmt : Bool) (pair : Nat) (b : BitVec 2048) : Nat :=
  let run := s.epochRuns
  s.clk.fbc.toNat * 2 ^ 192 + (if run then s.tt.index.toNat * 2 ^ 160 + s.epochBeat % 2 ^ 24 * 2 ^ 136 else 0) + b2n run * 2 ^ 135
    + b2n mgmt * 2 ^ 132 + pair % 4 * 2 ^ 130 + blkOp b * 2 ^ 112 + blkTag b * 2 ^ 104 + blkVer b * 2 ^ 96
    + logLen b * 2 ^ 88 + s.hearth.rec_.entries % 2 ^ 32 * 2 ^ 32

/-- Append bytes to the log; an entry that does not fit ends recording (R367). -/
def State.logBytes (s : State) (bs : List Byte) : State :=
  let r := s.hearth.rec_
  if recSize r.ctl < r.wrPos + bs.length then
    (((s.endRecord).modRec (fun r => { r with full := true, reason := 0x0313 })).w1Mark 1 0x3C 30).raise 0x0313 0 0 0
  else
    let s := (s.hbmWrite r.ctx (recBase r.ctl + r.wrPos) bs).1
    s.modRec (fun r => { r with wrPos := r.wrPos + bs.length, entries := r.entries + 1 })

/-- The entry of a state command (R366): header `hdr` as at its acceptance, payload in whole 32-byte pieces, the digest of the bytes it
read by DMA. -/
def State.logEntry (s : State) (hdr : Nat) (b : BitVec 2048) (reason : Nat) (dma : Option (List Byte)) : State :=
  let r := s.hearth.rec_
  if !(recEnable r.ctl && !recReplay r.ctl && r.active) then s
  else
    let n := logLen b
    let pay := leBytes (ceilDiv n 32 * 32) (blkNum b 0 n)
    let dig := match dma with
      | some x => beBytes 32 (sha256 x)
      | none => []
    s.logBytes (leBytes 32 (hdr + b2n dma.isSome * 2 ^ 134 + reason % 2 ^ 16 * 2 ^ 72) ++ (if n = 0 then [] else pay) ++ dig)

/-- The first difference ends replay (R370). -/
def State.diverge (s : State) (seq : Nat) : State :=
  (((s.modRec (fun r => { r with diverged := true, reason := 0x0312 })).w1Mark 1 0x3C 29).endRecord).raise 0x0312 0 0 seq

/-- Hold a replayed command's response and the bytes it read against its entry: header `hd`, digest where it has one (R370). -/
def State.replayCheck (s : State) (hd code : Nat) (dma digest : Option (List Byte)) : State :=
  if code ≠ nfld hd 87 72 || dma.map (fun x => beBytes 32 (sha256 x)) ≠ digest then s.diverge (nfld hd 63 32) else s

/-- The bytes of the entry at a log position: header, payload, digest; none where the log cannot be read. -/
def State.logAt (s : State) (pos : Nat) : State × Option (Nat × List Byte × Option (List Byte) × Nat) :=
  let r := s.hearth.rec_
  let base := recBase r.ctl
  if recSize r.ctl < pos + 32 then (s, none)
  else
    let (s, h, code) := s.hbmRead r.ctx (base + pos) 32
    if code ≠ 0 then (s, none)
    else
      let hd := leNat h
      let n := ceilDiv (nfld hd 95 88) 32 * 32
      let d := if nfld hd 134 134 = 1 then 32 else 0
      if n + d = 0 then (s, some (hd, [], none, pos + 32))
      else
        let (s, x, code) := s.hbmRead r.ctx (base + pos + 32) (n + d)
        if code ≠ 0 then (s, none)
        else (s, some (hd, x.take n, if d = 0 then none else some (x.drop n), pos + 32 + n + d))

end Sys2Proof.Machine
end

