-- ==== Sys2Proof/Machine/Reset.lean ====
section
/-! DEFINITION. What resets and erasures do to the module: resident state at its program-load value (R295 step 2), keys (R383,
R390), the kinds of reset (R413 to R415, R419, Tables 16.1, 16.7). -/

namespace Sys2Proof.Machine

/-- Every item of R295 step 2 at its program-load value, SRAM zeroed. -/
def State.clearResident (s : State) : State :=
  { s with
    cores := []
    clusters := []
    streams := []
    hall := []
    tt := { Timetable.zero with ctl := s.tt.ctl }
    pan := { s.pan with ranks := [], dead := [] }
    cel := { s.cel with wbSram := [] } }

/-- Close every management connection: its TLS keys are erased, its subscription ends (R443). -/
def State.closeMgmt (s : State) : State :=
  let open_ := (List.range 4).filter (fun n => s.hearth.conns.get false n)
  open_.foldl (fun (s : State) n => s.emit (.mgmtClosed n)) (s.modHearth (fun h => { h with conns := [], tls := [], subs := [] }))

/-- Close the host session; its keys are erased (R382). -/
def State.closeSession (s : State) : State := s.modHearth (fun h => { h with sess := none, sessNext := none })

/-- Erase every HBM key set. -/
def State.eraseKeySets (s : State) : State :=
  s.modCel (fun c => { c with keys := mapOver KeySet.zero c.keys (fun k => { k with keyed := false, z := 0#256 }) })

/-- Erase every key of Table 14.4 but the identity key. -/
def State.eraseKeys (s : State) : State :=
  let s := s.eraseKeySets
  ({ s with ports := mapOver Port.zero s.ports Port.eraseKeys }.closeSession).closeMgmt

/-- The top operating point of the grade (Table 12.2). -/
def Fuses.topOp (f : Fuses) : Nat := if f.od720 then 1 else 0

/-- HTH_POWER_CTL after reset: CAP_W is the grade's TDP (Tables 0.1, 12.13). -/
def Fuses.powerReset (f : Fuses) : W64 := putFld State.reset.hearth.power 63 48 (if f.od720 then 1800 else 2200)

/-- CAUSE bits of HTH_RESET_CAUSE (Table 16.7). -/
def causeBits (w : W64) : Nat := fld w 6 0

/-- HTH_RESET_CAUSE after a reset with cause bit `bit` and reason `fault`; a reset that coincides with one in progress (`held`) adds
its cause. -/
def Sloe.recordCause (x : Sloe) (bit fault : Nat) (held : Bool) : W64 :=
  BitVec.ofNat 64 (min (fld x.cause 63 48 + 1) 0xFFFF * 2 ^ 48 + x.stage % 16 * 2 ^ 36 + fault % 2 ^ 16 * 2 ^ 16
    + ((if held then causeBits x.cause else 0) ||| 2 ^ bit))

/-- The event of an open merge window is written to the persistent log (Table 16.5). -/
def State.flushMerge (s : State) : State :=
  match s.sloe.merge with
  | none => s
  | some m => s.event 5 m.first (if m.level3 then 3 else 2) 0
      ((if m.level3 then 3 else 2) * 2 ^ 62 + s.sloe.l2Count * 2 ^ 48 + m.first * 2 ^ 32 + m.srcs.toNat)

/-- What both kinds of reset leave (Table 16.1): flash, fuses, straps, what the Sloe domain keeps, HBM as ciphertext; every other
register at its reset value, clocks stopped, links silent. The generator's health goes on (R384, log 13). -/
def State.resetCore (s : State) (stage : Nat) (cause : W64) : State :=
  let s := s.closeMgmt
  let r := State.reset
  { r with
    pending := s.pending
    clk := { r.clk with
      wall := s.clk.wall, beat := s.clk.beat, baseOp := s.fuses.topOp, runOp := s.fuses.topOp, refAt := s.clk.wall
      alignCount := s.clk.alignCount }
    hearth := { r.hearth with
      power := s.fuses.powerReset, entropyOk := s.hearth.entropyOk, entropyRun := s.hearth.entropyRun }
    tim := { r.tim with refOk := s.pins.refclk, tickAt := s.clk.wall }
    cel := { r.cel with
      blocks := s.cel.blocks, fills := s.cel.fills, powerOn := s.cel.powerOn, symErr := s.cel.symErr, patrolSeen := s.clk.wall }
    fuses := s.fuses
    pins := { s.pins with alarmN := !s.sloe.latched, pulse0 := false, pulse1 := false, tdo := s.pins.tdo }
    sloe := { r.sloe with
      panPos := s.sloe.panPos, strapped := s.sloe.strapped, stage := stage, stageAt := s.clk.wall, cause := cause, latched := s.sloe.latched
      l2Count := s.sloe.l2Count, lasting := s.sloe.lasting, idKey := s.sloe.idKey }
    flash := s.flash
    jtag := if s.pins.trstN && s.pins.resetN && s.pins.porstN then s.jtag else { r.jtag with bnd := s.jtag.bnd }
    draws := s.draws
    out := s.out }

/-- The module is held by a reset line. -/
def State.held (s : State) : Bool := !s.pins.resetN || !s.pins.porstN

/-- A module reset (R413, R414); one that falls into a power reset's stages adds its cause only. -/
def State.moduleReset (s : State) (bit : Nat) : State :=
  if s.sloe.stage < 3 then s.modSloe (fun x => { x with cause := x.cause ||| BitVec.ofNat 64 (2 ^ bit) })
  else (s.flushMerge).resetCore 3 (s.sloe.recordCause bit 0 (!s.pins.resetN && s.sloe.stage = 3))

/-- A power reset (R413, R414): HBM contents are lost, PWR_OK falls. -/
def State.powerReset (s : State) (bit fault : Nat) : State :=
  if s.sloe.stage = 0 then s.modSloe (fun x => { x with cause := x.cause ||| BitVec.ofNat 64 (2 ^ bit) })
  else
    let s := s.resetCore 1 (s.sloe.recordCause bit fault (!s.pins.porstN && s.sloe.stage = 1))
    (s.modCel (fun c => { c with blocks := [], fills := [], powerOn := c.powerOn + 1, symErr := [] })).modPins
      (fun p => { p with pwrOk := false })

/-- A Sloe power-on (R413): everything but fuses and flash starts afresh. -/
def State.sloeReset (s : State) : State :=
  let s := s.closeMgmt
  let r := State.reset
  { r with
    pending := s.pending
    clk := { r.clk with
      wall := s.clk.wall, beat := s.clk.beat, baseOp := s.fuses.topOp, runOp := s.fuses.topOp, refAt := s.clk.wall
      alignCount := s.clk.alignCount }
    hearth := { r.hearth with power := s.fuses.powerReset }
    tim := { r.tim with refOk := s.pins.refclk, tickAt := s.clk.wall }
    cel := { r.cel with powerOn := s.cel.powerOn + 1, patrolSeen := s.clk.wall }
    fuses := s.fuses
    pins := { s.pins with pwrOk := false, alarmN := true, pulse0 := false, pulse1 := false, tdo := none }
    sloe := { r.sloe with stageAt := s.clk.wall, cause := 1#64 }
    flash := s.flash
    draws := s.draws
    out := s.out }

end Sys2Proof.Machine
end

