-- ==== Sys2Proof/Machine/Mailbox.lean ====
section
/-! DEFINITION. Mailboxes and management blocks: which commands Hearth takes, the checks of R283, responses (R282 to R286, R391,
R369), POST and MBX_RESPONSE. -/

namespace Sys2Proof.Machine

/-! Channels -/

def srcPorch : Src → Bool
  | .porch _ => true
  | .mgmt _ _ => false

/-- Pair of the Porch; 0 on the management channel. -/
def srcPair : Src → Nat
  | .porch n => n.val
  | .mgmt _ _ => 0

def State.mbx (s : State) (n : Nat) : Mbx := s.hearth.mbx.get Mbx.zero n
def State.modMbx (s : State) (n : Nat) (f : Mbx → Mbx) : State := s.modHearth (fun h => { h with mbx := h.mbx.upd Mbx.zero n f })

/-- The command block that a channel holds out to Hearth: the latched block of a busy pair that has no response yet, or the block
that came on an open connection. -/
def State.srcBlock (s : State) : Src → Option (BitVec 2048)
  | .porch n => let m := s.mbx n.val; if m.busy && m.resp = none then some m.latch else none
  | .mgmt c b => if s.hearth.conns.get false c.val then some b else none

/-- DETAIL of COMMAND_DONE (Table 10.15). -/
def State.commandDone (s : State) (mgmt : Bool) (pair : Nat) (b : BitVec 2048) : State :=
  s.event 1 0 (Config.eventSeverity 1 0).toNat 0 (b2n mgmt * 2 ^ 62 + pair * 2 ^ 60 + blkTag b * 2 ^ 52 + blkOp b * 2 ^ 36)

/-- The continuation blocks of a management response: data in pieces of 248 bytes (R285). -/
def dataBlocks (b : BitVec 2048) : Nat → List Byte → List (BitVec 2048)
  | 0, _ => []
  | _, [] => []
  | k + 1, d => respBlock b 0 (d.take 248) :: dataBlocks b k (d.drop 248)

/-- Answer a command: a Porch response waits for its mailbox, a management response is sent with its data. -/
def State.answer (s : State) (src : Src) (b : BitVec 2048) (code : Nat) (payload data : List Byte) : State :=
  match src with
  | .porch n => s.modMbx n.val (fun m => { m with resp := some (respBlock b code payload) })
  | .mgmt c _ =>
    let s := s.emit (.mgmt c.val (respBlock b code payload))
    let s := (dataBlocks b (ceilDiv data.length 248) data).foldl (fun (s : State) x => s.emit (.mgmt c.val x)) s
    s.commandDone true 0 b

/-! What Hearth takes -/

/-- Commands of Table 10.10. -/
def opKnown (op : Nat) : Bool :=
  [0x01, 0x02, 0x10, 0x11, 0x20, 0x21, 0x22, 0x23, 0x30, 0x31, 0x32, 0x40, 0x41, 0x42, 0x50, 0x51, 0x52, 0x60, 0x61, 0x70, 0x71,
    0x72, 0x80, 0x81, 0x90, 0x91, 0x92, 0xA0, 0xA1, 0xA2, 0xA3, 0xA4].contains op
def opMgmtOnly (op : Nat) : Bool := [0x42, 0x50, 0x51, 0x80].contains op
def opPorchOnly (op : Nat) : Bool := [0x91, 0x92].contains op
/-- A command that needs a session on the Porch. -/
def opSession (op : Nat) : Bool := [0x11, 0x20, 0x21, 0x22, 0x30, 0x31, 0x32, 0x52, 0x70, 0x71, 0x72].contains op
/-- A command that changes module state (R286). -/
def opState (op : Nat) : Bool :=
  [0x11, 0x20, 0x21, 0x22, 0x30, 0x31, 0x32, 0x50, 0x51, 0x52, 0x60, 0x61, 0x70, 0x71, 0x72, 0x80, 0xA0, 0xA1, 0xA2, 0xA3,
    0xA4].contains op
/-- What the ROM serves in recovery mode (R278). -/
def opRecovery (op : Nat) : Bool := [0x01, 0x02, 0x70, 0x71, 0x81].contains op
/-- What a latched module serves (R391). -/
def opLatched (op : Nat) : Bool := [0x01, 0x02, 0x90, 0x81].contains op

/-- Hearth answers commands (R278, Table 16.2). -/
def State.serving (s : State) : Bool := !s.hearth.wedged && (s.hearth.ready || s.hearth.recovery)

/-- What a command answers: REASON and payload of the response, data for the host, the bytes it read by DMA, whether the response
comes later, the state it leaves. -/
structure Reply where
  code    : Nat
  payload : List Byte
  data    : List Byte
  dma     : Option (List Byte)
  later   : Bool
  st      : State

def State.ok (s : State) : Reply := ⟨0, [], [], none, false, s⟩
def State.okP (s : State) (payload : List Byte) : Reply := ⟨0, payload, [], none, false, s⟩
def State.no (s : State) (code : Nat) : Reply := ⟨code, [], [], none, false, s⟩
/-- A refusal by a check of chapter 12: TIM_STATUS.REASON shows it (Table 12.9). -/
def State.timNo (s : State) (code : Nat) : Reply := (s.modTim (fun t => { t with reason := code })).no code
/-- A refusal by a check of chapter 14: HTH_ALARM_STATUS.REASON shows it (Table 14.6). -/
def State.secNo (s : State) (code : Nat) : Reply := (s.modSloe (fun x => { x with reason := code })).no code

/-- Recording replays (R369). -/
def State.replaying (s : State) : Bool := recEnable s.hearth.rec_.ctl && recReplay s.hearth.rec_.ctl && s.hearth.rec_.active

/-- The first failure of R283 in the order of its list, 0 for none; `len` the command's payload length, `rsv` its reserved fields
are zero, `range` its fields lie in range. Recovery mode and LATCHED refuse every opcode that they do not serve (R278, R391), before any
other check but that of the version (log 13). -/
def State.admission (s : State) (porch : Bool) (b : BitVec 2048) (len : Nat) (rsv range : Bool) : Nat :=
  let op := blkOp b
  if blkVer b ≠ s.hearth.protoSel.toNat || s.hearth.protoSel = 0#8 then 0x0202
  else if s.sloe.latched && !opLatched op then 0x050F
  else if s.hearth.recovery && !opRecovery op then 0x0301
  else if !opKnown op then 0x0101
  else if (porch && opMgmtOnly op) || (!porch && opPorchOnly op) then 0x0508
  else if porch && opSession op && s.hearth.sess = none && !s.hearth.recovery then 0x050B
  else if blkLen b ≠ len then 0x0102
  else if fld b 63 48 ≠ 0 || !rsv then 0x0103
  else if !range then 0x0104
  else 0

/-- A REG_WRITE of HTH_RECORD_CTL. -/
def recordWrite (b : BitVec 2048) : Bool := blkOp b = 0x11 && blkByte b 0 = 1 && blkNum b 4 4 / 8 = 6

/-- A REG_WRITE that clears HTH_RECORD_CTL.ENABLE: bit 31 of the upper word, written as 0 (Table 10.11). -/
def stopsRecord (b : BitVec 2048) : Bool :=
  recordWrite b && blkNum b 4 4 = 0x34 && (blkNum b 12 4).testBit 31 && !(blkNum b 8 4).testBit 31

/-- Run a command that passes the checks; the first of its own checks refuses state commands during a replay (R283, R369). -/
def State.checked (s : State) (porch : Bool) (b : BitVec 2048) (len : Nat) (rsv range : Bool) (own : State → Reply) : Reply :=
  match s.admission porch b len rsv range with
  | 0 =>
    if opState (blkOp b) && s.replaying && !stopsRecord b then (s.modRec (fun r => { r with reason := 0x0311 })).no 0x0311
    else own s
  | code => if code = 0x050F || code = 0x050B then s.secNo code else s.no code

/-- Trace record of Hearth (Table 15.7). -/
def State.hearthTrace (s : State) (mgmt : Bool) (pair ev : Nat) (b : BitVec 2048) : State :=
  s.trace 7 127 0 ev (blkTag b * 256 + b2n mgmt * 16 + pair) (blkOp b) s.hearth.cmdCount

/-- Begin a command. -/
def State.beginCommand (s : State) (src : Src) (b : BitVec 2048) : State :=
  (s.modHearth (fun h => { h with cmdCount := h.cmdCount + 1 })).hearthTrace (!srcPorch src) (srcPair src) 0 b

/-- End a command with its response. -/
def State.endCommand (s : State) (src : Src) (b : BitVec 2048) (code : Nat) (payload data : List Byte) : State :=
  (s.hearthTrace (!srcPorch src) (srcPair src) (if code = 0 then 1 else 2) b).answer src b code payload data

/-- Whether a command is recorded (R366): state commands, but not writes of HTH_RECORD_CTL. -/
def recorded (b : BitVec 2048) : Bool := opState (blkOp b) && !recordWrite b

/-- The block that a channel's command carries, whether or not its connection still stands. -/
def State.srcBody (s : State) : Src → BitVec 2048
  | .porch n => (s.mbx n.val).latch
  | .mgmt _ b => b

/-- A state command executes: a context switch or a scan, which answer later (R286). -/
def State.stateBusy (s : State) : Bool := s.hearth.switchSrc.isSome || s.dbg.scanSrc.isSome

/-- A reserved opcode is answered by the checks (R283). -/
def State.answerReserved (s : State) (src : Src) (b : BitVec 2048) : State :=
  (s.beginCommand src b).endCommand src b (s.admission (srcPorch src) b (blkLen b) true true) [] []

/-- The response of a state command that answers later: its log entry, then the response where the channel still takes it; one that
replay runs is held against its entry instead (R366, R370). -/
def State.laterDone (s : State) (src : Src) (code : Nat) (payload : List Byte) : State :=
  match s.hearth.logged with
  | some hd => (s.modHearth (fun h => { h with logged := none })).replayCheck hd code none none
  | none =>
    let s := if recorded (s.srcBody src) then s.logEntry s.hearth.accHdr (s.srcBody src) code none else s
    match s.srcBlock src with
    | some b => s.endCommand src b code payload []
    | none => s

/-- Take the command `op` that `src` holds out: `me` is the row itself. A state command waits behind one that executes or waits
(R286). -/
def State.command (s : State) (src : Src) (op : Nat) (me : Instr) (run : State → BitVec 2048 → Reply) : State :=
  match s.srcBlock src with
  | none => s
  | some b =>
    if !s.serving then s
    else if blkOp b ≠ op then (if opKnown (blkOp b) then s else s.answerReserved src b)
    else if opState op && (s.stateBusy || (!s.hearth.waitq.isEmpty && s.hearth.waitq.head? != some me)) then
      s.modHearth (fun h => { h with waitq := h.waitq ++ [me] })
    else
      let s := s.beginCommand src b
      let hdr := s.logHeader (!srcPorch src) (srcPair src) b
      let r := run s b
      let s := r.st
      if r.later then (if opState op then s.modHearth (fun h => { h with accHdr := hdr }) else s)
      else
        let s := if recorded b then s.logEntry hdr b r.code r.dma else s
        s.endCommand src b r.code r.payload r.data

/-- The Porch is reached: the Barrin link is up (R279, R280). -/
def State.porchUp (s : State) : Bool := s.hearth.barrin == 4

/-- Data for the host: by DMA on the Porch, which needs the Barrin link (R280) and a host that takes it (R287), in the response on the
management channel (R285). -/
def State.toHost (s : State) (porch dma : Bool) (addr : Nat) (payload data : List Byte) : Reply :=
  if porch && !(dma && s.porchUp) then s.no 0x0603
  else if porch then ⟨0, payload, [], none, false, s.sendHost (.dmaWrite addr data)⟩ else ⟨0, payload, data, none, false, s⟩

/-! POST and the response (R282, R284) -/

/-- MBX_CTLn.POST (R282, R284). -/
def State.postMbx (s : State) (n : Nat) : State :=
  let m := s.mbx n
  if m.busy || m.done then s.modMbx n (fun m => { m with overrun := true })
  else
    let b := m.inn
    let s := s.modMbx n (fun m => { m with latch := b, busy := true, resp := none })
    if blkOp b = 0x81 && blkLen b = 4 && blkNum b 0 4 = 0xA5A55A5A then s.moduleReset 3 else s

/-- POST (R282). -/
def execPost (n : Fin 4) (s : State) : Result := .next (if s.porchUp then s.postMbx n.val else s)

/-- Hearth answers a latched block with a reserved opcode; no row of the table is its command (R283). -/
def State.mbxReserved (s : State) (n : Fin 4) : State :=
  match s.srcBlock (.porch n) with
  | some b => if s.serving && !opKnown (blkOp b) then s.answerReserved (.porch n) b else s
  | none => s

/-- Write a waiting response while DONE is 0 (R282); a wedged Hearth answers nothing (R278). -/
def State.mbxDeliver (s : State) (n : Nat) : State :=
  let m := s.mbx n
  match m.resp with
  | some x =>
    if m.done || !m.busy || s.hearth.wedged then s
    else
      (s.modMbx n (fun m => { m with out := x, done := true, busy := false, resp := none })).commandDone false n m.latch
  | none => s

/-- MBX_RESPONSE (R282). -/
def execMbxResponse (n : Fin 4) (s : State) : Result := .next ((s.mbxReserved n).mbxDeliver n.val)

end Sys2Proof.Machine
end

