-- ==== Sys2Proof/Machine/Alarm.lean ====
section
/-! DEFINITION. Alarms (R388 to R393), re-measurement (R375) and the random generator's health (R384). -/

namespace Sys2Proof.Machine

/-- ALARM_N follows LEVEL2 and LATCHED (R392). -/
def State.driveAlarm (s : State) : State := s.modPins (fun p => { p with alarmN := !(s.sloe.level2 || s.sloe.latched) })

/-- L3_THRESHOLD (Table 14.10). -/
def Sloe.threshold (x : Sloe) : Nat := max (fld x.ctl 3 0) 2

/-- The codes of Table 14.5; 0 for a reserved bit. -/
def alarmCode : Nat → Nat
  | 0 => 0x0501 | 1 => 0x0502 | 2 => 0x0503 | 3 => 0x0506 | 4 => 0x0510 | 5 => 0x0511 | 6 => 0x0516 | 7 => 0x050D | 8 => 0x0517
  | 16 => 0x0513 | 17 => 0x0514 | 18 => 0x0515 | 19 => 0x0512
  | _ => 0

/-- A port with keys leaves UP, or the end of its training, for BACKOFF (R390 step 5). -/
def State.alarmPort (s : State) (p : Nat) : State :=
  let st := (s.port p).state
  if 5 ≤ st && st ≤ 8 then ((s.linkDown p 0x050E false false).modPort p Port.eraseKeys).backOff p 0x050E else s

/-- A running mover fails with 0x050E; nothing of it is written any more (R390 step 5). -/
def State.alarmMover (s : State) (m : Nat) (c : MoverCmd) : State :=
  ((s.cellErr c (mvHbm c.args) 0x050E).raise 0x050E 5 m 0).mvEnd m c true

/-- Pantry operations and movers in progress fail (R390 step 5). -/
def State.alarmEngines (s : State) : State :=
  let s := s.cel.movers.foldl (fun (s : State) x => match x.2 with
    | some m => s.alarmMover x.1 m.cmd
    | none => s) s
  let s := s.pan.ops.foldl (fun (s : State) e => s.endOp e 0x050E) s
  s.modPan (fun p => { p with pieces := [], dead := [] })

/-- State commands in progress that need a context fail: CTX_SWITCH, a scan of a global stop, one that waits for its turn (R390 step 5). -/
def State.alarmCommands (s : State) : State :=
  let s := match s.hearth.switchSrc with
    | some src => (s.modHearth (fun h => { h with switchSrc := none, switchTo := none })).laterDone src 0x050E []
    | none => s
  match s.dbg.scanSrc with
  | some src =>
    ((s.modDbg (fun d => { d with scan := none, scanSrc := none, stop := putFld d.stop 62 62 0 })).updatePosture).laterDone src 0x050E
      (leBytes 8 s.dbg.scanSent)
  | none => s

/-- LATCHED (R391): clocks stop, HBM loses power, ports are electrically idle. -/
def State.latch (s : State) : State :=
  let s := { s with ports := mapOver Port.zero s.ports (fun t => { t with state := 0 }) }
  (s.modClk (fun c => { c with cluRun := [], celRun := false, linkRun := false })).modCel (fun c => { c with
    ready := false, stacksOk := 0#8, blocks := [], fills := [], powerOn := c.powerOn + 1, symErr := [] })

/-- A context that is not FREE becomes FAULTED; its regions stay assigned (R390 step 4). -/
def Ctx.faulted (c : Ctx) : Ctx :=
  if c.state = 0 then c else { c with state := 6, jobLoaded := false, jobRec := none, saved := none, reason := 0x050E }

/-- The actions of R390, in its order. -/
def State.alarmActions (s : State) (level3 : Bool) : State :=
  let s := s.eraseKeys
  let s := ((s.endJob 0x050E).haltAll).alarmEngines.endRecord
  let st := s.tt.state
  let s := s.clearResident.modTt (fun t => { t with state := if st = 5 then 5 else 0 })
  let s := s.modHearth (fun h => { h with ctxs := mapOver Ctx.zero h.ctxs Ctx.faulted, running := none })
  let s := s.alarmCommands
  let s := iter 8 s (fun p s => s.alarmPort p)
  if level3 then s.latch else s.modClk (fun c => { c with cluRun := [] })

/-- A level-2 trigger (R389, R390) whose condition lasts `lasts` nanoseconds: the first of a merge window counts and acts; later ones join
it. -/
def State.alarm2 (s : State) (bit code lasts : Nat) : State :=
  let m : BitVec 20 := BitVec.ofNat 20 (2 ^ bit)
  let s := (s.modSloe (fun x => { x with
    sources := x.sources ||| m, reason := code, lasting := x.lasting.set 0 bit (s.clk.wall + quNs lasts) })).w1Mark 1 0x40 bit
  match s.sloe.merge with
  | some w => s.modSloe (fun x => { x with merge := some { w with srcs := w.srcs ||| m } })
  | none =>
    let n := min (s.sloe.l2Count + 1) 255
    let l3 : Bool := s.sloe.threshold ≤ n
    let s := (s.modSloe (fun x => { x with
      l2Count := n, level2 := true, latched := x.latched || l3, merge := some ⟨s.clk.wall, m, code, l3⟩ })).w1Mark 1 0x44 30
    (s.driveAlarm).alarmActions l3

/-- The monitor of a level-2 source is armed (R388): rails and sensors from PWR_OK until power-down sequencing, VAUX_3V3 (`aux`) while it
is up, re-measurement once the components are loaded. The rails' monitors are armed together (log 13). -/
def State.armed (s : State) (bit : Nat) (aux : Bool) : Bool :=
  if bit < 16 then true
  else if bit = 19 then s.hearth.measured
  else if aux && bit == 16 then s.pins.vaux
  else s.pins.pwrOk && s.hearth.pState != 3

/-- A source of Table 14.5 triggers. -/
def State.alarm (s : State) (bit lasts : Nat) : State :=
  let code := alarmCode bit
  if code = 0 then s else if 16 ≤ bit then s.alarm2 bit code lasts else s.alarm1 bit code

/-- ALARM_TRIGGER (R389): `aux` names VAUX_3V3 as the rail, `lasts` is the time that the condition of a level-2 source goes on, in
nanoseconds. -/
def execAlarmTrigger (bit : Fin 20) (aux : Bool) (lasts : Nat) (s : State) : Result :=
  .next (if s.armed bit.val aux then s.alarm bit.val lasts else s)

/-- MERGE_WINDOW_END (R389, R393): one event names every source of the window. -/
def execMergeWindowEnd (s : State) : Result :=
  .next (match s.sloe.merge with
    | some m => if m.since + quMs 1 ≤ s.clk.wall then (s.flushMerge).modSloe (fun x => { x with merge := none }) else s
    | none => s)

/-- The loaded copies of the components of Table 14.1 that firmware has loaded. -/
def loadedIds : List Nat := [2, 3, 4, 5, 6]

/-- The measurement of a loaded copy (R374). -/
def State.measureOf (s : State) (id : Nat) : BitVec 256 := BitVec.ofNat 256 (sha256 (s.hearth.loaded.get [] id))

/-- A loaded copy differs from its boot measurement (R375). -/
def State.badComponent (s : State) : Bool := s.hearth.measured && loadedIds.any (fun i => s.measureOf i != s.hearth.measures.get 0#256 i)

/-- A level-2 condition of Table 14.5 persists (R392). -/
def State.level2Lasts (s : State) : Bool :=
  [16, 17, 18].any (fun b => decide (s.clk.wall < s.sloe.lasting.get 0 b)) || s.badComponent

/-- LEVEL2 is written as 1 from the management channel (R392): it clears unless a level-2 condition persists. -/
def State.clearLevel2 (s : State) : State :=
  if s.level2Lasts then s else (s.modSloe (fun x => { x with level2 := false })).driveAlarm

/-- LEVEL2_CLEAR (R392): the write comes by management connection `n`; LATCHED refuses it (R391). -/
def execLevel2Clear (n : Fin 4) (s : State) : Result :=
  .next (if s.hearth.conns.get false n.val && !s.sloe.latched && s.w1Clears 1 0x44 30 (BitVec.ofNat 32 (2 ^ 30)) then s.clearLevel2 else s)

/-- ENTROPY_FAILURE (R384, Table 14.5): draws are refused. -/
def execEntropyFailure (s : State) : Result :=
  .next ((s.modHearth (fun h => { h with entropyOk := false, entropyRun := 0 })).alarm1 7 0x050D)

/-- ENTROPY_RECOVERY (R384): `good` further samples in a row pass; with 1,024 the generator gives output again. -/
def execEntropyRecovery (good : Nat) (s : State) : Result :=
  .next (if s.hearth.entropyOk then s
    else if s.hearth.entropyRun + good < 1024 then s.modHearth (fun h => { h with entropyRun := h.entropyRun + good })
    else s.modHearth (fun h => { h with entropyOk := true, entropyRun := 0 }))

/-- A byte of a loaded copy takes a value: component, position, value. -/
def State.spoil (s : State) (c : Nat × Nat × Byte) : State :=
  s.modHearth (fun h => { h with loaded := h.loaded.upd [] c.1 (fun bs => bs.set c.2.1 c.2.2) })

/-- MEASUREMENT_PASS (R375): the loaded copies, of which the bytes of `changed` have changed since the last pass, are measured again. -/
def execMeasurementPass (changed : List (Nat × Nat × Byte)) (s : State) : Result :=
  let s := changed.foldl State.spoil s
  .next (if s.badComponent then s.alarm 19 0 else s)

end Sys2Proof.Machine
end

