-- ==== Sys2Proof/Machine/Array.lean ====
section
/-! DEFINITION. The A slot: array configuration, weight buffers, matrix multiply-accumulate, tile clear and drain (R110 to
R116), with the K-group arithmetic of R47 to R50. -/

namespace Sys2Proof.Machine

/-! K-group arithmetic -/

/-- Element `i` of a packed array of codes of `w` bits (R31). -/
def packedCode (w n i : Nat) : Nat := n / 2 ^ (w * i) % 2 ^ w

/-- The value of an element of an array operand; a scaled INT8 element counts in units of 2^-6 (R35). -/
def operandVal (f : Fmt) (scaled : Bool) (code : Nat) : Val :=
  match f.decode code with
  | .fin s m e => .fin s m (if scaled && f == .int8 then e - 6 else e)
  | v => v

/-- The exponent of an E8M0 scale code; none for its NaN (R35). -/
def scaleExp (x : Nat) : Option Int := if x = 0xFF then none else some ((x : Int) - 127)

/-- `kgroup_exact` of R47: 64 pairs of values with the scale exponents of their halves. -/
def kgroupExact (a b : List Val) (sa sb : Nat → Option Int) : Nat × Flags :=
  let ps := withIx (a.zip b)
  let badScale : Bool := (List.range 2).any (fun h => (sa h).isNone || (sb h).isNone)
  let prods := ps.map (fun p => (p.1, p.2.1.mul p.2.2))
  if badScale || ps.any (fun p => p.2.1.isNan || p.2.2.isNan) || prods.any (fun p => p.2.2 != 0#4) then (Fmt.fp32.nan, fInvalid)
  else
    let infs := prods.filterMap (fun p => match p.2.1 with
      | .inf s => some s
      | _ => none)
    if infs.contains true && infs.contains false then (Fmt.fp32.nan, fInvalid)
    else match infs with
      | s :: _ => (Fmt.fp32.infCode s, 0#4)
      | [] =>
        let t := prods.foldl (fun acc p => match p.2.1 with
          | .fin s m e => (acc.add (.fin s m (e + (sa (p.1 / 32)).getD 0 + (sb (p.1 / 32)).getD 0))).1
          | v => (acc.add v).1) (.fin false 0 0)
        if t.isZero then (0, 0#4) else roundTo .fp32 .rne false 0 t

/-- The K-group result of R48 for BF16 and FP16. -/
def kgroupTree (a b : List Val) : Nat × Flags :=
  let ps := (a.zip b).map (fun p =>
    let (v, g) := p.1.mul p.2
    let (r, h) := roundTo .fp32 .rne false 0 v
    (r, g ||| h))
  let (r, g) := treeSum add32 (ps.map (·.1))
  (r, ps.foldl (fun acc p => acc ||| p.2) g)

/-- The exact integer K-group sum of R50. -/
def kgroupInt (a b : List Nat) : Int := (a.zip b).foldl (fun acc p => acc + toSigned 8 p.1 * toSigned 8 p.2) 0

/-- The K-group results of one A row against the buffer: for each K-group the 64 columns' values, and the flags (R114).
An integer group's values are its sums, a floating-point group's are FP32 codes. -/
def rowGroups (cfg : BitVec 20) (b : WBuf) (row : Nat) (scales : List Byte) : List (List Int) × Flags :=
  match Fmt.ofCode (cfgA cfg), Fmt.ofCode (cfgB cfg) with
  | some fa, some fb =>
    let k := cfgK cfg
    let wa := codeBits (cfgA cfg)
    let wb := codeBits (cfgB cfg)
    let bd := b.data.toNat
    let col (n g : Nat) : List Nat := (List.range 64).map (fun i => packedCode wb bd (n * k + 64 * g + i))
    let arow (g : Nat) : List Nat := (List.range 64).map (fun i => packedCode wa row (64 * g + i))
    let sA (g h : Nat) : Option Int := if cfgAsc cfg then scaleExp (scales.getD (2 * g + h) 0#8).toNat else some 0
    let sB (n g h : Nat) : Option Int :=
      if cfgBsc cfg then scaleExp (nfld b.scale.toNat (8 * (n * (k / 32) + 2 * g + h) + 7) (8 * (n * (k / 32) + 2 * g + h)))
      else some 0
    let res := (List.range (k / 64)).map (fun g => (List.range 64).map (fun n =>
      if cfgIacc cfg then (kgroupInt (arow g) (col n g), 0#4)
      else
        let x := (arow g).map (operandVal fa (cfgAsc cfg))
        let y := (col n g).map (operandVal fb (cfgBsc cfg))
        let r := if cfgBeats cfg = 2 then kgroupTree x y else kgroupExact x y (sA g) (sB n g)
        ((r.1 : Int), r.2)))
    (res.map (fun l => l.map (·.1)), res.foldl (fun acc l => l.foldl (fun acc p => acc ||| p.2) acc) 0#4)
  | _, _ => ([], 0#4)

/-- Add one K-group's values into a tile row (R49, R50). -/
def rowAddGroup (iacc : Bool) (row : BitVec 2048) (g : List Int) : BitVec 2048 × Flags :=
  let r := (withIx g).map (fun p =>
    let x := row.toNat / 2 ^ (32 * p.1) % 2 ^ 32
    if iacc then addClamp32 x p.2 else add32 x p.2.toNat)
  (BitVec.ofNat 2048 (packBits 32 (r.map (·.1))), r.foldl (fun acc p => acc ||| p.2) 0#4)

/-- Add K-group results into row `row` of tile `t`, in increasing K order (R49), recording the array's flags. -/
def Core.addRow (k : Core) (t row : Nat) (iacc : Bool) (gs : List (List Int)) : Core :=
  let tl := k.tile t
  let (r, fl) := gs.foldl (fun (acc : BitVec 2048 × Flags) g =>
    let (x, f) := rowAddGroup iacc acc.1 g
    (x, acc.2 ||| f)) (tl.rows.get 0#2048 row, 0#4)
  { k with tiles := k.tiles.set Tile.zero t { tl with rows := tl.rows.set 0#2048 row r } }.orFlags 16 fl

/-! Drain -/

/-- The formats and results of R116 for one element; none where DFMT is not defined for the mode. -/
def drainElem (int32 : Bool) (dfmt : Nat) (rm : Rm) (sat : Bool) (u x : Nat) : Nat × Flags :=
  let v : Val := if int32 then .fin (toSigned 32 x < 0) (toSigned 32 x).natAbs 0 else Fmt.fp32.decode x
  match int32, dfmt with
  | false, 0 => (x, 0#4)
  | true, 3 => (x, 0#4)
  | true, 0 => roundTo .fp32 rm sat u v
  | _, 1 => roundTo .bf16 rm sat u v
  | _, _ => roundTo .fp16 rm sat u v

/-- The format counter of Table 15.2 for the 256 elements of a drain. -/
def State.drainOps (s : State) (n : Nat) (int32 : Bool) (dfmt : Nat) : State :=
  match int32, dfmt with
  | _, 0 => s.ops n 0xB8 256
  | _, 1 => s.ops n 0xA8 256
  | _, 2 => s.ops n 0xB0 256
  | _, _ => s

/-- Element `l` of rows 4j to 4j + 3 of a tile (R67). -/
def Tile.elem (t : Tile) (j l : Nat) : Nat := (t.rows.get 0#2048 (4 * j + l / 64)).toNat / 2 ^ (32 * (l % 64)) % 2 ^ 32

/-! Meanings -/

/-- ANOP (R87): reads nothing, writes nothing. -/
def execAnop (_c : CoreRef) (s : State) : Result := .next s

/-- ACFG (R111). -/
def execAcfg (c : CoreRef) (a : BitVec 6) (s : State) : Result :=
  .next (s.issue c 1 true [.s a] (fun s =>
    s.post c 1 [⟨s.clk.beat, .acfg (((s.core c).s a).truncate 20), none, 0#4⟩] id))

/-- Bytes of B and its load beats (R112). -/
def wloadBytes (cfg : BitVec 20) : Nat := 64 * cfgK cfg * codeBits (cfgB cfg) / 8

/-- A load that the weight-buffer unit takes next fills wb1: that buffer is inactive once the swaps before it are done (R64, R113). -/
def Core.fills1 (k : Core) : Bool :=
  k.act1 == ((k.acts.filter (fun a => a.eff == .swap)).length % 2 == 1)

/-- WLOAD (R112). -/
def execWload (c : CoreRef) (a b : BitVec 6) (s : State) : Result :=
  let k := s.core c
  let cfg := k.acfg
  let x := (k.s a).toNat
  let y := (k.s b).toNat
  let bsc := cfgBsc cfg
  let nb := wloadBytes cfg / 512
  .next (s.issue c 1 (cfgOk cfg) ([.s a, .acfg] ++ if bsc then [.s b] else []) (fun s =>
    if x % 64 ≠ 0 || sramEnd < x + wloadBytes cfg || (bsc && (y % 64 ≠ 0 || sramEnd < y + 2 * cfgK cfg)) then s.trap c 1 2 0
    else s.enter c 1 .wb (nb + b2n bsc) (fun t s => s.post c 1
      ((List.range nb).map (fun i => ⟨t + i, .wload (x + 512 * i) i k.fills1, none, 0#4⟩)
        ++ (if bsc then [⟨t + nb, .wscale y (2 * cfgK cfg) k.fills1, none, 0#4⟩] else [])
        ++ [⟨t + nb + b2n bsc - 1, .wcfg (cfg.truncate 9) k.fills1, none, 0#4⟩]) id)))

/-- WSWAP (R113). -/
def execWswap (c : CoreRef) (s : State) : Result :=
  .next (s.issue c 1 true [] (fun s => s.enter c 1 .wb 1 (fun t s => s.post c 1 [⟨t, .swap, none, 0#4⟩] id)))

/-- The configuration suits the active buffer and the tile (R66, R114). -/
def Core.mmaOk (k : Core) (tile : Nat) (x : Nat) : Bool :=
  k.acfg.truncate 9 == k.active.cfg && (k.tile tile).int32 == cfgIacc k.acfg &&
    !(cfgAsc k.acfg && 5 ≤ cfgA k.acfg) && !(cfgBsc k.acfg && 5 ≤ cfgB k.acfg) && x % 32 == 0

/-- MMA (R114). -/
def execMma (c : CoreRef) (tile : BitVec 2) (m a b : BitVec 6) (s : State) : Result :=
  let k := s.core c
  let cfg := k.acfg
  let x := (k.s a).toNat
  let y := (k.s b).toNat
  let n := m.toNat + 1
  let rb := cfgRow cfg
  let asc := cfgAsc cfg
  let sb := cfgK cfg / 32
  .next (s.issue c 1 (k.mmaOk tile.toNat x) ([.s a, .acfg, .mode tile.toNat] ++ if asc then [.s b] else []) (fun s =>
    if sramEnd < x + 32 * cfgStride cfg * (n - 1) + rb || (asc && sramEnd < y + n * sb) then s.trap c 1 2 0
    else s.enter c 1 .array (n * cfgBeats cfg) (fun t s => s.post c 1
      ((List.range n).flatMap (fun i =>
        let at_ := x + 32 * cfgStride cfg * i
        if cfgBeats cfg = 2 then
          [⟨t + 2 * i, .mmaHalf tile.toNat i at_ false none k.active cfg, some 16, 0#4⟩,
           ⟨t + 2 * i + 1, .mmaHalf tile.toNat i (at_ + 64) true none k.active cfg, some 16, 0#4⟩]
        else
          [⟨t + i, .mmaRow tile.toNat i at_ rb (if asc then some (y + i * sb) else none) k.active cfg, some 16, 0#4⟩])) id)))

/-- TCLR (R115). -/
def execTclr (c : CoreRef) (tile : BitVec 2) (mode : BitVec 1) (s : State) : Result :=
  .next (s.issue c 1 true [.tile tile.toNat] (fun s =>
    s.enter c 1 .acc 1 (fun t s => s.post c 1 [⟨t + 1, .tclr tile.toNat (mode == 1#1), none, 0#4⟩] id)))

/-- DRAIN (R67, R116). It counts as an operation that may set flags whatever DFMT is, so that FLRD and FLCLR of set 16 wait for it (R100,
log 12). -/
def execDrain (c : CoreRef) (tile : BitVec 2) (j : BitVec 4) (v : BitVec 6) (rm : BitVec 2) (sat : BitVec 1) (dfmt : BitVec 2)
    (clr : BitVec 1) (s : State) : Result :=
  let k := s.core c
  let t := tile.toNat
  let tl := k.tile t
  .next (s.issue c 1 (rm != 3#2 && (tl.int32 || dfmt != 3#2))
      (.mode t :: (List.range 4).map (fun i => .row t (4 * j.toNat + i))) (fun s =>
    s.enter c 1 .acc 1 (fun at_ s =>
      let seq := (k.dseq.get 0#42 t).toNat
      let r := lanes (BitVec.allOnes 256) (fun l =>
        let u := if rm = 2#2 then s.coreDraw24 k (0xA000 + t) (seq * 256 + l) else 0
        drainElem tl.int32 dfmt.toNat (rmOf rm) (sat == 1#1) u (tl.elem j.toNat l))
      s.post c 1
        ([⟨at_ + 2, .vreg v.toNat r.1 allLanes, some 16, r.2.2⟩]
          ++ if clr = 1#1 then [⟨at_, .rowClr t j.toNat, none, 0#4⟩] else [])
        (fun s => (s.modCore c (fun k => { k with dseq := k.dseq.upd 0#42 t (· + 1#42) })).drainOps c.ix tl.int32 dfmt.toNat))))

end Sys2Proof.Machine
end

