-- ==== Sys2Proof/Machine/Points.lean ====
section
/-! DEFINITION. Operating points: what a change of point does to the regions (R325, R330, R332, R352). -/

namespace Sys2Proof.Machine

/-- The reference beat count (R335). -/
def State.rbc (s : State) : Nat := s.clk.rbcHalf.toNat / 2

/-- Points that the grade permits, the fastest first (Table 12.2). -/
def Fuses.points (f : Fuses) : List Nat := if f.od720 then [1, 2, 3, 4] else [0, 2, 3, 4]

/-- Cluster and Cellar regions stop for a time and the alignment that it ends with (R329, R332). -/
def State.stopRegions (s : State) (w : Nat) : State :=
  s.beginAlign.modClk (fun c => { c with
    cluRun := [], celRun := false, startAt := none, resumeAt := some (s.alignEnd w)
    haltBeat := if c.resumeAt.isSome then c.haltBeat else s.clk.beat })

/-- What the stopped regions hold goes on `d` beats later; epoch beats count on (R325 last step). -/
def State.regionsLater (s : State) (d : Nat) : State :=
  { s with
    cores := mapOver Core.zero s.cores (fun k => k.putOff d)
    clusters := mapOver Cluster.zero s.clusters (fun x => { x with
      landQ := x.landQ.map (fun l => { l with due := l.due + d })
      samp := x.samp.map (fun v => { v with start := v.start + d }) })
    hall := s.hall.map (fun u => { u with enter := u.enter + d, issue := u.issue + d }) }

/-- Regions whose alignment is over (R325): those of a slip or a change of point, those that start, those of a global stop. -/
def State.restartRegions (s : State) : State :=
  let past (t : Option Nat) : Bool := t.any (· ≤ s.clk.wall)
  let s := if past s.clk.resumeAt then
      let s := if s.stopped then s else s.regionsLater (s.clk.beat - s.clk.haltBeat)
      (s.modClk (fun c => { c with resumeAt := none, aligned := true })).alignOver
    else s
  let s := if past s.clk.startAt then (s.modClk (fun c => { c with startAt := none })).alignOver else s
  if past s.clk.stopEnds then s.stopOver else s

/-- Quanta of a half beat at a point (R335, Table 12.2). -/
def halfQuanta (op : Nat) : Nat := 67200 / opHalf op

/-- The half beat of the link region's clock, which slews for 10 µs to a new point (R332). -/
def Clk.halfBeat (c : Clk) : Nat :=
  let q := halfQuanta c.runOp
  match c.slew with
  | none => q
  | some (q0, t) =>
    let d := min (c.wall - t) (quUs 10)
    if q0 ≤ q then q0 + (q - q0) * d / quUs 10 else q0 - (q0 - q) * d / quUs 10

/-- Run at a point (R332): regions stop for 12 µs, the link region slews; a faster point retrains every port in the quiet window that the
change opens. -/
def State.runAt (s : State) (code : Nat) : State :=
  let faster := opMhz s.clk.runOp < opMhz code
  let s := (s.modClk (fun c => { c with runOp := code, slew := some (c.halfBeat, c.wall) })).stopRegions (quUs 12)
  if faster then { s with ports := mapOver Port.zero s.ports (fun t => if t.state = 7 then { t with retrain := true, quietNow := true } else t) }
  else s

/-- The uniform stretch last commanded (R328, R352). -/
def State.capNow (s : State) : Nat := (s.clk.capNext.map (·.2)).getD s.clk.capStretch

/-- Command a uniform stretch, which the link region announces 4 periods ahead (R328). -/
def State.setStretch (s : State) (n : Nat) : State := s.modClk (fun c => { c with capNext := some (c.beat + 4, n) })

/-- A planned change of the running point takes place, never above the base point; the uniform stretch is then removed (R352). -/
def State.capStep (s : State) : State :=
  match s.clk.capTarget with
  | some code =>
    let code := if opMhz s.clk.baseOp < opMhz code then s.clk.baseOp else code
    let s := s.modClk (fun c => { c with capTarget := none })
    if code = s.clk.runOp then s else (((s.setStretch 0).runAt code).bump 6 0x168 1).raise 0x0625 0 0 0
  | none => s

end Sys2Proof.Machine
end

