-- ==== Sys2Proof/Machine/Epoch.lean ====
section
/-! DEFINITION. Epochs and the barrier (R153 to R155, R176 to R182, R336, R423). -/

namespace Sys2Proof.Machine

/-! Counts -/

/-- The descriptor of an epoch (Table 6.1). -/
def State.descOf (s : State) (i : Nat) : W64 := s.tt.epochs.get 0#64 i
def descStop (w : W64) : Bool := bitOf w 63
def descNext (w : W64) : Nat := fld w 59 48
def descBarrier (w : W64) : Nat := fld w 47 24
def descLength (w : W64) : Nat := fld w 23 0 + 1

/-- An occurrence of a reason of Table 6.17 at a port, or at the module (port 8): the first of the epoch is an event (R182). -/
def State.epochEvent (s : State) (code p : Nat) : State :=
  let key := code * 16 + p
  if s.tt.seenEvents.contains key then s
  else
    let s := s.modTt (fun t => { t with seenEvents := key :: t.seenEvents })
    if p = 8 then s.raise code 0 0 0 else s.raise code 1 p 0

/-! The block (R229) -/

/-- Members of the module's line on an axis, its position, and whether the line is a ring (R177, R229). -/
def State.line (s : State) (a : Nat) : Nat × Nat × Bool :=
  let blk := s.pan.jobBlock.get 0#32 (s.hearth.running.getD 0)
  let n := s.ring a
  let ext := fld blk (16 + 4 * a + 3) (16 + 4 * a) + 1
  (ext, (s.ownAxis a + n - fld blk (4 * a + 3) (4 * a) % n) % n, ext == n && s.wraps a)

/-! Sections -/

/-- First command of section `k` of a command list (R300). -/
def Steward.sectionAt (t : Steward) (k : Nat) : Nat :=
  if k = 0 then 0
  else
    match ((List.range t.len).filter (fun i => cmdKind (t.store.get 0#256 i) == 7)).drop (k - 1) with
    | i :: _ => i + 1
    | [] => t.len

/-- A steward takes up the section of the descriptor (R153); without commands it finishes at once (R300). -/
def Steward.begin (t : Steward) (desc : Nat) : Steward :=
  if t.len = 0 then { t with run := .finished }
  else if t.ended then { t with run := .stopped }
  else { t with pos := t.sectionAt desc, run := .ready, halted := false, pass := false }

/-- Physical clusters of the loaded job. -/
def State.jobClusters (s : State) : List Nat :=
  match s.job with
  | some j => j.phys.map (·.2)
  | none => []

/-! Slip maps (R181) -/

/-- The record of Table 6.13. -/
def SlipMap.pack (m : SlipMap) (p node start index : Nat) : BitVec 1024 :=
  let hist := (List.range 16).foldl (fun a b => a + m.hist.get 0 b * 2 ^ (32 * b)) 0
  BitVec.ofNat 1024 (hist * 2 ^ 512 + min m.slipPeak 64 * 2 ^ 364 + min m.storePeak 2048 * 2 ^ 352 + m.landRange * 2 ^ 320
    + m.routeMiss * 2 ^ 288 + m.holdRx * 2 ^ 272 + m.holdTx * 2 ^ 256 + m.holdBeats * 2 ^ 224 + m.max * 2 ^ 200
    + m.sum * 2 ^ 160 + m.cells * 2 ^ 128 + p * 2 ^ 108 + node * 2 ^ 96 + start * 2 ^ 32 + index % 2 ^ 32)

/-- Close the slip map of port `p` for the epoch and start a new one; the last 16 are kept. -/
def State.closeMap (s : State) (p : Nat) : State :=
  let t := s.port p
  let r := t.map.pack p s.nodeId s.tt.start.toNat s.tt.index.toNat
  let used := min (s.storeUsed p) 2048
  s.modPort p (fun t => { t with
    maps := (t.maps ++ [r]).drop (t.maps.length + 1 - 16)
    map := { SlipMap.zero with storePeak := used, slipPeak := t.slip.length } })

/-! The barrier -/

/-- A barrier cell's body (Table 6.10). -/
def barrierBody (v desc epoch hops origin phase : Nat) : BitVec 192 :=
  BitVec.ofNat 192 (v % 2 ^ 24 * 2 ^ 40 + desc % 2 ^ 12 * 2 ^ 28 + epoch % 2 ^ 16 * 2 ^ 12 + hops % 16 * 2 ^ 8 + origin % 16 * 2 ^ 4
    + phase % 4 * 2 ^ 2)

/-- Send this phase's value both ways along its axis (R177). -/
def State.sendPhase (s : State) (ph : Nat) : State :=
  let (n, pos, isRing) := s.line ph
  let up := if isRing then n / 2 else n - 1 - pos
  let down := if isRing then (n - 1) / 2 else pos
  let body (h : Nat) := barrierBody s.tt.value s.tt.desc s.tt.index.toNat h pos ph
  let s' := if up = 0 then s else s.sendBypass (2 * ph) (s.clk.beat + originLag) 1 (body up)
  if down = 0 then s' else s'.sendBypass (2 * ph + 1) (s.clk.beat + originLag) 1 (body down)

/-- Hold the job as paused at the barrier (R423, Table 10.22). -/
def State.pauseJob (s : State) : State :=
  let s := s.modTt (fun t => { t with state := 6, pauseNext := false })
  (match s.hearth.running with
    | some x => s.modCtx x (fun c => { c with job := 2 })
    | none => s).jobEvent 0 6

/-- End the job at its barrier (R180, Table 10.22). -/
def State.endAtBarrier (s : State) : State :=
  let s := s.modTt (fun t => { t with state := 5, stopNext := false, pauseNext := false })
  (match s.hearth.running with
    | some x => s.modCtx x (fun c => { c with job := 3 })
    | none => s).jobEvent 0 5

/-- The module holds Δ (R178, R180, R181): slip maps close, the next descriptor comes up, or the job ends or pauses. -/
def State.barrierDone (s : State) : State :=
  let d := s.descOf s.tt.desc
  let s := iter 6 s (fun p s => s.closeMap p)
  let s := s.modTt (fun t => { t with
    lateness := t.value, agreed := some t.value, index := t.index + 1#32, heard := [], desc := descNext d, ready := none })
  if descStop d || s.tt.stopNext then s.endAtBarrier
  else if s.tt.pauseNext || !s.clk.valid then s.pauseJob
  else s.modTt (fun t => { t with state := 4 })

/-- Take the phases that are complete, from the current one (R177); a phase that begins sends its cells. -/
def State.advance (s : State) : Nat → State
  | 0 => s
  | fuel + 1 =>
    let ph := s.tt.phase
    let (n, pos, _) := s.line ph
    let vals := (List.range n).filter (· != pos) |>.map (fun o => s.tt.heard.find? (fun h => h.1 == ph && h.2.1 == o))
    if s.tt.state = 3 && vals.all Option.isSome then
      let v := vals.foldl (fun a h => max a ((h.map (·.2.2)).getD 0)) s.tt.value
      let s := s.modTt (fun t => { t with value := v })
      if ph = 2 then s.barrierDone
      else ((s.modTt (fun t => { t with phase := ph + 1 })).sendPhase (ph + 1)).advance fuel
    else s

/-- The module is ready (R176); cells on the spine toward a port count as cells of its slip buffer. -/
def State.isReady (s : State) : Bool :=
  s.tt.state == 2 && !s.pan.fenced &&
    s.jobClusters.all (fun k => (s.cluster k).stw.run == .finished) &&
    (List.range 6).all (fun p =>
      let t := s.port p
      t.slip.isEmpty && t.inbound.isEmpty && s.storeUsed p == t.resSched && t.replay.all (fun r => r.cell.cls != 0#2))

/-- BARRIER_READY (R176, R177, R352). -/
def execBarrierReady (s : State) : Result :=
  .next (if !s.isReady then s
    else
      let r := s.epochBeat
      let late := min (r - descBarrier (s.descOf s.tt.desc)) (2 ^ 24 - 1)
      let s := s.modTt (fun t => { t with state := 3, ready := some r, readyAt := s.clk.wall, myLate := late, value := late, phase := 0 })
      let s := (s.trace 6 124 0 7 (late / 2 ^ 16) (late % 2 ^ 16) s.tt.index.toNat).capStep
      (s.sendPhase 0).advance 3)

/-- Beats from a bypass cell's release to its use in the module. -/
def bypassLag : Nat := 98

/-- BARRIER_CELL (R177, R179): the first barrier cell in hand at port `p`. -/
def execBarrierCell (p : Fin 8) (s : State) : Result :=
  let q := p.val
  .next (match s.takeBypass q 1 bypassLag with
    | none => s
    | some (x, s) =>
      let w := bypBody x.cell
      let hops := fld w 11 8
      let ph := fld w 3 2
      if hops = 0 || ph = 3 || 6 ≤ q then s.epochEvent 0x0713 q
      else
        let s := if hops ≤ 1 then s
          else s.sendBypass (q ^^^ 1) (x.rel + forwardLag) 1
            (barrierBody (fld w 63 40) (fld w 39 28) (fld w 27 12) (hops - 1) (fld w 7 4) ph)
        if fld w 27 12 ≠ s.tt.index.toNat % 2 ^ 16 || fld w 39 28 ≠ s.tt.desc then s.epochEvent 0x0713 q
        else if s.pan.fenced then s
        else (s.modTt (fun t => { t with heard := t.heard ++ [(ph, fld w 7 4, fld w 63 40)] })).advance 3)

/-- BARRIER_TIMEOUT in wall time, inside its limits (Table 6.12). -/
def State.barrierLimit (s : State) : Nat := quUs (min (max (fld s.tt.ctl 16 0) 10) 100000)

/-- BARRIER_TIMEOUT (R180): ready for the timeout without Δ. -/
def execBarrierTimeout (s : State) : Result :=
  .next (if s.tt.state = 3 && !s.tt.seenEvents.contains (0x0712 * 16 + 8) && s.tt.readyAt + s.barrierLimit ≤ s.clk.wall && !s.stopped then
      ((s.modTt (fun t => { t with timeout := true })).w1Mark 1 0x00 27).epochEvent 0x0712 8
    else s)

/-- The agreed start of the next epoch: S for the first or a resumed one, S′ of R178 for a following one. -/
def State.startValue (s : State) : Nat :=
  if s.tt.state = 4 then s.tt.start.toNat + s.tt.length + s.tt.lateness else s.tt.start.toNat

/-- Start an epoch (R154, R178, R336, R409). -/
def State.startEpoch (s : State) : State :=
  let at_ := s.startValue
  let late := s.rbc - at_
  let following := s.tt.state = 4
  let s := { s with
    clk := { s.clk with fbc := BitVec.ofNat 64 s.rbc }
    tt := { s.tt with
      state := 2, start := BitVec.ofNat 64 at_, beat0 := s.clk.beat - late, length := descLength (s.descOf s.tt.desc)
      agreed := none, seenEvents := [], ready := none, timeout := s.tt.timeout, overrun := s.tt.overrun || (following && 0 < late) } }
  let s := if following && 0 < late then (s.w1Mark 1 0x00 28).epochEvent 0x0714 8 else s
  let s := s.trace 6 124 0 6 0 s.tt.desc s.tt.index.toNat
  s.jobClusters.foldl (fun s k => s.modCluster k (fun x => { x with landed := [], stw := x.stw.begin s.tt.desc })) s

/-- EPOCH_START (R155, R178, R336): the module starts the epoch it waits for, in the first beat in which its RBC is at or above the
start value; while its FBC is invalid the job is held as paused (R423). -/
def execEpochStart (s : State) : Result :=
  .next (if (s.tt.state = 1 || s.tt.state = 4) && !s.pan.fenced then
      if !s.clk.valid then s.pauseJob
      else if s.startValue ≤ s.rbc then s.startEpoch
      else s
    else s)

end Sys2Proof.Machine
end

