-- ==== Sys2Proof/Machine/Debug.lean ====
section
/-! DEFINITION. The global trigger, stops, cells that carry them, breakpoints, the trace port and beacons (R394 to R408, R411). -/

namespace Sys2Proof.Machine

/-! The global trigger (R397) -/

/-- Beats from a trigger's or stop's observation to its cut. -/
def cutLag : Nat := 12

def freezeTrace (s : State) (origin release seq : Nat) : State := s.trace 8 125 0 9 origin release seq

/-- A trigger observed now: the frozen views are taken at the end of beat x + 12; while they are frozen it is ignored and counted. -/
def State.trigger (s : State) (scope origin seq : Nat) : State :=
  let s := freezeTrace s origin 0 seq
  if s.frozen.isSome || s.dbg.cutAt.isSome then s.bump 7 0x110 1
  else s.modDbg (fun d => { d with
    cutAt := some (s.clk.beat + cutLag)
    freeze := BitVec.ofNat 64 (b2n (bitOf d.freeze 62) * 2 ^ 62 + scope * 2 ^ 60 + origin * 2 ^ 20 + seq) })

/-- The cut: every counter is copied (R397). -/
def State.takeCut (s : State) : State :=
  { s with
    frozen := some s.counters
    dbg := { s.dbg with cutAt := none, freeze := putFld s.dbg.freeze 63 63 1, freezeFbc := BitVec.ofNat 64 s.fbcStamp } }

/-- Release the frozen views. -/
def State.releaseViews (s : State) (origin seq : Nat) : State :=
  let s := freezeTrace s origin 1 seq
  { s with frozen := none, dbg := { s.dbg with cutAt := none, freeze := putFld s.dbg.freeze 63 63 0 } }

/-! Cells of a scope (R398, Table 15.4) -/

/-- Send a cell of a scope on every mesh port that it covers. -/
def State.sendScope (s : State) (type scope elig : Nat) (body : BitVec 192) : State :=
  let blk := s.pan.jobBlock.get 0#32 (s.hearth.running.getD 0)
  iter 6 s (fun p s =>
    let t := s.port p
    if t.state == 7 && !t.excluded && (scope == 2 || s.inBlock blk (s.nodeEntry t.partNode)) then s.sendBypass p elig type body else s)

/-- The body of a FREEZE or STOP cell: `flag` TIMED or RESUME, `rel` RELEASE. -/
def scopeBody (origin seq scope : Nat) (flag rel : Bool) (at_ : Nat) : BitVec 192 :=
  BitVec.ofNat 192 (origin % 4096 * 2 ^ 180 + seq % 2 ^ 20 * 2 ^ 160 + scope * 2 ^ 158 + b2n flag * 2 ^ 157 + b2n rel * 2 ^ 156 + at_ % 2 ^ 64)

/-- Act on a freeze: release, wait for a time, or trigger (R397, R398). `cell` marks one that came by a cell. -/
def State.actFreeze (s : State) (scope origin seq : Nat) (timed rel cell : Bool) (t : TimeWord) : State :=
  if rel then s.releaseViews origin seq
  else if !timed then s.trigger scope origin seq
  else if cell && s.tim.now.reached t then
    (s.modDbg (fun d => { d with freeze := putFld d.freeze 62 62 1 })).trigger scope origin seq
  else s.modDbg (fun d => { d with freezeAt := some (t, scope, origin, seq) })

/-- Keep the last 16 of a list of seen cells. -/
def keepSeen (l : List (Nat × Nat)) (x : Nat × Nat) : List (Nat × Nat) := (l ++ [x]).drop (l.length + 1 - 16)

/-- A cell of scope is taken, or discarded and counted (R398). -/
def State.scopeTaken (s : State) (cell : BitVec 256) (seen : List (Nat × Nat)) : Bool :=
  let w := bypBody cell
  let scope := fld w 159 158
  !seen.contains (fld w 191 180, fld w 179 160) && (scope == 2 || (scope == 1 && s.hearth.running == some (bypCtx cell)))

/-- FREEZE_CELL (R398). -/
def execFreezeCell (p : Fin 8) (s : State) : Result :=
  .next (match s.takeBypass p.val 2 bypassLag with
    | none => s
    | some (x, s) =>
      let w := bypBody x.cell
      let key := (fld w 191 180, fld w 179 160)
      let seen := s.dbg.seenFreeze
      let s := s.modDbg (fun d => { d with seenFreeze := keepSeen d.seenFreeze key })
      if !s.scopeTaken x.cell seen then s.bump 7 0x118 1
      else
        let scope := fld w 159 158
        let s := s.actFreeze scope key.1 key.2 (bitOf w 157) (bitOf w 156) true (s.tim.now.nearest (fld w 63 0))
        s.sendScope 2 scope (x.rel + forwardLag) w)

/-- TIMED_FREEZE_TRIGGER (R397): the programmed time is reached. -/
def execTimedFreezeTrigger (s : State) : Result :=
  .next (match s.dbg.freezeAt with
    | some (t, scope, origin, seq) =>
      if s.tim.now.reached t then (s.modDbg (fun d => { d with freezeAt := none })).trigger scope origin seq else s
    | none => s)

/-! Global stop (R405, R406) -/

/-- A stop observed now takes hold at beat x + 12; a second one has no effect. -/
def State.stopAtCut (s : State) (scope origin seq : Nat) : State :=
  if s.stopped || s.dbg.stopAt.isSome then s
  else s.modDbg (fun d => { d with
    stopAt := some (s.clk.beat + cutLag), stop := BitVec.ofNat 64 (scope * 2 ^ 60 + origin * 2 ^ 20 + seq) })

/-- The stop beat: cluster and Cellar regions stand still, the FBC holds (R405). -/
def State.takeStop (s : State) : State :=
  let s := s.modDbg (fun d => { d with
    stopAt := none, stop := putFld d.stop 63 63 1, stopFbc := BitVec.ofNat 64 s.fbcStamp, stopBeat := s.clk.beat, stopWall := s.clk.wall })
  (s.modClk (fun c => { c with cluRun := [], celRun := false })).trace 6 124 0 4 (fld s.dbg.stop 31 20) 0 (fld s.dbg.stop 19 0)

/-- Stop or resume. -/
def State.actStop (s : State) (scope origin seq : Nat) (resume : Bool) : State :=
  if resume then s.resumeStop else s.stopAtCut scope origin seq

/-- STOP_CELL (R398, R405, R406). -/
def execStopCell (p : Fin 8) (s : State) : Result :=
  .next (match s.takeBypass p.val 4 bypassLag with
    | none => s
    | some (x, s) =>
      let w := bypBody x.cell
      let key := (fld w 191 180, fld w 179 160)
      let seen := s.dbg.seenStop
      let s := s.modDbg (fun d => { d with seenStop := keepSeen d.seenStop key })
      if !s.scopeTaken x.cell seen then s.bump 7 0x118 1
      else
        let scope := fld w 159 158
        (s.actStop scope key.1 key.2 (bitOf w 157)).sendScope 4 scope (x.rel + forwardLag) w)

/-- A stop or resume of this module: its own number, its cells, its act. -/
def State.ownStop (s : State) (scope : Nat) (resume : Bool) : State :=
  let seq := (s.dbg.seqStop + 1) % 2 ^ 20
  let s := s.modDbg (fun d => { d with seqStop := seq, seenStop := keepSeen d.seenStop (s.nodeId, seq) })
  let s := s.actStop scope s.nodeId seq resume
  if scope = 0 then s else s.sendScope 4 scope (s.clk.beat + originLag) (scopeBody s.nodeId seq scope resume false 0)

/-- A freeze, timed freeze or release of this module. -/
def State.ownFreeze (s : State) (scope : Nat) (timed rel : Bool) (t : TimeWord) : State :=
  let seq := (s.dbg.seqFreeze + 1) % 2 ^ 20
  let s := s.modDbg (fun d => { d with seqFreeze := seq, seenFreeze := keepSeen d.seenFreeze (s.nodeId, seq) })
  let s := s.actFreeze scope s.nodeId seq timed rel false t
  if scope = 0 then s
  else s.sendScope 2 scope (s.clk.beat + originLag) (scopeBody s.nodeId seq scope timed rel (if timed then t.pack64 else 0))

/-! Breakpoints (R404, Table 15.15) -/

/-- A slot matches the command that steward `k` is about to begin. -/
def breakMatch (w : W64) (k pos : Nat) (cmd : BitVec 256) : Bool :=
  let x := match fld w 59 58 with
    | 0 => pos
    | 1 => cmdLayer cmd
    | 2 => cmdKind cmd
    | _ => cmdOper cmd
  breakArmed w && (fld w 55 48 == 0xFF || fld w 55 48 == k) && fld w 15 0 == x

/-- The lowest-numbered matching slot. -/
def State.breakHit (s : State) (k : Nat) : Option Nat :=
  let t := (s.cluster k).stw
  if t.pass then none else (List.range 8).find? (fun n => breakMatch (s.dbg.breaks.get 0#64 n) k t.pos t.cmd)

/-- Steward `k` halts at slot `n`'s breakpoint without beginning its command (R404). -/
def State.haltAt (s : State) (k n : Nat) : State :=
  let t := (s.cluster k).stw
  let w := s.dbg.breaks.get 0#64 n
  let s := s.modStw k (fun t => { t with halted := true })
  let s := s.modDbg (fun d => { d with breaks := d.breaks.upd 0#64 n (fun w => putFld w 62 62 1) })
  let s := (s.trace 0 k 0 3 (cmdLayer t.cmd) (cmdOper t.cmd) (t.seq + 1)).raiseSev 0x0315 0 2 k 0
  match fld w 61 60 with
  | 1 => s.ownStop 1 false
  | 2 => s.ownFreeze 1 false false TimeWord.zero
  | _ => s

/-! Trace port (R401 to R403) -/

/-- Number of marker intervals that the time counter has passed; nothing where MARKER_US is 0. -/
def State.markers (s : State) : Nat :=
  (s.tim.now.sec * 1000000 + s.tim.now.ns / 1000) / max (fld s.dbg.ctl 13 0) 1

/-- TRACE_MARKER (R401): the time counter has passed a multiple of MARKER_US. -/
def execTraceMarker (s : State) : Result :=
  let m := s.markers
  .next (if !bitOf s.dbg.ctl 30 || m = s.dbg.markAt then s
    else
      let late := m < s.dbg.markAt
      let s := s.modDbg (fun d => { d with markAt := m })
      if late then s
      else
        let w := s.tim.now.pack64
        s.trace 8 125 0 8 (w / 2 ^ 48) (w / 2 ^ 32 % 2 ^ 16) (w % 2 ^ 32))

/-- Records discarded are reported as soon as there is space (R402). -/
def State.lossRecord (s : State) : State :=
  if s.dbg.lossRun = 0 || 4096 ≤ s.dbg.trace.length then s
  else
    let n := s.dbg.lossRun
    (s.modDbg (fun d => { d with lossRun := 0 })).trace 8 126 0 0xA 0 0 n

/-- The answer of a finished scan: the bytes sent (Table 15.10). -/
def State.scanDone (s : State) : State :=
  let src := s.dbg.scanSrc
  let n := s.dbg.scanSent
  let s := (s.modDbg (fun d => { d with scan := none, scanSrc := none, stop := putFld d.stop 62 62 0 })).updatePosture
  match src with
  | some q => s.laterDone q 0 (leBytes 8 n)
  | none => s

/-- A scan that the end of its stop has cut off answers with 0x0314 and the bytes sent (log 13). -/
def State.scanPoll (s : State) : State :=
  match s.dbg.scanSrc, s.dbg.scan with
  | some q, none =>
    (s.modDbg (fun d => { d with scanSrc := none, stop := putFld d.stop 62 62 0 })).laterDone q 0x0314 (leBytes 8 s.dbg.scanSent)
  | _, _ => s

/-- TRACE_FRAME (R403): 16 records, else 256 bytes of a scan on path 0, else an idle frame; before scrambling. -/
def execTraceFrame (s : State) : Result :=
  .next (if !bitOf s.dbg.ctl 31 || !s.clk.linkRun then s
    else
      let head (kind : Nat) : List Byte := [0x5A#8, 0xC3#8, BitVec.ofNat 8 kind, BitVec.ofNat 8 s.dbg.frameCnt]
      let sent (s : State) : State := s.modDbg (fun d => { d with frameCnt := (d.frameCnt + 1) % 256 })
      if s.dbg.trace ≠ [] then
        let rs := s.dbg.trace.take 16
        let body := rs.flatMap (fun r => leBytes 16 r.toNat) ++ List.replicate (256 - 16 * rs.length) 0xFF#8
        (((sent (s.emit (.trace (head 0 ++ body)))).bump 7 0x100 rs.length).modDbg (fun d => { d with trace := d.trace.drop 16 })).lossRecord
      else match s.dbg.scan, s.dbg.scanPath with
        | some bs, 0 =>
          let x := bs.take 256
          let s := sent (s.emit (.trace (head 1 ++ x ++ List.replicate (256 - x.length) 0#8)))
          let s := s.modDbg (fun d => { d with scan := some (bs.drop 256), scanSent := d.scanSent + x.length })
          if bs.length ≤ 256 then s.scanDone else s
        | _, _ => sent (s.emit (.trace (head 2 ++ List.replicate 256 0#8))))

/-! Beacons (R408) -/

/-- BEACON_SEND (R408): in a beat that is a multiple of 2^BEACON_LOG an UP, non-excluded mesh port queues a beacon. -/
def execBeaconSend (p : Fin 8) (s : State) : Result :=
  let q := p.val
  let t := s.port q
  .next (if bitOf s.dbg.ctl 29 && bitOf s.dbg.ctl 31 && q < 6 && t.state = 7 && !t.excluded && s.clk.beat % 2 ^ fld s.dbg.ctl 18 14 = 0 then
      let n := (s.dbg.beaconSeq.get 0 q + 1) % 2 ^ 32
      (s.modDbg (fun d => { d with beaconSeq := d.beaconSeq.set 0 q n })).sendBypass q s.clk.beat 3
        (BitVec.ofNat 192 (n * 2 ^ 160 + q * 2 ^ 156))
    else s)

/-- A record with the stamp of an earlier beat. -/
def State.traceAt (s : State) (fbc : W64) (unit ev layer oper seq : Nat) : State :=
  let now := s.clk.fbc
  ((s.modClk (fun c => { c with fbc := fbc })).trace 5 unit 0 ev layer oper seq).modClk (fun c => { c with fbc := now })

/-- BEACON_CELL (R408): recorded with the release beat of its first half. -/
def execBeaconCell (p : Fin 8) (s : State) : Result :=
  .next (match s.takeBypass p.val 3 0 with
    | none => s
    | some (x, s) =>
      let w := bypBody x.cell
      s.traceAt x.fbc (112 + p.val) 0xC (bypSrc x.cell) (fld w 159 156) (fld w 191 160))

end Sys2Proof.Machine
end

