-- ==== Sys2Proof/Machine/Request.lean ====
section
/-! DEFINITION. Requests that a core hands to its cluster and to the fabric: departures (R139, R140), Pantry operations (R141),
board accesses (R138), sample requests (R85), with the wait at a full queue (R149). -/

namespace Sys2Proof.Machine

/-- The queue of cluster `k` for a request has room (R85, R140, R141, R250); Pantry work needs PAN_CTL.ENABLE (R251) and a module
that is not fenced (R233). -/
def State.queueRoom (s : State) (k : Nat) (r : FabReq) : Bool :=
  let x := s.cluster k
  match r with
  | .send _ => x.deps.length < 32
  | .pantry _ => s.ownWork && x.panQ.length < 16
  | .sample _ => x.sampQ.length < 4
  | .board o => s.ownWork && (s.freeTag o.place).isSome

/-- The queues of a cluster that its cores share: departures 0, Pantry 1, samples 2; a board access enters a slot of its own core. -/
def FabReq.queue : FabReq → Option Nat
  | .send _ => some 0
  | .pantry _ => some 1
  | .sample _ => some 2
  | .board _ => none

/-- Core `i` of cluster `k` waits to enter queue `q`. -/
def State.waitsFor (s : State) (k i q : Nat) : Bool :=
  (s.coreN (8 * k + i)).waits.any (fun w => match w with
    | .queue r => r.queue == some q
    | _ => false)

/-- It is the request's turn: no core of the cluster waits for its queue that came in an earlier beat, or in this one with a lower
number (R85). -/
def State.queueTurn (s : State) (c : CoreRef) (since : Nat) (r : FabReq) : Bool :=
  match r.queue with
  | none => true
  | some q => (List.range 8).all (fun i =>
      let t := (s.coreN (8 * c.k.val + i)).since
      i == c.i.val || !(t < since || (t == since && i < c.i.val)) || !s.waitsFor c.k.val i q)

/-- Enter a request in its queue. -/
def State.enqueue (s : State) (k : Nat) (r : FabReq) : State :=
  match r with
  | .send d => s.modCluster k (fun x => { x with deps := x.deps ++ [d] })
  | .pantry o => s.modCluster k (fun x => { x with panQ := x.panQ ++ [o] })
  | .sample q => s.modCluster k (fun x => { x with sampQ := x.sampQ ++ [q] })
  | .board o => s.openBoard o

/-- A request of a core: entered, or the core waits until its queue accepts it (R85, R149). The operation counts as open until
its completion point (R148). -/
def State.request (s : State) (c : CoreRef) (r : FabReq) : State :=
  if s.queueRoom c.k.val r && s.queueTurn c s.clk.beat r then (s.enqueue c.k.val r).modCore c (fun k => { k with open_ := k.open_ + 1 })
  else s.modCore c (fun k => { k with waits := k.waits ++ [.queue r], since := s.clk.beat })

/-- QUEUE_ACCEPT (R149): a queue that has room takes the entry that the core waits to enter. -/
def execQueueAccept (c : CoreRef) (s : State) : Result :=
  .next ((s.core c).waits.foldl (fun s w => match w with
    | .queue r =>
      if s.queueRoom c.k.val r && s.queueTurn c (s.core c).since r then
        (s.enqueue c.k.val r).modCore c (fun k => { k with open_ := k.open_ + 1, waits := k.waits.erase w })
      else s
    | _ => s) s)

end Sys2Proof.Machine
end

