-- ==== Sys2Proof/Machine/Move.lean ====
section
/-! DEFINITION. The M slot and VSAMP: SRAM moves (R105, R106), Hallway moves (R107, R108), departures (R139), board and Pantry
operations (R138, R141 to R144), completion counters and the guard (R75, R76, R146, R147), sample requests (R136). -/

namespace Sys2Proof.Machine

/-! SRAM moves -/

/-- MNOP (R87): reads nothing, writes nothing. -/
def execMnop (_c : CoreRef) (s : State) : Result := .next s

/-- LDS (R105). -/
def execLds (c : CoreRef) (d a : BitVec 6) (sz : BitVec 2) (sx : BitVec 1) (off : BitVec 12) (s : State) : Result :=
  .next (s.issue c 0 true [.s a] (fun s =>
    let n := 2 ^ sz.toNat
    let addr := (s.core c).ldsAddr a off
    if !ldsOk addr n then s.trap c 0 2 0
    else s.post c 0 [⟨s.clk.beat, .loadS d.toNat addr n (sx == 1#1), none, 0#4⟩] id))

/-- STS (R105). -/
def execSts (c : CoreRef) (b a : BitVec 6) (sz : BitVec 2) (off : BitVec 12) (s : State) : Result :=
  .next (s.issue c 0 true [.s a, .s b] (fun s =>
    let n := 2 ^ sz.toNat
    let k := s.core c
    let addr := k.ldsAddr a off
    if !ldsOk addr n then s.trap c 0 2 0
    else s.post c 0 [⟨s.clk.beat, .storeA addr (leBytes n (k.s b).toNat), none, 0#4⟩] id))

/-- VLD (R106). -/
def execVld (c : CoreRef) (v a : BitVec 6) (off : BitVec 15) (s : State) : Result :=
  .next (s.issue c 0 true [.s a] (fun s =>
    let addr := (s.core c).vldAddr a off
    if !vldOk addr then s.trap c 0 2 0
    else s.post c 0 [⟨s.clk.beat, .loadV v.toNat addr, none, 0#4⟩] id))

/-- VST (R106). -/
def execVst (c : CoreRef) (v a : BitVec 6) (off : BitVec 15) (s : State) : Result :=
  .next (s.issue c 0 true [.s a, .v v] (fun s =>
    let k := s.core c
    let addr := k.vldAddr a off
    if !vldOk addr then s.trap c 0 2 0
    else s.post c 0 [⟨s.clk.beat, .storeA addr (leBytes 1024 (k.v v).toNat), none, 0#4⟩] id))

/-! Hallway moves -/

/-- A cluster holds a used plan position of the loaded image (R107, R307). -/
def State.clusterUsed (s : State) (k : Nat) : Bool := match s.job with
  | some j => j.phys.any (fun x => x.2 == k)
  | none => false

/-- Beats that a hop from position `a` to position `b` takes (R108, R78). -/
def State.hopLat (s : State) (a b : Nat × Nat) : Nat := if isStair a b then (if s.latA1 then 9 else 8) else 2

/-- The links, each with its sending position, direction and beat, that a unit takes from hop `j` on, entered at beat `e`. -/
def State.linkUse (s : State) (src dir : Nat) : Nat → Nat → Nat → List ((Nat × Nat) × Nat × Nat)
  | 0, _, _ => []
  | left + 1, j, e =>
    let at_ (i : Nat) : Nat × Nat := (hopPos (coreCol src) (coreRow src) dir i).getD (0, 0)
    (at_ (j - 1), dir, e) :: s.linkUse src dir left (j + 1) (e + s.hopLat (at_ (j - 1)) (at_ j))

/-- The links of units in transit and of units still to be read. -/
def State.linksTaken (s : State) : List ((Nat × Nat) × Nat × Nat) :=
  s.hall.flatMap (fun u => s.linkUse u.src u.dir (u.hops + 1 - u.hop) u.hop u.enter)
    ++ s.cores.flatMap (fun p => p.2.acts.flatMap (fun a => match a.eff with
      | .hread _ _ dir hops _ _ => s.linkUse p.1 dir hops 1 (a.due + 1)
      | _ => []))

/-- A move of `n` units issued now would meet another on a link (R18). The manual does not say which of two cores traps: here the one
that issues later, and of two that issue in one beat the one later in the order of the cores (log 12). -/
def State.linkMeet (s : State) (src dir hops n : Nat) : Bool :=
  let taken := s.linksTaken
  (List.range n).any (fun u => (s.linkUse src dir hops 1 (s.clk.beat + u + 1)).any taken.contains)

/-- HMOV (R107, R108): unit `u` is read in beat t + u. In guarded mode it traps where it would meet another move (Table 3.5);
which of the two cores traps is `linkMeet`'s choice (log 12). -/
def execHmov (c : CoreRef) (dir : BitVec 2) (hops a : BitVec 6) (s : State) : Result :=
  let k := s.core c
  let d := hmovDesc (k.s a)
  let dst := hopPos (coreCol c.ix) (coreRow c.ix) dir.toNat hops.toNat
  let dest := (dst.map (fun p => coreAt p.1 p.2)).getD 0
  .next (s.issue c 0 (hops != 0#6 && dst.isSome && s.clusterUsed (dest / 8) && d.ok) [.s a] (fun s =>
    if d.src % 64 ≠ 0 || d.dst % 64 ≠ 0 || sramEnd < d.src + 128 * d.n || sramEnd < d.dst + 128 * d.n then s.trap c 0 2 0
    else if s.guarded && s.linkMeet c.ix dir.toNat hops.toNat d.n then s.trap c 0 6 dir.toNat
    else s.post c 0 ((List.range d.n).map (fun u => ⟨s.clk.beat + u,
      .hread u (d.src + 128 * u) dir.toNat hops.toNat (d.dst + 128 * u) (if d.ccen then some d.cc else none), none, 0#4⟩)) id))

/-- The core to which a Hallway unit travels. -/
def HallUnit.target (u : HallUnit) : Nat :=
  let p := (hopPos (coreCol u.src) (coreRow u.src) u.dir u.hops).getD (0, 0)
  coreAt p.1 p.2

/-- A unit that has left its last hop and is due at a core (R108). -/
def State.arrival (s : State) (n : Nat) : Option HallUnit :=
  s.hall.find? (fun u => u.hops < u.hop && u.enter ≤ s.clk.beat && u.target == n)

/-- A bundle of the core at place `n` that faults in this beat takes no effect: what it has in flight, and the units that it read in
this beat, are dropped (R79). -/
def State.undo (s : State) (n issue pc : Nat) : State :=
  let s := s.modCoreN n (fun k => k.cancel issue pc)
  { s with hall := s.hall.filter (fun u => !(u.src == n && u.issue == issue && u.pc == pc && u.hop == 1 && s.clk.beat < u.enter)) }

/-- HALLWAY_ARRIVAL (R108, R77): the first unit due at a core is written and counted. Where it meets one of the core's own
accesses of the beat, the core traps in guarded mode and the unit is written all the same; else the unit comes a beat later. Two
arrivals that meet in one bank in one beat are both written: Table 3.5 has no row for them (log 12). -/
def execHallwayArrival (c : CoreRef) (s : State) : Result :=
  .next (match s.arrival c.ix with
    | none => s
    | some u =>
      let k := s.core c
      let meet := if k.bankAt = s.clk.beat then k.banks.find? (fun x => (banksOf u.dst 128).contains x.1 && x.2.2.2 < 4) else none
      let write (s : State) : State :=
        let s := { s with hall := s.hall.erase u }
        let s := ((s.takeBanks c.ix u.dst 128).sramWrite c.ix u.dst (leBytes 128 u.data.toNat)).1
        match u.cc with
        | some n => s.incCC c.ix n 1
        | none => s
      match meet with
      | none => write s
      | some x =>
        if s.guarded then ((write s).undo c.ix x.2.1 x.2.2.1).trapAt c.ix x.2.1 x.2.2.1 x.2.2.2 5 x.1
        else { s.bumpCore c.ix 0x20 1 with
          hall := s.hall.map (fun y => if y = u then { u with enter := s.clk.beat + 1 } else y) })

/-! Operands of the operations that leave the core -/

/-- The identity that an operation carries: its core, bundle and the steward command current in the cluster (R400). -/
def State.panOp (s : State) (c : CoreRef) (opcode p dst l n aop cc : Nat) (data : BitVec 512) : PanOp :=
  let w := s.curCmd c.k.val
  ⟨c.k.val, c.i.val, false, opcode, p, dst, l, n, aop, cc, (s.core c).pc, data, w.1, w.2.1, w.2.2, s.clk.beat⟩

/-- A Pantry address names the Pantry space of this hall (R138, R141). -/
def State.paOk (s : State) (p : Nat) : Bool := paSpace p == 0 && paHall p == s.hallId

/-- A node lies on this module's board (R138, R224). -/
def State.onBoard (s : State) (node : Nat) : Bool :=
  (List.range 3).all (fun a => nfld node (4 * a + 3) (4 * a) / 2 == nfld s.nodeId (4 * a + 3) (4 * a) / 2)

/-- The address faults of LDG and STG (R138). -/
def State.boardOk (s : State) (p l n : Nat) : Bool :=
  p % n == 0 && l % n == 0 && l + n ≤ sramEnd && s.paOk p && s.onBoard (paNode p)

/-- LDG (R138). -/
def execLdg (c : CoreRef) (a b : BitVec 6) (sz : BitVec 2) (s : State) : Result :=
  let k := s.core c
  let p := (k.s a).toNat
  let y := k.s b
  let n := 8 * 2 ^ sz.toNat
  .next (s.issue c 0 (fld y 55 21 == 0) [.s a, .s b] (fun s =>
    if !s.boardOk p (fld y 20 0) n then s.trap c 0 2 0
    else s.request c (.board (s.panOp c 0x06 p 0 (fld y 20 0) n 0 (fld y 63 56) 0#512))))

/-- STG (R138): the bytes are read in the issue beat, as an access of the core's own; the request follows the read. -/
def execStg (c : CoreRef) (a b : BitVec 6) (sz : BitVec 2) (s : State) : Result :=
  let k := s.core c
  let p := (k.s a).toNat
  let y := k.s b
  let n := 8 * 2 ^ sz.toNat
  .next (s.issue c 0 (fld y 55 21 == 0) [.s a, .s b] (fun s =>
    if !s.boardOk p (fld y 20 0) n then s.trap c 0 2 0
    else s.post c 0 [⟨s.clk.beat, .stg (s.panOp c 0x07 p 0 (fld y 20 0) n 0 (fld y 63 56) 0#512), none, 0#4⟩] id))

/-- The route class that FSEND and FSENDM require at the origin (R139). -/
def sendRouteOk (multi : Bool) (e : W32) : Bool :=
  rtValid e && (if multi then rtRole e == 2 else rtRole e == 1 && (rtOut e).length == 1 && !rtLand e)

/-- FSEND and FSENDM (R139). -/
def State.fsend (s : State) (c : CoreRef) (a b : BitVec 6) (cc : BitVec 8) (ccen : BitVec 1) (multi : Bool) : State :=
  let k := s.core c
  let d := fsendDesc (k.s a) (k.s b)
  s.issue c 0 (d.ok && d.cidx + d.n ≤ 2 ^ 20 && d.dep < s.tt.length && sendRouteOk multi (s.route d.route)) [.s a, .s b] (fun s =>
    if d.src % 64 ≠ 0 || sramEnd < d.src + 64 * d.n then s.trap c 0 2 0
    else s.request c (.send ⟨c.i.val, ccen == 1#1, cc.toNat, d.route, d.cidx, d.n, s.tt.beat0 + d.dep, d.src, 0, s.clk.beat, multi⟩))

/-- FSEND (R139). -/
def execFsend (c : CoreRef) (a b : BitVec 6) (cc : BitVec 8) (ccen : BitVec 1) (s : State) : Result :=
  .next (s.fsend c a b cc ccen false)

/-- FSENDM (R139). -/
def execFsendm (c : CoreRef) (a b : BitVec 6) (cc : BitVec 8) (ccen : BitVec 1) (s : State) : Result :=
  .next (s.fsend c a b cc ccen true)

/-- The limits of PGET and PPUT (R141, R142). -/
def State.pgetOk (s : State) (p l n : Nat) : Bool :=
  s.paOk p && 8 ≤ n && n ≤ 4096 && n % 8 == 0 && p % 8 == 0 && l % 8 == 0 && l + n ≤ sramEnd

/-- PGET and PPUT (R142). -/
def State.pgetput (s : State) (c : CoreRef) (a b : BitVec 6) (opcode : Nat) : State :=
  let k := s.core c
  let p := (k.s a).toNat
  let y := k.s b
  let n := fld y 55 43 + 1
  s.issue c 0 (fld y 42 21 == 0) [.s a, .s b] (fun s =>
    if !s.pgetOk p (fld y 20 0) n then s.trap c 0 2 0
    else s.request c (.pantry (s.panOp c opcode p 0 (fld y 20 0) n 0 (fld y 63 56) 0#512)))

/-- PGET (R142). -/
def execPget (c : CoreRef) (a b : BitVec 6) (s : State) : Result := .next (s.pgetput c a b 0x10)

/-- PPUT (R142). -/
def execPput (c : CoreRef) (a b : BitVec 6) (s : State) : Result := .next (s.pgetput c a b 0x11)

/-- The SRAM bytes from L that an atomic uses (Table 5.7). -/
def atomBytes (op : Nat) : Nat := if op = 0 then 8 else 24

/-- PATOM (R143). -/
def execPatom (c : CoreRef) (a b : BitVec 6) (s : State) : Result :=
  let k := s.core c
  let p := (k.s a).toNat
  let y := k.s b
  let op := fld y 55 53
  let l := fld y 20 0
  .next (s.issue c 0 (fld y 42 21 == 0 && fld y 52 43 == 0 && op ≤ 3) [.s a, .s b] (fun s =>
    if !s.paOk p || p % 8 ≠ 0 || l % 8 ≠ 0 || sramEnd < l + atomBytes op then s.trap c 0 2 0
    else s.request c (.pantry (s.panOp c 0x12 p 0 l 8 op (fld y 63 56) 0#512))))

/-- PCOPY (R144). -/
def execPcopy (c : CoreRef) (a b r : BitVec 6) (s : State) : Result :=
  let k := s.core c
  let p := (k.s a).toNat
  let q := (k.s b).toNat
  let y := k.s r
  let n := fld y 29 0 + 1
  .next (s.issue c 0 (fld y 55 30 == 0) [.s a, .s b, .s r] (fun s =>
    if !s.paOk p || !s.paOk q || p % 64 ≠ 0 || q % 64 ≠ 0 || n % 64 ≠ 0 then s.trap c 0 2 0
    else s.request c (.pantry (s.panOp c 0x13 p q 0 n 0 (fld y 63 56) 0#512))))

/-! Completion counters -/

/-- WAITCC (R76, R146). -/
def execWaitcc (c : CoreRef) (n : BitVec 8) (a : BitVec 6) (imm : BitVec 13) (s : State) : Result :=
  .next (s.issue c 0 true [.s a] (fun s =>
    s.modCore c (fun k => { k with waits := .guard n.toNat (k.ccImm a imm) :: k.waits, since := s.clk.beat })))

/-- GUARD_RELEASE (R76): a guard that its counter satisfies no longer holds issue. -/
def execGuardRelease (c : CoreRef) (s : State) : Result :=
  .next (s.modCore c (fun k => { k with waits := k.waits.filter (fun w => match w with
    | .guard n t => !guardMet (k.ccv n) t
    | _ => true) }))

/-- CCSET (R147). -/
def execCcset (c : CoreRef) (n : BitVec 8) (a : BitVec 6) (imm : BitVec 13) (s : State) : Result :=
  .next (s.issue c 0 true [.s a] (fun s =>
    s.post c 0 [⟨s.clk.beat, .ccSet n.toNat ((s.core c).ccImm a imm), none, 0#4⟩] id))

/-- CCADD (R147). -/
def execCcadd (c : CoreRef) (n : BitVec 8) (a : BitVec 6) (imm : BitVec 13) (s : State) : Result :=
  .next (s.issue c 0 true [.s a] (fun s =>
    s.post c 0 [⟨s.clk.beat, .ccAdd n.toNat ((s.core c).ccImmS a imm), none, 0#4⟩] id))

/-- CCRD (R147): the counter at the start of the issue beat. -/
def execCcrd (c : CoreRef) (n : BitVec 8) (d : BitVec 6) (s : State) : Result :=
  .next (s.issue c 0 true [] (fun s => s.wrS c 0 1 d (zext64 ((s.core c).ccv n.toNat))))

/-! Sample requests -/

/-- NSEG of the descriptor at `a` (Table 3.8). -/
def Core.nseg (k : Core) (a : Nat) : Nat := nfld (k.sram.readNat a 16) 87 84

/-- VSAMP (R136). -/
def execVsamp (c : CoreRef) (g p : BitVec 4) (slot : BitVec 3) (a : BitVec 6) (s : State) : Result :=
  let k := s.core c
  let x := (k.s a).toNat
  .next (s.issue c 2 (k.groupOk g [] && p == 0#4) [.s a] (fun s =>
    if x % 16 ≠ 0 || sramEnd < x + 16 || sramEnd < x + 16 + 8 * k.nseg x then s.trap c 2 2 0
    else
      let w := s.curCmd c.k.val
      s.request c (.sample ⟨c.i.val, slot.toNat, x, w.1, w.2.1, w.2.2⟩)))

end Sys2Proof.Machine
end

