-- ==== Sys2Proof/Machine/Sfu.lean ====
section
/-! DEFINITION. The special functions of R45 and Table 2.5, correctly rounded to FP32 under RNE.
An irrational result is enclosed between two fixed-point numbers computed with directed rounding; where both lie in one cell
of a grid finer than every rounding breakpoint, the middle of the cell rounds as the result does. -/

namespace Sys2Proof

/-- Integer square root by bits, rounded down; `bits` bounds the bits of the root. -/
def isqrtFuel : Nat → Nat → Nat → Nat
  | 0, _, r => r
  | n + 1, x, r => let t := r + 2 ^ n; isqrtFuel n x (if t * t ≤ x then t else r)

def isqrt (x : Nat) : Nat := isqrtFuel (x.log2 / 2 + 1) x 0

/-- Square root rounded up. -/
def isqrtUp (x : Nat) : Nat := let r := isqrt x; if r * r = x then r else r + 1

/-- Fractional bits of the fixed-point enclosures. -/
def sfuP : Nat := 320

/-- An enclosure `lo ≤ x ≤ hi` in units of `2^-sfuP`. -/
structure Encl where
  lo : Nat
  hi : Nat
  deriving DecidableEq, Repr

/-- Product of two enclosures of positive numbers. -/
def Encl.mul (a b : Encl) : Encl := ⟨a.lo * b.lo / 2 ^ sfuP, ceilDiv (a.hi * b.hi) (2 ^ sfuP)⟩

/-- Square root of an enclosure. -/
def Encl.sqrt (a : Encl) : Encl := ⟨isqrt (a.lo * 2 ^ sfuP), isqrtUp (a.hi * 2 ^ sfuP)⟩

def Encl.one : Encl := ⟨2 ^ sfuP, 2 ^ sfuP⟩

/-- The number e: the series of reciprocal factorials to 80 terms, the rest below one unit. -/
def enclE : Encl :=
  let s := (List.range 80).foldl (fun (acc : Nat × Nat) i =>
    (acc.1 + acc.2, acc.2 / (i + 1))) (0, 2 ^ sfuP)
  ⟨s.1, s.1 + 81⟩

/-- `b ^ (n / 2^k)` for a fraction of `k` bits, from the lowest bit up: multiply by `b` where the bit is set, take the root. -/
def Encl.powFrac (b : Encl) : Nat → Nat → Encl → Encl
  | 0, _, y => y
  | k + 1, n, y => powFrac b k (n / 2) (Encl.sqrt (if n % 2 = 1 then y.mul b else y))

/-- `b ^ n` for a whole number. -/
def Encl.powNat (b : Encl) : Nat → Encl
  | 0 => Encl.one
  | n + 1 => (b.powNat n).mul b

/-- The rounding of a number between two that round to `a` and `b`: their common result, else, where no precision here separates it from
the breakpoint between them, either (log 10). -/
def eitherOf (fn code : Nat) (a b : Nat × Flags) : Nat × Flags :=
  if a = b then a else if Config.sfuUp fn code then b else a

/-- Round the positive or negative number known to lie in the enclosure scaled by `2^sc`, never itself a breakpoint. -/
def roundEncl (fn code : Nat) (neg : Bool) (e : Encl) (sc : Int) : Nat × Flags :=
  let g := 200
  let at_ (x : Nat) : Nat × Flags := roundTo .fp32 .rne false 0 (.fin neg (2 * (x / 2 ^ (sfuP - g)) + 1) (sc - g - 1))
  eitherOf fn code (at_ e.lo) (at_ e.hi)

/-- A result of magnitude just above (`up`) or just below the magnitude `m * 2^e`. -/
def roundNear (neg up : Bool) (m : Nat) (e : Int) : Nat × Flags :=
  roundTo .fp32 .rne false 0 (.fin neg (if up then m * 2 ^ 80 + 1 else m * 2 ^ 80 - 1) (e - 80))

/-- Whole part and a fraction of `k` bits of the magnitude `m * 2^e`, where `k` is large enough to hold it. -/
def splitFix (m : Nat) (e : Int) (k : Nat) : Nat × Nat :=
  let x := if 0 ≤ e + k then m * 2 ^ (e + k).toNat else m / 2 ^ (-(e + k)).toNat
  (x / 2 ^ k, x % 2 ^ k)

/-- The magnitude `m * 2^e` is below `2^t`. -/
def magBelow (m : Nat) (e t : Int) : Bool := (m.log2 : Int) + e < t

/-- exp2 of a finite nonzero argument. -/
def sfExp2 (code : Nat) (s : Bool) (m : Nat) (e : Int) : Nat × Flags :=
  if !magBelow m e 8 then
    if s then roundTo .fp32 .rne false 0 (.fin false 1 (-300))
    else (Fmt.fp32.infCode false, fOverflow ||| fInexact)
  else if magBelow m e (-40) then roundNear false (!s) 1 0
  else
    let k := 64
    let (w, f) := splitFix m e k
    if f = 0 then roundTo .fp32 .rne false 0 (.fin false 1 (if s then -(w : Int) else w))
    else
      let (w', f') : Int × Nat := if s then (-(w : Int) - 1, 2 ^ k - f) else (w, f)
      roundEncl 0 code false (Encl.powFrac ⟨2 * 2 ^ sfuP, 2 * 2 ^ sfuP⟩ k f' Encl.one) w'

/-- The first `n` fractional bits of the base 2 logarithm of an enclosed number in 1 to 2, by repeated squaring; where the enclosure
straddles a decision, the last value below it and the first above. -/
def log2Bits : Nat → Encl → Nat → Nat × Nat
  | 0, _, acc => (acc, acc)
  | n + 1, x, acc =>
    let y := x.mul x
    let two := 2 * 2 ^ sfuP
    if two ≤ y.lo then log2Bits n ⟨y.lo / 2, ceilDiv y.hi 2⟩ (2 * acc + 1)
    else if y.hi < two then log2Bits n y (2 * acc)
    else ((2 * acc + 1) * 2 ^ n - 1, (2 * acc + 1) * 2 ^ n)

/-- log2 of a positive finite argument. -/
def sfLog2 (code m : Nat) (e : Int) : Nat × Flags :=
  let w : Int := (m.log2 : Int) + e
  if m = 2 ^ m.log2 then
    roundTo .fp32 .rne false 0 (.fin (w < 0) w.natAbs 0)
  else
    let x := m * 2 ^ (sfuP - m.log2)
    let f := log2Bits 120 ⟨x, x⟩ 0
    -- the logarithm lies strictly between (w * 2^120 + f.1) and (w * 2^120 + f.2) plus one, in units of 2^-120
    let at_ (y : Nat) : Nat × Flags :=
      let t : Int := 2 * (w * 2 ^ 120 + y) + 1
      roundTo .fp32 .rne false 0 (.fin (t < 0) t.natAbs (-121))
    eitherOf 1 code (at_ f.1) (at_ f.2)

/-- reciprocal of a finite nonzero argument: the quotient with a sticky bit. -/
def sfRecip (s : Bool) (m : Nat) (e : Int) : Nat × Flags :=
  let q := 2 ^ 100 / m
  let v := if 2 ^ 100 % m = 0 then 2 * q else 2 * q + 1
  roundTo .fp32 .rne false 0 (.fin s v (-101 - e))

/-- reciprocal square root of a positive finite argument. -/
def sfRsqrt (m : Nat) (e : Int) : Nat × Flags :=
  let (m, e) := if e % 2 = 0 then (m, e) else (2 * m, e - 1)
  let q := 2 ^ 200 / m
  let r := isqrt q
  let v := if r * r * m = 2 ^ 200 then 2 * r else 2 * r + 1
  roundTo .fp32 .rne false 0 (.fin false v (-101 - e / 2))

/-- `e ^ x` for `x = m * 2^e` held in a fraction of 64 bits, `x` below 256. -/
def enclExp (m : Nat) (e : Int) : Encl :=
  let (w, f) := splitFix m e 64
  (Encl.powFrac enclE 64 f Encl.one).mul (enclE.powNat w)

/-- tanh of a finite nonzero argument: `1 - 2 / (e^(2x) + 1)`. -/
def sfTanh (code : Nat) (s : Bool) (m : Nat) (e : Int) : Nat × Flags :=
  if magBelow m e (-13) then roundNear s false m e
  else if !magBelow m e 5 then roundNear s false 1 0
  else
    let x := enclExp m (e + 1)
    let u := 2 ^ sfuP
    let two := 2 * u * u
    roundEncl 4 code s ⟨u - ceilDiv two (x.lo + u), u - two / (x.hi + u)⟩ 0

/-- sigmoid of a finite nonzero argument: `1 / (1 + e^-x)`. -/
def sfSigmoid (code : Nat) (s : Bool) (m : Nat) (e : Int) : Nat × Flags :=
  if magBelow m e (-40) then roundNear false (!s) 1 (-1)
  else if !magBelow m e 7 then
    if s then roundTo .fp32 .rne false 0 (.fin false 1 (-300)) else roundNear false false 1 0
  else
    let x := enclExp m e
    let u := 2 ^ sfuP
    if s then roundEncl 5 code false ⟨u * u / (x.hi + u), ceilDiv (u * u) (x.lo + u)⟩ 0
    else roundEncl 5 code false ⟨u * x.lo / (x.lo + u), ceilDiv (u * x.hi) (x.hi + u)⟩ 0

/-- The special-function unit on one FP32 lane (R134, Table 2.5): result code and flags. -/
def sfu (fn code : Nat) : Nat × Flags :=
  let inf := fun s => Fmt.fp32.infCode s
  let one := 0x3F800000
  let nan := Fmt.fp32.nan
  match Fmt.fp32.decode code with
  | .nan => (nan, 0#4)
  | .inf s =>
    match fn with
    | 0 => (if s then 0 else inf false, 0#4)
    | 1 => if s then (nan, fInvalid) else (inf false, 0#4)
    | 2 => (if s then 0x80000000 else 0, 0#4)
    | 3 => if s then (nan, fInvalid) else (0, 0#4)
    | 4 => (if s then 0xBF800000 else one, 0#4)
    | _ => (if s then 0 else one, 0#4)
  | .fin s m e =>
    if m = 0 then
      match fn with
      | 0 => (one, 0#4)
      | 1 => (inf true, fOverflow)
      | 2 => (inf s, fOverflow)
      | 3 => (inf s, fOverflow)
      | 4 => (code, 0#4)
      | _ => (0x3F000000, 0#4)
    else
      match fn with
      | 0 => sfExp2 code s m e
      | 1 => if s then (nan, fInvalid) else sfLog2 code m e
      | 2 => sfRecip s m e
      | 3 => if s then (nan, fInvalid) else sfRsqrt m e
      | 4 => sfTanh code s m e
      | _ => sfSigmoid code s m e

end Sys2Proof
end

