-- ==== Sys2Proof/Machine/Sampler.lean ====
section
/-! DEFINITION. The clusters' samplers (R80 to R85). -/

namespace Sys2Proof.Machine

/-- A stream slot's record (Table 3.7). -/
def State.strm (s : State) (i : Nat) : BitVec 128 := s.streams.get 0#128 i
def State.setStrm (s : State) (i : Nat) (x : BitVec 128) : State := { s with streams := s.streams.set 0#128 i x }

/-- A segment of a sample descriptor: length, cluster-local core, address (Table 3.8). -/
structure Seg where
  ok   : Bool
  len  : Nat
  core : Nat
  addr : Nat
  deriving DecidableEq, Repr

/-- A sample descriptor (Table 3.8). -/
structure SampDesc where
  ok     : Bool
  result : Nat
  cc     : Nat
  bf16   : Bool
  topK   : Nat
  topP   : Nat
  scale  : Nat
  segs   : List Seg
  deriving DecidableEq, Repr

/-- The total number of logits. -/
def SampDesc.total (d : SampDesc) : Nat := (d.segs.map (fun g => g.len)).sum

/-- A positive finite FP32 code. -/
def fpPos (x : Nat) : Bool := 0 < x && x < 0x7F800000

/-- Read a descriptor from the bytes that start at its address (R82). -/
def sampDesc (x : Nat) : SampDesc :=
  let nseg := nfld x 87 84
  let bf := nfld x 80 80 == 1
  let size := if bf then 2 else 4
  let segs := (List.range (min nseg 8)).map (fun i =>
    let g := nfld x (191 + 64 * i) (128 + 64 * i)
    let len := nfld g 44 24
    let addr := nfld g 20 0
    (⟨nfld g 63 45 == 0 && 1 ≤ len && len ≤ 2 ^ 20 && addr % 64 == 0 && addr + len * size ≤ sramEnd, len, nfld g 23 21, addr⟩ : Seg))
  let d : SampDesc := ⟨true, nfld x 116 96, nfld x 95 88, bf, nfld x 72 64, nfld x 63 32, nfld x 31 0, segs⟩
  { d with ok := nfld x 127 117 == 0 && nfld x 83 81 == 0 && nfld x 79 73 == 0 && 1 ≤ nseg && nseg ≤ 8 &&
      segs.all (fun g => g.ok) && d.total ≤ 2 ^ 20 && 1 ≤ d.topK && d.topK ≤ 256 && fpPos d.topP && d.topP ≤ 0x3F800000 &&
      fpPos d.scale && d.result % 16 == 0 && d.result + 16 ≤ sramEnd }

/-- Bytes of a logit's code. -/
def SampDesc.size (d : SampDesc) : Nat := if d.bf16 then 2 else 4

/-- The SRAM piece, in one chunk, that holds byte `got` of the logits in segment order: core, address, bytes. -/
def logitPiece (size : Nat) : List Seg → Nat → Option (Nat × Nat × Nat)
  | [], _ => none
  | g :: gs, got =>
    if got < g.len * size then some (g.core, g.addr + got, min 64 (g.len * size - got)) else logitPiece size gs (got - g.len * size)

/-- The bytes of a descriptor whose first `bs` are read: its head, which names the segments, then all of them (Table 3.8). -/
def descBytes (bs : List Byte) : Nat := if bs.length < 16 then 16 else 16 + 8 * min (nfld (leNat bs) 87 84) 8

def Serving.d (v : Serving) : SampDesc := sampDesc (leNat v.desc)

/-- A candidate: its scaled logit and index. -/
abbrev Cand := Nat × Nat

/-- Insert behind every candidate that is not smaller. -/
def candInsert (x : Cand) : List Cand → List Cand
  | [] => [x]
  | y :: ys => if (Fmt.fp32.decode y.1).lt (Fmt.fp32.decode x.1) then x :: y :: ys else y :: candInsert x ys

/-- The first `k` candidates of R83, by scaled logit descending, then index ascending. -/
def candidates (f : Fmt) (c k : Nat) (l : List Nat) : List Cand :=
  (withIx l).foldl (fun acc p =>
    let v := ((f.decode p.2).mul (Fmt.fp32.decode c)).1
    let s := (roundTo .fp32 .rne false 0 v).1
    if (Fmt.fp32.decode s).isNan || s = 0xFF800000 then acc else (candInsert (s, p.1) acc).take k) []

/-- The running sums of the candidates' weights (R83). -/
def weightSums (cand : List Cand) : List Nat :=
  let m := (cand.headD (0, 0)).1
  let eq (x y : Nat) : Bool := !(Fmt.fp32.decode x).lt (Fmt.fp32.decode y) && !(Fmt.fp32.decode y).lt (Fmt.fp32.decode x)
  let w := cand.map (fun x =>
    if eq x.1 m then 0x3F800000
    else (sfu 0 (roundTo .fp32 .rne false 0 ((Fmt.fp32.decode x.1).add (Fmt.fp32.decode m).neg).1).1).1)
  (w.foldl (fun acc x =>
    match acc with
    | [] => [x]
    | a :: rest => (add32 a x).1 :: a :: rest) []).reverse

/-- The choice of R83 among candidates: token and the number kept, for top-p `p` and draw `u`. -/
def sampPick (cand : List Cand) (p u : Nat) : Nat × Nat :=
  let a := weightSums cand
  let d (x : Nat) : Val := Fmt.fp32.decode x
  let t := (roundTo .fp32 .rne false 0 ((d p).mul (d (a.getLastD 0))).1).1
  let nk := 1 + (a.findIdx? (fun x => !(d x).lt (d t))).getD (a.length - 1)
  let r := (roundTo .fp32 .rtz false 0 ((Val.fin false u (-32)).mul (d (a.getD (nk - 1) 0))).1).1
  let j := (a.findIdx? (fun x => (d r).lt (d x))).getD 0
  ((cand.getD j (0, 0)).2, nk)

/-- A result record (R84). -/
def sampRecord (token status kept pos num : Nat) : Nat :=
  num % 2 ^ 16 * 2 ^ 112 + pos % 2 ^ 48 * 2 ^ 64 + kept % 512 * 2 ^ 48 + status * 2 ^ 32 + token % 2 ^ 32

/-- The STATUS of a request that is not sampled (R81, R84): slot not valid, not owner, bad descriptor; 0 otherwise. R84 does not order the
conditions of a request that meets several: the model tests them in this order, 4, 2, 3 (log 13). -/
def State.sampStatus (s : State) (k : Nat) (v : Serving) : Nat :=
  let st := s.strm v.req.slot
  let c := s.coreN (8 * k + v.req.core)
  if !bitOf st 127 then 4
  else if fld st 95 80 ≠ c.vrank.toNat || fld st 79 64 ≠ c.vcore.toNat then 2
  else if v.bad || !v.d.ok then 3
  else 0

/-- What the sampler reads next for a request, core place, address and bytes: its descriptor, then its logits; none once it has read
what the request needs (R71, R82). -/
def State.sampNext (s : State) (k : Nat) (v : Serving) : Option (Nat × Nat × Nat) :=
  let n := 8 * k + v.req.core
  let a := v.req.addr + v.desc.length
  if !v.bad && v.desc.length < descBytes v.desc then some (n, a, min (64 - a % 64) (descBytes v.desc - v.desc.length))
  else if s.sampStatus k v = 0 then (logitPiece v.d.size v.d.segs v.got).map (fun x => (8 * k + x.1, x.2.1, x.2.2))
  else none

/-- Up to `n` chunk reads of the sampler in this beat, each with its bank slot; the first that finds its bank taken ends them (R71, R85). -/
def State.sampReads (s : State) (k : Nat) : Nat → Serving → State × Serving
  | 0, v => (s, v)
  | n + 1, v =>
    match s.sampNext k v with
    | none => (s, v)
    | some (c, a, len) =>
      if !s.banksFree c a len then (s, v)
      else
        let r := (s.takeBanks c a len).sramRead c a len
        let v := match r.2 with
          | none => { v with bad := true }
          | some bs =>
            if v.desc.length < descBytes v.desc then { v with desc := v.desc ++ bs }
            else { v with data := bs :: v.data, got := v.got + bs.length }
        r.1.sampReads k n v

/-- The sampler's reads of one beat: 16 chunks, 256 logits of FP32 (log 13). -/
def State.sampRead (s : State) (k : Nat) : State :=
  match (s.cluster k).samp with
  | none => s
  | some v =>
    let r := s.sampReads k 16 v
    r.1.modCluster k (fun x => { x with samp := some r.2 })

/-- The logits' codes that the sampler has read, in segment order. -/
def Serving.logits (v : Serving) : List Nat :=
  let bs := v.data.reverse.flatten
  (List.range (bs.length / v.d.size)).map (fun i => leNat ((bs.drop (i * v.d.size)).take v.d.size))

/-- The key of a stream's draw (R83): job seed, owner, stream number, position. -/
def State.drawKey (s : State) (slot : Nat) : Nat × Nat × Nat × Nat × Nat :=
  let st := s.strm slot
  ((s.job.map (fun j => j.seed.toNat)).getD 0, fld st 95 80, fld st 79 64, fld st 111 96, fld st 47 0)

/-- Serve a request that is read: token, STATUS, KEPT (R83, R84). What a record holds as TOKEN and KEPT beside STATUS 2 to 4 is free, and
depends on nothing that the timing of a run changes (R356, log 14). -/
def State.sampServe (s : State) (k : Nat) (v : Serving) : Nat × Nat × Nat :=
  let (seed, vr, vc, num, pos) := s.drawKey v.req.slot
  match s.sampStatus k v with
  | 0 =>
    let cand := candidates (if v.d.bf16 then .bf16 else .fp32) v.d.scale v.d.topK v.logits
    if cand = [] then (0xFFFFFFFF, 1, 0)
    else
      let (t, nk) := sampPick cand v.d.topP (Sys2Proof.draw seed 2 vr vc num pos)
      (t, 0, nk)
  | st =>
    let x := Config.freeRecord seed vr vc num pos
    (fld x 31 0, st, fld x 40 32)

/-- SAMPLER_START (R81, R85): the sampler takes the first request whose stream is not in progress. -/
def execSamplerStart (k : Fin 100) (s : State) : Result :=
  let x := s.cluster k.val
  .next (match x.samp, x.sampQ with
    | none, r :: rest =>
      let st := s.strm r.slot
      if bitOf st 127 && bitOf st 126 then s
      else
        let s := if bitOf st 127 then s.setStrm r.slot (putFld st 126 126 1) else s
        let (s, n) := s.nextSeq k.val 1
        let r := { r with seq := n }
        (s.setCluster k.val { x with sampQ := rest, samp := some ⟨r, s.clk.beat, bitOf st 127, [], [], 0, false⟩ }).trace
          1 k.val 1 0 r.layer r.oper r.seq
    | _, _ => s)

/-- The beat from which a request may complete (R85). -/
def Serving.ends (v : Serving) : Nat := v.start + ceilDiv v.d.total 256 + 96

/-- SAMPLER_COMPLETE (R84): once all that the request needs is read, the result is written, the counter advances, and the stream's
position where STATUS is 0 or 1. The manual does not say what happens at a bad RESULT_ADDR: an unaligned one is written there, one that
reaches past SRAM writes nothing, and the counter advances (log 13). A result word that is uncorrectable gives STATUS 3 (R260). -/
def execSamplerComplete (k : Fin 100) (s : State) : Result :=
  .next (match (s.cluster k.val).samp with
    | none => s
    | some v =>
      let r := v.req
      let n := 8 * k.val + r.core
      let d := v.d
      if s.clk.beat < v.ends || (s.sampNext k.val v).isSome || !s.banksFree n d.result 16 then s
      else
        let st := s.strm r.slot
        let inside : Bool := d.result + 16 ≤ sramEnd
        let hurt : Bool := inside && s.badWords n (.storeA d.result (leBytes 16 0)) != []
        let out := s.sampServe k.val (if hurt then { v with bad := true } else v)
        let rec_ := sampRecord out.1 out.2.1 out.2.2 (fld st 47 0) (fld st 111 96)
        let s := if inside then ((s.takeBanks n d.result 16).sramWrite n d.result (leBytes 16 rec_)).1 else s
        let st' := if out.2.1 ≤ 1 then putFld st 47 0 (fld st 47 0 + 1) else st
        let s := (s.setStrm r.slot (if v.busy then putFld st' 126 126 0 else st')).modCluster k.val (fun x => { x with samp := none })
        let s := (s.incCC n d.cc 1).modCoreN n (fun c => { c with open_ := c.open_ - 1 })
        s.trace 1 k.val 1 (if out.2.1 ≤ 1 then 1 else 2) r.layer r.oper r.seq)

end Sys2Proof.Machine
end

