-- ==== Sys2Proof/Machine/DebugCmds.lean ====
section
/-! DEFINITION. The debug commands (R407, R409 to R411, Tables 15.8 to 15.10). -/

namespace Sys2Proof.Machine

/-! Scan items (R407, Table 15.8) -/

/-- Bytes of a scan item by KIND. -/
def scanSize : Nat → Nat
  | 0 => 4096 | 1 => 65536 | 2 => 65536 | 3 => 16896 | 4 => 1572864 | 5 => 131072 | 6 => 256 | _ => 262144

/-- Zero to the end of an item. -/
def padTo (n : Nat) (bs : List Byte) : List Byte := bs.take n ++ List.replicate (n - bs.length) 0#8

/-- A run of 8-byte words. -/
def words8 (l : List Nat) : List Byte := l.flatMap (leBytes 8)

/-- Core items; the places inside item 0 are this model's reading (log 13). -/
def Core.scanItem (k : Core) : Nat → List Byte
  | 0 => padTo 4096 (
      words8 ((List.range 63).map (fun i => (k.sreg.get 0#64 (i + 1)).toNat)) ++
      ((List.range 15).flatMap (fun i => leBytes 32 (k.preg.get 0#256 (i + 1)).toNat)) ++
      words8 ((List.range 17).map (fun i => (k.flags.get 0#4 i).toNat)) ++
      ((List.range 256).flatMap (fun i => leBytes 4 (k.ccv i).toNat)) ++
      padTo 96 (words8 (k.loops.flatMap (fun e => [e.start, e.stop, e.count]))) ++
      words8 [k.pc, k.acfg.toNat] ++
      words8 ((List.range 16).map (fun i => (k.groups.get 0#16 i).toNat)) ++
      words8 ((List.range 16).map (fun i => (k.rseq.get 0#41 i).toNat)) ++
      words8 ((List.range 4).map (fun i => (k.dseq.get 0#42 i).toNat)) ++
      words8 ((List.range 4).map (fun i => b2n (k.tile i).int32)) ++
      words8 [k.wb0.cfg.toNat, k.wb1.cfg.toNat, k.fault.toNat])
  | 1 => (List.range 64).flatMap (fun i => leBytes 1024 (k.vreg.get 0#8192 i).toNat)
  | 2 => (List.range 4).flatMap (fun i => (List.range 64).flatMap (fun r => leBytes 256 ((k.tile i).rows.get 0#2048 r).toNat))
  | 3 => leBytes 8192 k.wb0.data.toNat ++ leBytes 256 k.wb0.scale.toNat ++ leBytes 8192 k.wb1.data.toNat ++ leBytes 256 k.wb1.scale.toNat
  | 4 => k.sram.read 0 1572864
  | _ => (List.range 8192).flatMap (fun i => leBytes 16 (k.istore.get 0#128 i).toNat)

/-- A number for a steward's state. -/
def StewardRun.num : StewardRun → Nat
  | .idle => 0 | .ready => 1 | .waiting => 2 | .finished => 3 | .stopped => 4

/-- The section in which a position lies. -/
def Steward.section_ (t : Steward) : Nat := ((List.range t.pos).filter (fun i => cmdKind (t.store.get 0#256 i) == 7)).length

/-- Steward items; the places inside item 6 are this model's reading (log 13). -/
def Steward.scanItem (t : Steward) : Nat → List Byte
  | 6 =>
    let w := t.cmd
    let wait := cmdKind w = 3 && t.run = .waiting
    padTo 256 (words8 [t.pos, t.section_, t.run.num, b2n t.halted, if wait then fld w 191 189 else 0, if wait then fld w 188 181 else 0,
      if wait then fld w 180 149 else 0, cmdLayer w, cmdOper w, t.seq])
  | _ => (List.range 8192).flatMap (fun i => leBytes 32 (t.store.get 0#256 i).toNat)

/-- The items that a scan selects: every byte it sends (R407). -/
def State.scanBytes (s : State) (items clusters : Nat) : List Byte :=
  let head (kind k unit len : Nat) : List Byte :=
    [BitVec.ofNat 8 kind, BitVec.ofNat 8 k, BitVec.ofNat 8 unit, 0#8] ++ leBytes 4 len ++ leBytes 8 s.dbg.stopFbc.toNat
  (List.range 100).flatMap (fun k =>
    if !(clusters.testBit k && s.cluEnabled k) then []
    else
      ([6, 7].filter items.testBit).flatMap (fun i => head i k 0xFF (scanSize i) ++ (s.cluster k).stw.scanItem i) ++
      (List.range 8).flatMap (fun c =>
        ([0, 1, 2, 3, 4, 5].filter items.testBit).flatMap (fun i => head i k c (scanSize i) ++ (s.coreN (8 * k + c)).scanItem i)))

/-! The wait-for graph (R409, R410, Table 15.9) -/

/-- A wait-for record's fields. -/
structure WaitRec where
  kind    : Nat
  engine  : Nat
  core    : Nat := 0
  counter : Nat := 0
  target  : Nat := 0
  value   : Nat := 0
  waited  : Nat := 0
  source  : Nat := 0
  peer    : Nat := 0
  port    : Nat := 15
  route   : Nat := 0
  landing : Nat := 0
  landed  : Nat := 0
  ncells  : Nat := 0
  pstate  : Nat := 0
  deriving DecidableEq, Repr

def WaitRec.pack (r : WaitRec) : Nat :=
  r.kind % 256 * 2 ^ 248 + r.engine % 2 ^ 12 * 2 ^ 236 + r.core % 8 * 2 ^ 233 + r.counter % 256 * 2 ^ 224 + r.target % 2 ^ 32 * 2 ^ 192
    + r.value % 2 ^ 32 * 2 ^ 160 + min r.waited (2 ^ 32 - 1) * 2 ^ 128 + r.source % 256 * 2 ^ 120 + r.peer % 2 ^ 12 * 2 ^ 108
    + r.port % 16 * 2 ^ 104 + r.route % 2 ^ 16 * 2 ^ 88 + r.landing % 2 ^ 14 * 2 ^ 74 + r.landed % 2 ^ 15 * 2 ^ 59
    + r.ncells % 2 ^ 15 * 2 ^ 44 + r.pstate % 16 * 2 ^ 40

/-- The LBUF span of a route entry covers landing-map entry `l`: those from its LBUF on that its cells' indices can name, up to the first
entry of another route (R165, R410, log 13). -/
def State.spanCovers (s : State) (w : W32) (l : Nat) : Bool :=
  rtValid w && rtLand w && rtLbuf w ≤ l && l < rtLbuf w + max 1 (ceilDiv (2 ^ 20) (2 ^ (rtSpan w + 7))) &&
    s.tt.routes.all (fun x => !(rtValid x.2 && rtLand x.2 && rtLbuf w < rtLbuf x.2 && rtLbuf x.2 ≤ l))

/-- The route entry whose span covers a landing-map entry, with its id. -/
def State.routeTo (s : State) (l : Nat) : Option (Nat × W32) := s.tt.routes.find? (fun e => s.spanCovers e.2 l)

/-- Sources of a guard on counter `n` of core `c` of cluster `k`. -/
def State.guardSources (s : State) (k c n : Nat) (r : WaitRec) : List WaitRec :=
  let lands := (s.tt.landings.filter (fun e => bitOf e.2 63 && fld e.2 62 56 == k && fld e.2 55 53 == c && fld e.2 52 45 == n &&
      (s.cluster k).landed.get 0 e.1 < fld e.2 44 30 + 1)).map (fun e =>
    let got := (s.cluster k).landed.get 0 e.1
    let r := { r with landing := e.1, landed := got, ncells := fld e.2 44 30 + 1 }
    match s.routeTo e.1 with
    | some (id, w) =>
      if rtRole w = 0 then
        let p := rtIn w
        { r with source := 1, route := id, port := p, peer := (s.port p).partNode, pstate := (s.port p).state }
      else { r with source := 2, route := id }
    | none => { r with source := 1 })
  let mine (m : MoverCmd) : Bool := m.cluster == k && mvCore m.args == c && mvCc m.args == n
  let movs := ((s.cluster k).movQ.filter mine).map (fun _ => { r with source := 3, route := 8 * (k / 25) })
    ++ (s.cel.movers.filter (fun x => match x.2 with
      | some m => mine m.cmd
      | none => false)).map (fun x => { r with source := 3, route := x.1 })
  let mineP (o : PanOp) : Bool := o.cluster == k && o.core == c && o.cc == n
  let node (o : PanOp) : Nat := paNode (if o.opcode = 0x13 then o.dst else o.p)
  let pans := (((s.cluster k).panQ ++ s.pan.dead).filter mineP).map (fun o => { r with source := 4, peer := node o })
    ++ (s.pan.ops.filter (fun e => mineP e.op)).map (fun e =>
      { r with source := 4, peer := node e.op, route := ((s.pan.pieces.find? (fun x => x.op == e.id)).map (·.rid)).getD 0 })
  let mineS (q : SampleReq) : Bool := q.core == c && (sampDesc ((s.coreN (8 * k + c)).sram.readNat q.addr 80)).cc == n
  let samps := (((s.cluster k).sampQ ++ ((s.cluster k).samp.map (fun v => v.req)).toList).filter mineS).map (fun _ => { r with source := 5 })
  let all := lands ++ movs ++ pans ++ samps
  if all.isEmpty then [r] else all

/-- Records of one core. -/
def State.coreWaits (s : State) (k c : Nat) : List WaitRec :=
  let x := s.coreN (8 * k + c)
  let waited := s.clk.beat - x.since
  match x.run with
  | .running => x.waits.flatMap (fun w => match w with
      | .guard n t => s.guardSources k c n ⟨1, k, c, n, t.toNat, (x.ccv n).toNat, waited, 0, 0, 15, 0, 0, 0, 0, 0⟩
      | .queue _ => [⟨2, k, c, 0, 0, 0, waited, 0, 0, 15, 0, 0, 0, 0, 0⟩]
      | .beat _ => [])
  | .draining _ => []
  | _ => [⟨3, k, c, 0, 0, 0, 0, 0, 0, 15, 0, 0, 0, 0, 0⟩]

/-- Records of one steward. -/
def State.stewardWaits (s : State) (k : Nat) : List WaitRec :=
  let t := (s.cluster k).stw
  let waited := s.clk.beat - t.since
  let w := t.cmd
  let r : WaitRec := { kind := 4, engine := k, waited := waited }
  if t.halted then [{ r with kind := 6 }]
  else if t.run ≠ .waiting then []
  else match cmdKind w with
    | 3 =>
      let c := fld w 191 189
      let n := fld w 188 181
      [{ r with counter := n, target := fld w 180 149, value := ((s.coreN (8 * k + c)).ccv n).toNat, source := 6, route := c }]
    | 4 => [{ r with kind := 5, source := 3 }]
    | 5 => [{ r with kind := 5, source := 4 }]
    | _ => []

/-- The barrier's record: the phase's axis and the positions whose values are missing. -/
def State.barrierWaits (s : State) : List WaitRec :=
  if s.tt.state ≠ 3 then []
  else
    let ph := s.tt.phase
    let (n, pos, _) := s.line ph
    let missing := ((List.range n).filter (fun o => o != pos && !s.tt.heard.any (fun h => h.1 == ph && h.2.1 == o))).foldl (fun a o => a + 2 ^ o) 0
    [{ kind := 7, engine := 124, target := s.tt.value, waited := s.epochBeat - s.tt.ready.getD 0, source := 8, port := ph, route := missing }]

/-- Records of one port. -/
def State.portWaits (s : State) (p : Nat) : List WaitRec :=
  let t := s.port p
  let r : WaitRec := { kind := 8, engine := 112 + p, source := 7, peer := t.partNode, port := p, pstate := t.state }
  (if t.held then [{ r with waited := s.clk.beat - t.heldAt }] else []) ++
  (if t.xoffReqRx || t.xoffRplRx then [{ r with kind := 9, waited := s.clk.beat - t.xoffAt }] else []) ++
  (if t.state ≠ 7 then [{ r with kind := 0x0A, waited := s.clk.beat - t.stateBeat }] else [])

/-- Beats of the running point in a wall time. -/
def State.beatsIn (s : State) (w : Nat) : Nat := w * opMhz s.clk.runOp / 6720000

/-- Records of the open pieces. -/
def State.pieceWaits (s : State) : List WaitRec :=
  s.pan.pieces.filterMap (fun x =>
    if x.hold.isSome then none
    else match s.pan.ops.find? (fun e => e.id == x.op) with
      | some e =>
        let o := e.op
        let node := paNode (if x.kind = .copyWrite then o.dst else o.p)
        some { kind := 0x0B, engine := if e.engine = 16 then o.cluster else 104 + e.engine / 4 + 128 * (e.engine % 4), core := o.core
               counter := o.cc, waited := s.beatsIn (s.clk.wall - x.opened), source := 4, peer := node, route := x.rid }
      | none => none)

/-- Records of the sends in a departure list. -/
def State.departWaits (s : State) (k : Nat) : List WaitRec :=
  (s.cluster k).deps.map (fun d =>
    { kind := 0x0C, engine := k, core := d.core, counter := d.cc, value := d.done, waited := s.clk.beat - d.issue, route := d.route })

/-- Every record of the module (R410). -/
def State.waitGraph (s : State) : List WaitRec :=
  let ks := (List.range 100).filter s.cluEnabled
  ks.flatMap (fun k => (List.range 8).flatMap (s.coreWaits k)) ++ ks.flatMap s.stewardWaits ++ s.barrierWaits ++
    (List.range 8).flatMap s.portWaits ++ s.pieceWaits ++ ks.flatMap s.departWaits

/-- The output of WAITFOR_GRAPH with at most `lim` records: the bytes, their count, TRUNCATED. -/
def State.graphBytes (s : State) (lim : Nat) : List Byte × Nat × Bool :=
  let rs := s.waitGraph
  let n := min rs.length lim
  let cut : Bool := n < rs.length
  (ascii "ODWF" ++ leBytes 2 s.nodeId ++ [BitVec.ofNat 8 (b2n cut), 0#8] ++ leBytes 4 n ++ leBytes 4 0 ++ leBytes 8 s.clk.fbc.toNat
    ++ leBytes 8 s.clk.fbc.toNat ++ (rs.take n).flatMap (fun r => leBytes 32 r.pack), n, cut)

/-! The commands -/

/-- The refusals of R411 for a scope; 0 where none applies. -/
def State.scopeRefusal (s : State) (porch : Bool) (scope : Nat) : Nat :=
  if porch && scope = 2 then 0x0508 else if scope = 1 && s.hearth.running = none then 0x0302 else 0

/-- DEBUG_BREAK (R404, R411). -/
def State.cmdDebugBreak (s : State) (porch : Bool) (b : BitVec 2048) : Reply :=
  let slot := blkByte b 0
  let act := blkByte b 1
  let clu := blkByte b 6
  let cluOk : Bool := clu < 100 || clu == 0xFF
  let range : Bool := match act with
    | 0 => slot < 8
    | 1 => slot < 8 && blkByte b 2 < 4 && blkByte b 3 < 3 && cluOk
    | 2 => cluOk
    | _ => false
  s.checked porch b 8 (blkByte b 7 == 0) range (fun s =>
    match act with
    | 0 => ((s.modDbg (fun d => { d with breaks := d.breaks.upd 0#64 slot (fun w => putFld w 63 63 0) })).updatePosture).ok
    | 1 =>
      let w : W64 := BitVec.ofNat 64 (2 ^ 63 + blkByte b 3 * 2 ^ 60 + blkByte b 2 * 2 ^ 58 + clu * 2 ^ 48 + blkNum b 4 2)
      ((s.modDbg (fun d => { d with breaks := d.breaks.set 0#64 slot w })).updatePosture).ok
    | _ =>
      (iter 100 s (fun k s =>
        if (clu == 0xFF || clu == k) && (s.cluster k).stw.halted then s.modStw k (fun t => { t with halted := false, pass := true })
        else s)).ok)

def execDebugBreak (src : Src) (s : State) : Result :=
  .next (s.command src 0xA0 (.debugBreak src) (fun s b => s.cmdDebugBreak (srcPorch src) b))

/-- GLOBAL_STOP (R405 to R407, R411). A scan answers when its last byte has been sent. -/
def State.cmdGlobalStop (s : State) (src : Src) (b : BitVec 2048) : Reply :=
  let act := blkByte b 0
  let scope := blkByte b 1
  let path := blkByte b 2
  let range : Bool := act ≤ 2 && scope ≤ 2 && path ≤ 1
  s.checked (srcPorch src) b 24 (blkNum b 17 7 == 0 && blkNum b 4 13 < 2 ^ 100) range (fun s =>
    match s.scopeRefusal (srcPorch src) scope with
    | 0 =>
      if act ≤ 1 then (s.ownStop scope (act == 1)).ok
      else if !bitOf s.dbg.ctl 28 then s.no 0x0316
      else if !s.stopped then s.no 0x0314
      else
        let bs := s.scanBytes (blkByte b 3) (blkNum b 4 13)
        if bs.isEmpty then s.okP (leBytes 8 0)
        else
          let s := s.modDbg (fun d => { d with
            scan := some bs, scanSent := 0, scanBit := 0, scanPath := path, scanSrc := some src, scans := d.scans + 1
            stop := putFld d.stop 62 62 1 })
          ⟨0, [], [], none, true, s.updatePosture⟩
    | code => s.no code)

def execGlobalStop (src : Src) (s : State) : Result :=
  .next (s.command src 0xA1 (.globalStop src) (fun s b => s.cmdGlobalStop src b))

/-- WAITFOR_GRAPH (R410): `dma` says whether the host takes the data. -/
def State.cmdWaitforGraph (s : State) (porch dma : Bool) (b : BitVec 2048) : Reply :=
  s.checked porch b 12 true true (fun s =>
    let lim := if porch then min 4096 ((blkNum b 8 4 - 32) / 32) else 2047
    let (bs, n, cut) := s.graphBytes lim
    s.toHost porch dma (blkNum b 0 8) (leBytes 4 n ++ [BitVec.ofNat 8 (b2n cut)]) bs)

def execWaitforGraph (src : Src) (dma : Bool) (s : State) : Result :=
  .next (s.command src 0xA2 (.waitforGraph src dma) (fun s b => s.cmdWaitforGraph (srcPorch src) dma b))

/-- TRACE_CTL (R402, R411); disarming empties the buffer. -/
def State.cmdTraceCtl (s : State) (porch : Bool) (b : BitVec 2048) : Reply :=
  let f := blkByte b 0
  let log := blkByte b 2
  let us := blkNum b 4 2
  let range : Bool := 10 ≤ log && log ≤ 20 && 1 ≤ us && us ≤ 10000
  s.checked porch b 12 (f < 32 && blkByte b 3 == 0 && blkNum b 6 2 == 0) range (fun s =>
    let ctl : W32 := BitVec.ofNat 32 (f % 2 * 2 ^ 31 + f / 2 % 2 * 2 ^ 30 + f / 4 % 2 * 2 ^ 29 + f / 8 % 2 * 2 ^ 28 + f / 16 % 2 * 2 ^ 27
      + blkByte b 1 * 2 ^ 19 + log * 2 ^ 14 + us)
    let s := s.modDbg (fun d => { d with
      ctl := ctl, range := BitVec.ofNat 32 (blkNum b 10 2 * 2 ^ 16 + blkNum b 8 2)
      trace := if f.testBit 0 then d.trace else [], lossRun := if f.testBit 0 then d.lossRun else 0 })
    ((s.modDbg (fun d => { d with markAt := s.markers })).updatePosture).ok)

def execTraceCtl (src : Src) (s : State) : Result :=
  .next (s.command src 0xA3 (.traceCtl src) (fun s b => s.cmdTraceCtl (srcPorch src) b))

/-- FREEZE (R397, R398, R411). -/
def State.cmdFreeze (s : State) (porch : Bool) (b : BitVec 2048) : Reply :=
  let mode := blkByte b 0
  let scope := blkByte b 1
  let w : BitVec 128 := BitVec.ofNat 128 (blkNum b 8 16)
  let rsv : Bool := blkNum b 2 6 == 0 && (mode != 1 || fld w 127 102 == 0)
  let range : Bool := mode ≤ 2 && scope ≤ 2 && (mode != 1 || (timeOf w).ns < 1000000000)
  s.checked porch b 24 rsv range (fun s =>
    match s.scopeRefusal porch scope with
    | 0 => if mode = 1 && !s.tim.valid then s.no 0x0317 else (s.ownFreeze scope (mode == 1) (mode == 2) (timeOf w)).ok
    | code => s.no code)

def execFreeze (src : Src) (s : State) : Result :=
  .next (s.command src 0xA4 (.freeze src) (fun s b => s.cmdFreeze (srcPorch src) b))

end Sys2Proof.Machine
end

