-- ==== Sys2Proof/Machine/Steward.lean ====
section
/-! DEFINITION. Steward commands (R300, R444, R445, Tables 10.20 and 10.21). -/

namespace Sys2Proof.Machine

/-- Steward `k` is about to begin a command of this kind. -/
def State.stwAt (s : State) (k kind : Nat) : Bool :=
  let t := (s.cluster k).stw
  t.run == .ready && !t.halted && cmdKind t.cmd == kind && s.clk.cluRun.contains k && !s.pan.fenced

/-- Steward `k` is in a command of this kind. -/
def State.stwIn (s : State) (k kind : Nat) : Bool :=
  let t := (s.cluster k).stw
  t.run == .waiting && cmdKind t.cmd == kind && s.clk.cluRun.contains k

/-- ARGS of the command at steward `k`'s position. -/
def State.stwArgs (s : State) (k : Nat) : BitVec 192 := cmdArgs (s.cluster k).stw.cmd

/-- Steward `k` begins its command of this kind, unless a breakpoint halts it first (R24, R300, R404). -/
def State.stwBegin (s : State) (k kind : Nat) (f : State → State) : State :=
  if !s.stwAt k kind then s
  else match s.breakHit k with
    | some n => s.haltAt k n
    | none =>
      let s := s.modStw k (fun t => { t with
        run := .waiting, pass := false, seq := (t.seq + 1) % 2 ^ 32, since := s.clk.beat, cur := t.cmd })
      let t := (s.cluster k).stw
      f (s.trace 0 k 0 0 (cmdLayer t.cmd) (cmdOper t.cmd) t.seq)

/-- Steward `k`'s command ends; it goes on to the next, or its section is finished (R24, R300). -/
def State.stwEnd (s : State) (k : Nat) (run : StewardRun) : State :=
  let t := (s.cluster k).stw
  ((s.trace 0 k 0 1 (cmdLayer t.cmd) (cmdOper t.cmd) t.seq).bump 7 (0x1008 + 16 * k) 1).modStw k
    (fun t => { t with run := run, pos := t.pos + 1 })

/-- Steward `k`'s command ends with fault status: its section stops and an event tells why (R300). -/
def State.stwFault (s : State) (k code : Nat) : State := (s.stopSection k).raise code 2 k 0

/-! LOAD_PROGRAM, START (R444) -/

/-- The places of the cores that a mask in ARGS 191:184 names. -/
def maskCores (k : Nat) (w : BitVec 192) : List Nat := ((List.range 8).filter (fun c => bitOf w (184 + c))).map (8 * k + ·)

def Run.stopped : Run → Bool
  | .loaded => true
  | .done => true
  | .faulted => true
  | _ => false

/-- The core may be loaded. -/
def Core.mayLoad (k : Core) : Bool := k.run.stopped && k.start.isNone
/-- The core may be started. -/
def Core.mayStart (k : Core) : Bool := (k.run == .loaded || k.run == .done) && k.start.isNone

/-- A program's bundles in an instruction store, 16 bytes each. -/
def bundleStore : Nat → Nat → List Byte → SMap (BitVec 128)
  | 0, _, _ => []
  | n + 1, i, bs =>
    let w := BitVec.ofNat 128 (leNat (bs.take 16))
    if w = 0#128 then bundleStore n (i + 1) (bs.drop 16) else (i, w) :: bundleStore n (i + 1) (bs.drop 16)

/-- A core after program load: the strand-group table of bytes 0 to 31, the bundles after it, every other item at its program-load
value; SRAM and identity stand (R61, R73). -/
def Core.loadProgram (k : Core) (bs : List Byte) : Core :=
  { Core.zero with
    groups := (List.range 16).foldl (fun m g => m.set 0#16 g (BitVec.ofNat 16 (leNat ((bs.drop (2 * g)).take 2)))) []
    istore := bundleStore ((bs.length - 32) / 16) 0 (bs.drop 32)
    open_ := k.open_
    vcore := k.vcore
    vrank := k.vrank
    sram := k.sram
    sramErr := k.sramErr }

/-- Load program `num` into the cores at these places; the answer is 0 or the code with which its HBM could not be read. -/
def State.loadCores (s : State) (num : Nat) (cores : List Nat) : State × Nat :=
  let progs := (s.job.map (fun j => j.progs)).getD []
  cores.foldl (fun (acc : State × Nat) n =>
    if acc.2 ≠ 0 then acc
    else match progs.find? (fun p => p.core == n && p.num == num) with
      | none => acc
      | some p =>
        match acc.1.hbmRead (acc.1.hearth.running.getD 0) p.off p.len with
        | (s, (bs, 0)) => (s.modCoreN n (fun k => k.loadProgram bs), 0)
        | (s, (_, code)) => (s, code)) (s, 0)

/-- LOAD_PROGRAM (R444, R73). -/
def execLoadProgram (k : Fin 100) (s : State) : Result :=
  .next (s.stwBegin k.val 1 (fun s =>
    let w := s.stwArgs k.val
    let cores := maskCores k.val w
    if !cores.all (fun n => (s.coreN n).mayLoad) then s.stwFault k.val 0x080D
    else match s.loadCores (fld w 183 176) cores with
      | (s, 0) => s.stwEnd k.val .ready
      | (s, code) => s.stwFault k.val code))

/-- A START ends when no core of its mask is still to start. -/
def State.startEnds (s : State) (k : Nat) : State :=
  if s.stwIn k 2 && (maskCores k (s.stwArgs k)).all (fun n => (s.coreN n).start.isNone) then s.stwEnd k .ready else s

/-- Start the cores of a mask whose beat has come: bundle 0 issues from this beat (R444). -/
def State.startCore (s : State) (n : Nat) : State :=
  match (s.coreN n).start with
  | some t =>
    if t ≤ s.clk.beat && s.clk.cluRun.contains (n / 8) then
      (s.modCoreN n (fun c => { c with
        start := none, run := .running, pc := 0, waits := [], branch := none, skip := none, since := s.clk.beat })).startEnds (n / 8)
    else s
  | none => s

/-- START (R444): the masked cores are to start at the epoch beat, at once if it has passed. -/
def execStart (k : Fin 100) (s : State) : Result :=
  .next (s.stwBegin k.val 2 (fun s =>
    let w := s.stwArgs k.val
    let cores := maskCores k.val w
    if !cores.all (fun n => (s.coreN n).mayStart) then s.stwFault k.val 0x080D
    else
      let t := s.tt.beat0 + fld w 183 160
      let s := cores.foldl (fun (s : State) n => s.modCoreN n (fun c => { c with start := some t })) s
      (cores.foldl (fun (s : State) n => s.startCore n) s).startEnds k.val))

/-- CORE_START (R444). -/
def execCoreStart (c : CoreRef) (s : State) : Result := .next (s.startCore c.ix)

/-! WAIT (R76) -/

/-- The guard of the WAIT at steward `k`'s position is satisfied. -/
def State.stwGuardMet (s : State) (k : Nat) : Bool :=
  let w := s.stwArgs k
  guardMet ((s.coreN (8 * k + fld w 191 189)).ccv (fld w 188 181)) (BitVec.ofNat 32 (fld w 180 149))

/-- WAIT (R300): the steward waits at a guard, judged at the end of the beat (R76). -/
def execWait (k : Fin 100) (s : State) : Result := .next (s.stwBegin k.val 3 id)

/-- STEWARD_WAIT_RELEASE (R76). -/
def execStewardWaitRelease (k : Fin 100) (s : State) : Result :=
  .next (if s.stwIn k.val 3 && s.stwGuardMet k.val then s.stwEnd k.val .ready else s)

/-! MOVER, PANTRY (R267, R141) -/

/-- A MOVER enters its queue, or waits while the queue is full; one that breaks R266 ends with fault status. -/
def State.offerMover (s : State) (k : Nat) : State :=
  let t := (s.cluster k).stw
  let c : MoverCmd := ⟨k, cmdArgs t.cmd, BitVec.ofNat 16 (cmdLayer t.cmd), BitVec.ofNat 16 (cmdOper t.cmd), t.seq⟩
  if 16 ≤ (s.cluster k).movQ.length then s
  else if !mvFormOk c.args then ((s.cellErr c (mvHbm c.args) 0x040B).stwFault k 0x040B)
  else (s.modCluster k (fun x => { x with movQ := x.movQ ++ [c] })).stwEnd k .ready

/-- MOVER (R267). -/
def execMover (k : Fin 100) (s : State) : Result := .next (s.stwBegin k.val 4 (fun s => s.offerMover k.val))

/-- The translation of R235; none where it faults. -/
def State.rankAddr (s : State) (r d : Nat) : Option Nat :=
  let e := s.pan.ranks.get 0#32 r
  let o := fld e 15 0 * 2 ^ 24 + d
  if !bitOf e 31 || 2 ^ 40 ≤ o then none else some (s.hallId % 16 * 2 ^ 52 + fld e 27 16 * 2 ^ 40 + o)

/-- The operation of a PANTRY command at an address (Table 10.21): as PGET, PPUT or PATOM of the named core. -/
def State.stwPanOp (s : State) (k p : Nat) : PanOp :=
  let t := (s.cluster k).stw
  let w := cmdArgs t.cmd
  let op := fld w 135 132
  ⟨k, fld w 131 129, true, if op = 0 then 0x10 else if op = 1 then 0x11 else 0x12, p, 0, fld w 120 100,
    if op ≤ 1 then fld w 99 88 + 1 else 8, op - 2, fld w 128 121, 0, 0#512, cmdLayer t.cmd, cmdOper t.cmd, t.seq, s.clk.beat⟩

/-- The limits of PGET, PPUT and PATOM (R142, R143). -/
def State.stwPanOk (s : State) (o : PanOp) : Bool :=
  if o.opcode = 0x12 then o.p % 8 == 0 && o.l % 8 == 0 && o.l + atomBytes o.aop ≤ sramEnd else s.pgetOk o.p o.l o.n

/-- A PANTRY command enters its queue, waits while it is full, or ends with fault status: an invalid rank; operands outside the
limits of its operation (log 13). -/
def State.offerPantry (s : State) (k : Nat) : State :=
  let w := s.stwArgs k
  match s.rankAddr (fld w 191 176) (fld w 175 136) with
  | none => s.stwFault k 0x0702
  | some p =>
    let o := s.stwPanOp k p
    if !s.stwPanOk o then s.stwFault k 0x0702
    else if s.queueRoom k (.pantry o) then (s.enqueue k (.pantry o)).stwEnd k .ready
    else s

/-- PANTRY (R300). -/
def execPantry (k : Fin 100) (s : State) : Result := .next (s.stwBegin k.val 5 (fun s => s.offerPantry k.val))

/-- STEWARD_QUEUE_ACCEPT (R267): a queue that has room takes the command that the steward waits to enter. -/
def execStewardQueueAccept (k : Fin 100) (s : State) : Result :=
  .next (if s.stwIn k.val 4 then s.offerMover k.val else if s.stwIn k.val 5 then s.offerPantry k.val else s)

/-! STREAM (R80), SECTION_END -/

/-- The slot's record after a stream command; none where it is refused (R80). -/
def State.streamSlot (s : State) (w : BitVec 192) : Option (BitVec 128) :=
  let n := fld w 188 186
  let num := fld w 185 170
  let r := s.strm n
  match fld w 191 189 with
  | 0 =>
    if (List.range 8).any (fun i => i != n && bitOf (s.strm i) 127 && fld (s.strm i) 111 96 == num) then none
    else some (BitVec.ofNat 128 (2 ^ 127 + b2n (bitOf r 126) * 2 ^ 126 + num * 2 ^ 96 + fld w 169 154 * 2 ^ 80 + fld w 153 138 * 2 ^ 64
      + fld w 137 90))
  | 1 => some (putFld r 47 0 (fld w 137 90))
  | _ => some (putFld r 127 127 0)

/-- STREAM (R80): the slot is written at once. -/
def execStream (k : Fin 100) (s : State) : Result :=
  .next (s.stwBegin k.val 6 (fun s =>
    let w := s.stwArgs k.val
    match s.streamSlot w with
    | some r => (s.setStrm (fld w 188 186) r).stwEnd k.val .ready
    | none => s.stwFault k.val 0x030A))

/-- SECTION_END (R300): the section is finished (R176). -/
def execSectionEnd (k : Fin 100) (s : State) : Result := .next (s.stwBegin k.val 7 (fun s => s.stwEnd k.val .finished))

end Sys2Proof.Machine
end

