-- ==== Sys2Proof/Machine/Clocks.lean ====
section
/-! DEFINITION. Stretching, clock slips, operating points, reference and FBC, the time counter's registers and pulses, power capping
(R326 to R348, R350 to R352). -/

namespace Sys2Proof.Machine

/-! Stretching and slips (R326 to R329) -/

/-- Add to what domain `d` has to stretch by. -/
def Clk.ask (c : Clk) (d n : Nat) : Clk := { c with domPend := c.domPend.upd 0 d (· + n) }

/-- DROOP (R326): a region of stretch domain `d` stretches its current period by `amount` eighths and sends a token to every other
domain. -/
def execDroop (d : Fin 9) (amount : Fin 5) (s : State) : Result :=
  .next (if amount.val = 0 then s
    else s.modClk (fun c => { c.ask d.val amount.val with tokens := c.tokens ++ [(d.val, amount.val)] }))

/-- STRETCH_TOKEN (R326): the oldest token reaches every domain but its origin, each once. How domains relay is not modelled (log 13). -/
def execStretchToken (s : State) : Result :=
  .next (match s.clk.tokens with
    | [] => s
    | (o, n) :: rest => s.modClk (fun c =>
        (List.range 9).foldl (fun (c : Clk) d => if d = o then c else c.ask d n) { c with tokens := rest }))

/-- Crossings between stretch domains (R324): fabric tap, Cellar, Stair. -/
def crossings : List (Nat × Nat) :=
  (List.range 4).flatMap (fun q => [(q, 8), (q, 4 + q), (4 + q, 8)]) ++ [(0, 1), (2, 3), (0, 2), (1, 3)]

/-- The occupancy of the elastic buffer from domain `a` to domain `b`, of depth 8: 4 when aligned, one more for each period by which its
reading side has fallen behind (R324). -/
def Clk.occupancy (c : Clk) (a b : Nat) : Int := 4 + (c.offs.get 0 b - c.offs.get 0 a) / 8

/-- A crossing of running regions has passed 3 periods: its buffer reads empty or full (R324, R329). -/
def Clk.slipped (c : Clk) : Bool :=
  c.offs != [] && c.celRun && crossings.any (fun x => 24 < (c.offs.get 0 x.2 - c.offs.get 0 x.1).natAbs)

/-- A landing cell, not mover or Pantry data. -/
def Landing.isCell (l : Landing) : Bool := l.kind.rank == 0

/-- Scheduled cells in the module's taps, slip buffers and receive stores. -/
def State.schedHeld (s : State) : Nat :=
  ((List.range 6).map (fun p => (s.port p).inbound.length + (s.port p).slip.length)).sum
    + (s.clusters.map (fun x => (x.2.landQ.filter Landing.isCell).length)).sum

/-- Discard them, and the departures not yet read. -/
def State.dropSched (s : State) : State :=
  { s with
    ports := mapOver Port.zero s.ports (fun t => { t with inbound := [], slip := [], store := [] })
    clusters := mapOver Cluster.zero s.clusters (fun x => { x with landQ := x.landQ.filter (fun l => !l.isCell), deps := [] }) }

/-- CLOCK_SLIP (R329). -/
def execClockSlip (s : State) : Result :=
  let n := s.schedHeld
  let s := ((s.stopRegions alignTime).endJob 0x0620).dropSched
  let s := (s.bump 6 0x150 n).modClk (fun c => { c with aligned := false, cluRun := [], celRun := false })
  .next ((s.raiseSev 0x0620 2 0 0 0).bump 6 0x148 1)

/-! Operating points (R331, R332) -/

/-- The first REFCLK period that begins at or after a time (R335); periods of 10 ns are counted from time 0 (log 13). -/
def nextRef (wall : Nat) : Nat := ceilDiv wall 67200 * 67200

/-- The base change at W (R331, R332); a running point that a cap holds below the new base stays (log 13). The RBC takes the new rate from
the next REFCLK period (R335). -/
def State.baseChange (s : State) : State :=
  match s.clk.change with
  | some (code, w) =>
    if s.rbc < w then s
    else
      let capped := s.clk.runOp ≠ s.clk.baseOp && opMhz s.clk.runOp < opMhz code
      let s := s.modClk (fun c => { c with baseOp := code, change := none, rateOp := c.baseOp, rateAt := nextRef c.wall })
      if capped then s else s.runAt code
  | none => s

/-- OPERATING_POINT_CHANGE (R332): a change whose time has come begins; regions whose alignment is over restart. -/
def execOperatingPointChange (s : State) : Result := .next s.baseChange.restartRegions

/-- SET_OPERATING_POINT (R331). -/
def State.cmdSetOperatingPoint (s : State) (porch : Bool) (b : BitVec 2048) : Reply :=
  let code := blkByte b 0
  let w := blkNum b 8 8
  s.checked porch b 16 (blkNum b 1 7 == 0) true (fun s =>
    if !s.fuses.points.contains code then s.timNo 0x0411
    else if s.hearth.running.any (fun x => (s.ctx x).job == 1) then s.timNo 0x0303
    else if !s.clk.valid then s.timNo 0x0730
    else if w < s.rbc + 100 * opMhz s.clk.baseOp then s.timNo 0x0307
    else (s.modClk (fun c => { c with change := some (code, w) })).ok)

def execSetOperatingPoint (src : Src) (s : State) : Result :=
  .next (s.command src 0x50 (.setOperatingPoint src) (fun s b => s.cmdSetOperatingPoint (srcPorch src) b))

/-! Reference (R333, R334) -/

/-- The FBC and RBC become invalid. -/
def State.fbcInvalid (s : State) : State := s.modClk (fun c => { c with valid := false, port := 7, dist := 0xFF })

/-- REFERENCE_LOST (R333); nothing while the module already runs in holdover. -/
def execReferenceLost (s : State) : Result :=
  .next (if s.tim.holdover then s
    else
      let s := (s.modTim (fun t => { t with refOk := false, holdover := true })).modPins (fun p => { p with refclk := false })
      (s.fbcInvalid.raise 0x0621 0 0 0).bump 6 0x158 1)

/-- REFERENCE_RESTORED (R334). -/
def execReferenceRestored (s : State) : Result :=
  .next (if s.tim.refOk then s
    else ((s.modTim (fun t => { t with refOk := true, holdover := false })).modPins (fun p => { p with refclk := true })).raise
      0x0622 0 0 0)

/-! FBC cells (R337 to R339, Table 12.4) -/

def Tim.rootEn (t : Tim) : Bool := bitOf t.fbcCtl 30
def Tim.root (t : Tim) : Nat := fld t.fbcCtl 27 16
def Tim.tol (t : Tim) : Nat := max (fld t.fbcCtl 15 8) 1
def Tim.period (t : Tim) : Nat := min (max (fld t.fbcCtl 7 0) 10) 20

/-- The body of an FBC cell but for RBC and HALF, which its frame fills in. -/
def State.fbcBody (s : State) : BitVec 192 :=
  BitVec.ofNat 192 (s.tim.root * 2 ^ 116 + (if s.clk.valid then s.clk.dist % 256 else 255) * 2 ^ 108 + s.clk.baseOp * 2 ^ 105
    + b2n s.clk.valid * 2 ^ 104)

/-- FBC_CELL_SEND (R337): every 2^PERIOD_LOG beats of the RBC, and once after the port has entered UP. -/
def execFbcCellSend (p : Fin 8) (s : State) : Result :=
  let q := p.val
  let t := s.port q
  let n := s.rbc / 2 ^ s.tim.period
  .next (if !(q < 6 && t.state == 7 && !t.excluded) then s
    else if s.tim.fbcSent.get 0 q = n + 1 && s.tim.fbcSent.get 0 (8 + q) = t.upBeat + 1 then s
    else (s.modTim (fun x => { x with fbcSent := (x.fbcSent.set 0 q (n + 1)).set 0 (8 + q) (t.upBeat + 1) })).sendBypass
      q s.clk.beat 5 s.fbcBody)

/-- SEED (R338): the root makes its RBC valid at zero. -/
def State.seed (s : State) : State :=
  if !s.tim.rootEn || s.job.isSome then s
  else s.modClk (fun c => { c with fbc := 0#64, rbcHalf := 0#65, refAt := c.wall, valid := true, port := 7, dist := 0 })

def execSeed (s : State) : Result := .next s.seed

/-- Adopt from a cell (R338): `half` the half-beat count that the release beat is given. -/
def State.adopt (s : State) (p dist half : Nat) (x : BypRx) : State :=
  let now := BitVec.ofNat 65 (half + (s.clk.rbcHalf - x.rbch).toNat)
  s.modClk (fun c => { c with
    rbcHalf := now, fbc := BitVec.ofNat 64 (now.toNat / 2), valid := true, port := p, dist := dist + 1 })

/-- Compare a cell with the own RBC (R338, R339). -/
def State.compareFbc (s : State) (p dist rbc : Nat) (x : BypRx) : State :=
  let d : Int := (rbc : Int) - (x.rbch.toNat / 2 : Nat)
  if (s.tim.tol : Int) < d.natAbs then
    let s := s.raise 0x0731 1 p (wrapInt 48 d)
    if s.clk.port = p then s.fbcInvalid else s
  else if !s.tim.rootEn && dist + 1 < s.clk.dist then s.modClk (fun c => { c with port := p, dist := dist + 1 })
  else s

/-- FBC_CELL (R338, R339): a cell counts by the release beat of its first half. -/
def execFbcCell (p : Fin 8) (s : State) : Result :=
  let q := p.val
  .next (match s.takeBypass q 5 0 with
    | none => s
    | some (x, s) =>
      let w := bypBody x.cell
      let t := s.port q
      let dist := fld w 115 108
      let rbc := fld w 191 128 + t.hop
      if !bitOf w 104 || fld w 127 116 ≠ s.tim.root || fld w 107 105 ≠ s.clk.baseOp then s.bump 6 0x178 1
      else if !(dist < 254 && t.state == 7 && !t.excluded && q < 6) then s
      else if s.clk.valid then s.compareFbc q dist rbc x
      else if s.tim.rootEn || s.job.isSome then s
      else s.adopt q dist (2 * rbc + fld w 103 103) x)

/-! The time counter's commands (R341 to R345) -/

def Tim.servo (t : Tim) : Bool := bitOf t.ctl 28

/-- LOAD (R341): TIM_SET is loaded at the next tick; ignored while SERVO is 1 (R342). -/
def State.timLoad (s : State) : State := if s.tim.servo then s else s.modTim (fun t => { t with load := true })
def execLoad (s : State) : Result := .next s.timLoad

/-- APPLY (R341). -/
def State.timApply (s : State) : State := if s.tim.servo then s else s.modTim (fun t => { t with apply := true })
def execApply (s : State) : Result := .next s.timApply

/-- TXTS_POP (R345). -/
def State.txtsPop (s : State) : State := s.modTim (fun t => { t with txts := t.txts.drop 1 })
def execTxtsPop (s : State) : Result := .next s.txtsPop

/-- TX_CORR and RX_CORR of a port mode in 0.1 ns (Table 12.5). -/
def ptpCorr : Nat → Nat × Nat
  | 0 => (384, 512) | 1 => (1120, 1840) | _ => (1200, 1920)

/-- The time `tenths` of 0.1 ns later; the fraction is cut to its 24 bits (log 13). -/
def TimeWord.addTenths (t : TimeWord) (tenths : Nat) : TimeWord :=
  let f := t.frac + tenths % 10 * 2 ^ 24 / 10
  { t.addNs (tenths / 10 + f / 2 ^ 24 : Nat) with frac := f % 2 ^ 24 }

/-- The time `tenths` of 0.1 ns earlier. -/
def TimeWord.subTenths (t : TimeWord) (tenths : Nat) : TimeWord :=
  let f := (t.frac : Int) - (tenths % 10 * 2 ^ 24 / 10 : Nat)
  { t.addNs (f / 2 ^ 24 - (tenths / 10 : Nat)) with frac := (f % 2 ^ 24).toNat }

/-- TIM_INCREMENT within its limits (R342). -/
def incrWord (x : Nat) : W32 := BitVec.ofNat 32 (min (max x 0x01FF0000) 0x02010000)

/-- Hearth's 1588 client disciplines the counter: what it makes of a stamp is a free value (R342, log 14). -/
def State.servoStep (s : State) : State :=
  let x := Config.servo s.draws
  let s := { s with draws := s.draws + 1 }
  s.modTim (fun t => { t with incr := incrWord (fld x 31 0), step := if bitOf x 32 then some (toSigned 64 (fld x 127 64)) else t.step })

/-- A receive stamp goes to Hearth's 1588 client, corrected under CORRECT (R344). -/
def State.rxStamp (s : State) : State :=
  let t := if bitOf s.tim.ctl 27 then s.tim.now.subTenths (ptpCorr s.tim.mode).2 else s.tim.now
  let s := s.modTim (fun x => { x with rxts := some t.pack })
  if s.tim.servo then s.servoStep else s

/-- A transmit stamp enters the queue, corrected under CORRECT; one that finds it full is discarded (R344, R345). -/
def State.txStamp (s : State) (tag : W16) : State :=
  let t := if bitOf s.tim.ctl 27 then s.tim.now.addTenths (ptpCorr s.tim.mode).1 else s.tim.now
  if 16 ≤ s.tim.txts.length then ((s.modTim (fun t => { t with txOver := true })).w1Mark 6 0x04 26).bump 6 0x170 1
  else s.modTim (fun x => { x with txts := x.txts ++ [putFld t.pack 127 112 tag.toNat] })

/-- TIMESTAMP (R344, R345): the start delimiter of a received frame, or of a transmitted one that Hearth marked with a stamp id. -/
def execTimestamp (rx : Bool) (tag : W16) (s : State) : Result := .next (if rx then s.rxStamp else s.txStamp tag)

/-! Pulses and PPS (R346 to R348) -/

def State.pulse (s : State) (n : Nat) : Pulse := s.tim.pulses.get Pulse.zero n

/-- A pulse output's pin: its active level while a pulse is in progress. -/
def Pulse.level (x : Pulse) : Bool := x.active.isSome != bitOf x.ctl 30

def State.setPulse (s : State) (n : Nat) (x : Pulse) : State :=
  (s.modTim (fun t => { t with pulses := t.pulses.set Pulse.zero n x })).modPins (fun p =>
    if n = 0 then { p with pulse0 := x.level } else { p with pulse1 := x.level })

/-- The checks of R346. -/
def State.pulseOk (s : State) (x : Pulse) : Bool :=
  let w := x.width.toNat
  let p := x.period.toNat
  s.tim.valid && 8 ≤ w && (p == 0 || (w + 8 ≤ p && 100 ≤ p)) && decide ((1000 : Int) ≤ (timeOf x.start).diff s.tim.now)

/-- Set ENABLE of output `n`: 0, or 0x0410. -/
def State.enablePulse (s : State) (n : Nat) : State × Nat :=
  let x := s.pulse n
  if bitOf x.ctl 31 then (s, 0)
  else if s.pulseOk x then (s.setPulse n { x with ctl := putFld x.ctl 31 31 1, edge := timeOf x.start }, 0)
  else (s.modTim (fun t => { t with reason := 0x0410 }), 0x0410)

/-- TIME_PULSE_ENABLE (R346). -/
def execTimePulseEnable (n : Fin 2) (s : State) : Result := .next (s.enablePulse n.val).1

/-- The first edge of a periodic output ahead of the counter (R346, R347). -/
def Pulse.nextEdge (x : Pulse) (now : TimeWord) : TimeWord :=
  let start := timeOf x.start
  let p := x.period.toNat
  let d := now.diff start
  let k := if d < 0 then 0 else d.toNat / p + (if now.diff (start.addNs (d.toNat / p * p : Nat)) == 0 && now.frac < start.frac then 0 else 1)
  start.addNs (k * p : Nat)

/-- Time `t` lies before the present (R343). -/
def TimeWord.passed (now t : TimeWord) : Bool := 0 < now.diff t || (now.diff t == 0 && t.frac < now.frac)

/-- PULSE_EDGE (R346, R347): the edge time is reached. A counter that a tick moved past it gives one pulse from the next tick. -/
def execPulseEdge (n : Fin 2) (s : State) : Result :=
  let x := s.pulse n.val
  let now := s.tim.now
  .next (if !bitOf x.ctl 31 || !now.reached x.edge || (s.tim.moved && now.passed x.edge) then s
    else
      let from_ := if 2 < now.diff x.edge then now else x.edge
      let ctl := putFld x.ctl 29 29 1
      let x := { x with active := some (from_.addNs x.width.toNat) }
      let s := s.w1Mark 6 (0x80 + 0x20 * n.val) 29
      if x.period = 0#32 then s.setPulse n.val { x with ctl := putFld ctl 31 31 0 }
      else s.setPulse n.val { x with ctl := ctl, edge := x.nextEdge now })

/-- PULSE_END (R346). -/
def execPulseEnd (n : Fin 2) (s : State) : Result :=
  let x := s.pulse n.val
  .next (match x.active with
    | some e => if s.tim.now.reached e then s.setPulse n.val { x with active := none } else s
    | none => s)

/-- PPS_CAPTURE (R348): an edge of PPS_IN is sampled in this tick; one that TIM_CTL.PPS_EDGE selects captures the time. -/
def execPpsCapture (falling : Bool) (s : State) : Result :=
  let s := s.modPins (fun p => { p with ppsIn := !falling })
  .next (if !bitOf s.tim.ctl 26 || bitOf s.tim.ctl 25 != falling then s
    else
      let t := if s.tim.ppsValid then (s.modTim (fun t => { t with ppsOver := true })).w1Mark 6 0x04 27 else s
      (t.modTim (fun t => { t with pps := (t.now.addNs (-4)).pack, ppsValid := true })).w1Mark 6 0x04 28)

/-! Power states and capping (R350 to R353) -/

/-- No job has been loaded for IDLE_10MS × 10 ms. -/
def State.idleDue (s : State) : Bool :=
  let n := fld s.hearth.power 7 0
  n != 0 && s.hearth.pState == 0 && s.hearth.ready && s.job.isNone && decide (s.hearth.idleFrom + quMs (10 * n) ≤ s.clk.wall)

/-- IDLE_ENTRY (R350): the module enters P1. -/
def execIdleEntry (s : State) : Result :=
  .next (if s.idleDue then (s.modHearth (fun h => { h with pState := 1 })).runRegions else s)

/-- Enter P2: beat clocks stop, ports are electrically idle, the FBC is invalid (R339, R350). -/
def State.park (s : State) : State :=
  let s := iter 8 s (fun p s => if (s.port p).carries then s.linkDown p 0x0720 false false
    else if 2 ≤ (s.port p).state then s.enterState p 1 else s)
  let s := (s.modHearth (fun h => { h with pState := 2 })).modClk (fun c => { c with
    linkRun := false, cluRun := [], celRun := false, startAt := none })
  s.fbcInvalid

/-- Leave P2 or P1 for `st`: the link region runs, enabled ports train from DETECT (R350). -/
def State.unpark (s : State) (st : Nat) : State :=
  ((s.modHearth (fun h => { h with pState := st })).modClk (fun c => { c with linkRun := true })).runRegions

/-- Enter P3: key sets and memory contents are lost, the time counter and FBC are invalid, the module is off (R350). -/
def State.standby (s : State) (wake : W64) : State :=
  let s := s.park.eraseKeys
  let s := s.clearResident
  let s := s.modCel (fun c => { c with blocks := [], fills := [], symErr := [], powerOn := c.powerOn + 1, ready := false, stacksOk := 0#8 })
  let s := s.modTim (fun t => { t with valid := false, now := TimeWord.zero })
  let s := s.modPins (fun p => { p with pwrOk := false })
  s.modHearth (fun h => { h with pState := 3, wakeCode := wake, ready := false, barrin := 0, barrinVer := 0 })

/-- SET_POWER_STATE (R350). -/
def State.cmdSetPowerState (s : State) (porch : Bool) (b : BitVec 2048) : Reply :=
  let st := blkByte b 0
  s.checked porch b 16 (blkNum b 1 7 == 0) (st ≤ 3) (fun s =>
    if s.hearth.running.any (fun x => (s.ctx x).job == 1) then s.timNo 0x0303
    else if st = 2 && !s.drained then s.timNo 0x0304
    else if st = 3 && (List.range 16).any (fun x => (s.ctx x).state != 0) then s.timNo 0x0302
    else if st = 2 then s.park.ok
    else if st = 3 then (s.standby (BitVec.ofNat 64 (blkNum b 8 8))).ok
    else (s.unpark st).ok)

def execSetPowerState (src : Src) (s : State) : Result :=
  .next (s.command src 0x52 (.setPowerState src) (fun s b => s.cmdSetPowerState (srcPorch src) b))

/-- WAKE_FRAME (R351): a wake frame, in P3: its destination, EtherType and code. -/
def execWakeFrame (mac : BitVec 48) (etype : W16) (code : W64) (s : State) : Result :=
  .next (if s.hearth.pState ≠ 3 || mac ≠ s.fuses.mac || etype ≠ 0x88B5#16 then s
    else if code = s.hearth.wakeCode then s.powerReset 6 0
    else s.modHearth (fun h => { h with wakeBad := h.wakeBad + 1 }))

def capW (w : W64) : Nat := fld w 63 48
def hystW (w : W64) : Nat := fld w 47 32

/-- The highest point at which the planned power meets the cap (R352); 1,000 MHz where none does. The manual does not say when the plan is
made: the model makes it at the end of each window that is in excess, with the stretch that held while `power` was measured, and takes it
at the next readiness (log 13). -/
def State.capPoint (s : State) (power : Nat) : Nat :=
  let cap := capW s.hearth.power
  let f := opMhz s.clk.runOp
  let st := 8 + s.capNow
  (s.fuses.points.find? (fun p => opMhz p ≤ opMhz s.clk.baseOp && 350 * 8 * f + (power - 350) * opMhz p * st ≤ cap * 8 * f)).getD 4

/-- The next higher point up to the base point. -/
def State.nextPoint (s : State) : Option Nat :=
  (s.fuses.points.filter (fun p => opMhz s.clk.runOp < opMhz p && opMhz p ≤ opMhz s.clk.baseOp)).getLast?

/-- Plan a point for the next readiness, or take it at once when no epoch runs. -/
def State.planPoint (s : State) (code : Nat) : State :=
  let s := s.modClk (fun c => { c with capTarget := some code })
  if s.tt.state = 2 || s.tt.state = 3 || s.tt.state = 4 then s else s.capStep

/-- WINDOW_MS has passed since the last window ended. -/
def State.windowDue (s : State) : Bool := s.hearth.windowAt + quMs (fld s.hearth.power 31 16) ≤ s.clk.wall

/-- POWER_CAP_WINDOW (R352): the window's average input power in W and the hottest junction in °C; a thermal trip ends where every sensor
reads below 95 °C (R424). Nothing before WINDOW_MS has passed since the last. -/
def execPowerCapWindow (power junction : Nat) (s : State) : Result :=
  let w := s.hearth.power
  let excess := capW w < power || fld w 15 8 < junction
  let floor := excess && s.clk.runOp = 4 && s.capNow = 4
  let plan (code : Nat) (s : State) : State := if code = s.clk.runOp then s.modClk (fun c => { c with capTarget := none }) else s.planPoint code
  .next (if !s.windowDue then s
    else
      let s := s.modHearth (fun h => { h with
        inputW := power, junction := junction, overCap := excess, capFloor := floor, thermal := h.thermal && 95 ≤ junction
        windowAt := s.clk.wall })
      if floor then (s.modHearth (fun h => { h with belowRun := 0 })).raise 0x0623 0 0 0
      else if excess then plan (s.capPoint power) ((s.modHearth (fun h => { h with belowRun := 0 })).setStretch (min (s.capNow + 1) 4))
      else if power + hystW w < capW w then
        if s.hearth.belowRun + 1 < 10 then s.modHearth (fun h => { h with belowRun := h.belowRun + 1 })
        else
          let s := s.modHearth (fun h => { h with belowRun := 0 })
          if 0 < s.capNow then s.setStretch (s.capNow - 1)
          else match s.nextPoint with
            | some code => s.planPoint code
            | none => s
      else s.modHearth (fun h => { h with belowRun := 0 }))

/-- SET_POWER_CAP (R353). -/
def State.cmdSetPowerCap (s : State) (porch : Bool) (b : BitVec 2048) : Reply :=
  let cap := blkNum b 0 2
  let hyst := blkNum b 2 2
  let win := blkNum b 4 2
  let th := blkByte b 6
  let lim := if s.fuses.od720 then (900, 1800) else (1000, 2200)
  s.checked porch b 8 true
    (lim.1 ≤ cap && cap ≤ lim.2 && 20 ≤ hyst && hyst ≤ 500 && 1 ≤ win && win ≤ 1000 && 85 ≤ th && th ≤ 105)
    (fun s => (s.modHearth (fun h => { h with
      power := BitVec.ofNat 64 (cap * 2 ^ 48 + hyst * 2 ^ 32 + win * 2 ^ 16 + th * 2 ^ 8 + blkByte b 7) })).ok)

def execSetPowerCap (src : Src) (s : State) : Result :=
  .next (s.command src 0x51 (.setPowerCap src) (fun s b => s.cmdSetPowerCap (srcPorch src) b))

end Sys2Proof.Machine
end

