-- ==== Sys2Proof/Machine/RecordCtl.lean ====
section
/-! DEFINITION. The ENABLE checks of recording (R368) and of the operator CA slots (R387). -/

namespace Sys2Proof.Machine

/-! Recording (R366 to R368) -/

/-- The loaded job's own partition, first byte and the byte after its last (R313). -/
def State.partition (s : State) : Nat × Nat :=
  match s.job with
  | some j => (j.base * 2 ^ 24, (j.base + j.fold * j.part) * 2 ^ 24)
  | none => (0, 0)

/-- The area of a log is usable: in the running context's regions, off its save area and partition (R368). -/
def State.logAreaOk (s : State) (x : Nat) (c : W64) : Bool :=
  let lo := recBase c
  let n := recSize c
  let p := s.partition
  n != 0 && s.inRegions x lo n && !s.inSave x lo (lo + n - 1) && !(lo < p.2 && p.1 < lo + n)

/-- A MARK entry (R366). -/
def isMark (hd : Nat) : Bool := nfld hd 127 112 == 0 && nfld hd 63 32 == 0 && nfld hd 95 88 == 0

/-- The checks of R368, in order; replay's MARK is checked as the log is opened. -/
def State.recordCheck (s : State) : Nat :=
  let c := s.hearth.rec_.ctl
  match s.hearth.running with
  | none => 0x0302
  | some x =>
    if recReplay c && ((s.ctx x).job = 1 || (s.ctx x).job = 2) then 0x0303
    else if !s.logAreaOk x c then 0x0412
    else 0

def State.recordFails (s : State) (code : Nat) : State × Nat := (s.modRec (fun r => { r with reason := code }), code)

/-- Set ENABLE of HTH_RECORD_CTL: recording begins with its MARK entry, replay after it (R366, R368, R369). -/
def State.enableRecord (s : State) : State × Nat :=
  if recEnable s.hearth.rec_.ctl then (s, 0)
  else match s.recordCheck with
    | 0 =>
      let x := s.hearth.running.getD 0
      let on (s : State) : State := s.modRec (fun r => { r with
        ctl := putFld r.ctl 63 63 1, active := true, late := 0, entries := 0, wrPos := 0, rdPos := 0, rdSeq := 0, ctx := x })
      if recReplay s.hearth.rec_.ctl then
        match (s.modRec (fun r => { r with ctx := x })).logAt 0 with
        | (s, some (hd, _, _, pos)) =>
          if isMark hd then
            ((on s).modRec (fun r => { r with
              rdPos := pos, startFbc := (s.clk.fbc.toNat + 2 ^ 64 - nfld hd 255 192) % 2 ^ 64 }), 0)
          else s.recordFails 0x0412
        | (s, none) => s.recordFails 0x0412
      else
        let s := on s
        (s.logBytes (leBytes 32 (s.logHeader false 0 0#2048)), 0)
    | code => s.recordFails code

/-- RECORD_ENABLE (R368). -/
def execRecordEnable (s : State) : Result := .next s.enableRecord.1

/-! Operator CA slots (R387, Table 14.8) -/

def State.opcaOn (s : State) (n : Nat) : Bool := bitOf (s.flash.opcaCtl.get 0#32 n) 31
def State.opcaAny (s : State) : Bool := (List.range 4).any s.opcaOn

/-- The public key of a slot: its bytes are X and Y, each big-endian (Table 14.8). -/
def State.opcaPub (s : State) (n : Nat) : BitVec 512 := BitVec.ofNat 512 (beNat (leBytes 64 (s.flash.opcaKey.get 0#512 n).toNat))

/-- The key of a slot is a point of the curve. -/
def State.opcaOk (s : State) (n : Nat) : Bool := pubOk (pubX (s.opcaPub n)) (pubY (s.opcaPub n))

/-- Set ENABLE of slot `n`. -/
def State.enableOpca (s : State) (n : Nat) : State × Nat :=
  if s.opcaOn n then (s, 0)
  else if s.opcaOk n then (s.modFlash (fun f => { f with opcaCtl := f.opcaCtl.set 0#32 n 0x80000000#32 }), 0)
  else (s.modSloe (fun x => { x with reason := 0x0518 }), 0x0518)

/-- OPCA_ENABLE (R387). -/
def execOpcaEnable (n : Fin 4) (s : State) : Result := .next (s.enableOpca n.val).1

end Sys2Proof.Machine
end

