-- ==== Sys2Proof/Machine/Regs.lean ====
section
/-! DEFINITION. The register spaces (R11, R12, R222, R253, R274, R288, R291, R354, R396, R412, Tables 7.12, 8.13, 9.6, 10.12, 10.13,
12.7, 15.11). -/

namespace Sys2Proof.Machine

/-! Register values -/

/-- The 32-bit word at byte `i` of a register value. -/
def wordAt (x i : Nat) : Nat := x / 2 ^ (8 * i) % 2 ^ 32

/-- HTH_EPOCH_STATUS (Table 6.11). -/
def State.epochStatus (s : State) : Nat :=
  let t := s.tt
  t.index.toNat * 2 ^ 32 + t.state * 2 ^ 29 + b2n t.overrun * 2 ^ 28 + b2n t.timeout * 2 ^ 27 + t.lateness % 2 ^ 24

/-- CTX_STATUS (Table 10.17). -/
def State.ctxStatus (s : State) (x : Nat) : Nat :=
  let c := s.ctx x
  c.state * 2 ^ 61 + b2n c.jobLoaded * 2 ^ 60 + c.job * 2 ^ 58 + c.saveBase % 2 ^ 20 * 2 ^ 32 + c.reason % 2 ^ 16 * 2 ^ 16
    + (s.cel.keys.get KeySet.zero x).epoch.toNat * 2 ^ 8 + min c.regions.length 32

/-- HTH_POWER_STATUS (Table 12.14). -/
def State.powerStatus (s : State) : Nat :=
  let h := s.hearth
  h.inputW % 2 ^ 16 * 2 ^ 48 + h.junction % 256 * 2 ^ 40 + h.pState % 4 * 2 ^ 38 + b2n h.overCap * 2 ^ 37 + b2n h.capFloor * 2 ^ 36

/-- HTH_RECORD_STATUS (Table 13.7). -/
def Record.status (r : Record) : Nat :=
  b2n r.active * 2 ^ 63 + b2n r.full * 2 ^ 62 + b2n r.diverged * 2 ^ 61 + min r.late 0xFFF * 2 ^ 48 + r.entries % 2 ^ 32 * 2 ^ 16
    + r.reason % 2 ^ 16

/-- HTH_ALARM_STATUS (Table 14.6). -/
def Sloe.alarmStatus (x : Sloe) : Nat :=
  b2n x.latched * 2 ^ 63 + b2n x.level2 * 2 ^ 62 + min x.l2Count 255 * 2 ^ 52 + min x.l1Count 0xFFFF * 2 ^ 36 + x.reason % 2 ^ 16 * 2 ^ 20
    + (x.sources &&& 0xF01FF#20).toNat

/-- HTH_SECURITY (Table 14.7). -/
def State.security (s : State) : Nat :=
  b2n s.fuses.locked * 2 ^ 34 + b2n s.fuses.provisioned * 2 ^ 33 + b2n s.fuses.production * 2 ^ 32 + s.fuses.svn % 256 * 2 ^ 24
    + s.dbg.postRestore.toNat * 2 ^ 16 + s.dbg.postReset.toNat * 2 ^ 8 + s.dbg.posture.toNat

/-- HTH_RESET_CAUSE (Table 16.7). -/
def Sloe.resetCause (x : Sloe) : Nat := (putFld x.cause 35 32 x.stage).toNat

/-- Space 0x01 (Table 10.13 with Tables 12.13, 13.6, 14.6, 14.8, 14.10, 16.7). -/
def State.hthWord (s : State) (off : Nat) : Nat :=
  let i := off % 8
  let q (x : Nat) : Nat := wordAt x i
  if 0x100 ≤ off && off < 0x300 then
    let n := (off - 0x100) / 0x80
    let o := (off - 0x100) % 0x80
    if o = 0 then (s.flash.opcaCtl.get 0#32 n).toNat
    else if 0x40 ≤ o then wordAt (s.flash.opcaKey.get 0#512 n).toNat (o - 0x40)
    else 0
  else match off / 8 with
    | 0 => q s.epochStatus
    | 1 => if i = 0 then s.tt.ctl.toNat else 0
    | 2 => q s.tt.start.toNat
    | 3 => if i = 0 then s.hearth.running.getD 0xFF else 0
    | 4 => q s.hearth.power.toNat
    | 5 => q s.powerStatus
    | 6 => q s.hearth.rec_.ctl.toNat
    | 7 => q s.hearth.rec_.status
    | 8 => q s.sloe.alarmStatus
    | 9 => if i = 0 then s.sloe.ctl.toNat else 0
    | 10 => q s.security
    | 12 => q s.sloe.resetCause
    | _ => 0

/-- LNK_STATUS (Table 7.15). -/
def Port.status (t : Port) : Nat :=
  t.state * 2 ^ 28 + (if t.state = 7 then t.width else 0) * 2 ^ 26 + b2n t.retrain * 2 ^ 25 + b2n t.flushedW1 * 2 ^ 24
    + min t.pend.length 8 * 2 ^ 20 + t.reason % 2 ^ 16

/-- LNK_SCHED_STATUS (Table 6.7). -/
def State.schedStatus (s : State) (p : Nat) : Nat :=
  let t := s.port p
  b2n t.holding * 2 ^ 31 + b2n t.held * 2 ^ 30 + t.slip.length % 128 * 2 ^ 20 + min (s.storeUsed p) 4095 * 2 ^ 8 + t.hop % 256

/-- LNK_BYPASS_STATUS (Table 7.19). -/
def Port.bypassStatus (t : Port) : Nat := t.window * 2 ^ 8 + t.outst.length % 16 * 2 ^ 4 + b2n t.bypRxHalf.isSome

/-- Space 0x03 (Table 7.12); counters are read through the frozen views. -/
def State.lnkWord (s : State) (off : Nat) : Nat :=
  let p := off / 0x200
  let o := off % 0x200
  let t := s.port p
  if 8 ≤ p then 0
  else if 0x80 ≤ o && o < 0x100 then wordAt (s.ctr 3 (off / 8 * 8)).toNat (off % 8)
  else match o with
    | 0x000 => t.ctl.toNat
    | 0x004 => t.limits.toNat
    | 0x008 => t.status
    | 0x00C => t.protoVer % 16 * 2 ^ 28 + t.cellVer % 16 * 2 ^ 24 + t.suite % 16 * 2 ^ 20 + t.group % 4 * 2 ^ 18 + t.hop % 512
    | 0x010 => t.partClass % 16 * 2 ^ 28 + t.partPort % 16 * 2 ^ 24 + t.partHall % 16 * 2 ^ 20 + t.partNode % 4096 * 2 ^ 8
    | 0x014 => t.panCtl.toNat
    | 0x018 => t.bypassStatus
    | 0x020 => if p < 6 then t.schedCtl.toNat else 0
    | 0x024 => if p < 6 then s.schedStatus p else 0
    | _ => 0

/-- Space 0x04 (Table 8.13). -/
def State.panWord (s : State) (off : Nat) : Nat :=
  let x := s.pan
  if 0x10000 ≤ off && off < 0x50000 then (x.ranks.get 0#32 ((off - 0x10000) / 4)).toNat
  else if 0x1000 ≤ off && off < 0x3000 then
    let n := (off - 0x1000) / 2
    (s.nodeEntry n).toNat + (s.nodeEntry (n + 1)).toNat * 2 ^ 16
  else if 0x400 ≤ off && off < 0x720 then wordAt (x.panErr.get 0#64 ((off - 0x400) / 8)).toNat (off % 8)
  else if 0x100 ≤ off && off < 0x300 then wordAt (x.win.get 0#128 ((off - 0x100) / 16)).toNat (off % 16)
  else if 0x80 ≤ off && off < 0xC8 then wordAt (s.ctr 4 (off / 8 * 8)).toNat (off % 8)
  else if 0x40 ≤ off && off < 0x80 then (x.jobBlock.get 0#32 ((off - 0x40) / 4)).toNat
  else match off with
    | 0x00 => s.sloe.panPos.toNat
    | 0x04 => x.topoCtl.toNat
    | 0x08 => b2n x.enable
    | 0x0C => b2n s.drained * 2 ^ 31 + b2n x.fenced * 2 ^ 30 + x.reason % 2 ^ 16
    | 0x10 => x.timeout.toNat
    | _ => 0

/-- CLR_KEY_CTL (Table 9.10). -/
def KeySet.word (k : KeySet) : Nat := b2n k.keyed * 2 ^ 29 + k.epoch.toNat

/-- CLR_HASH_STATUS (Table 9.14). -/
def HashSlot.word (h : HashSlot) : Nat := b2n h.isOpen * 2 ^ 31 + b2n h.failed * 2 ^ 30 + h.cluster % 128 * 2 ^ 23 + h.blocks % 2 ^ 23

/-- Space 0x05 (Table 9.6). -/
def State.clrWord (s : State) (off : Nat) : Nat :=
  let x := s.cel
  if 0x900 ≤ off && off < 0x940 then (s.hashSlot ((off - 0x900) / 4)).word
  else if 0x800 ≤ off && off < 0x880 then wordAt (x.log.get 0#128 ((off - 0x800) / 16)).toNat (off % 16)
  else if 0x400 ≤ off && off < 0x720 then wordAt (x.err.get 0#64 ((off - 0x400) / 8)).toNat (off % 8)
  else if 0x100 ≤ off && off < 0x300 then wordAt (x.regions.get 0#128 ((off - 0x100) / 16)).toNat (off % 16)
  else if 0x80 ≤ off && off < 0xE8 then wordAt (s.ctr 5 (off / 8 * 8)).toNat (off % 8)
  else if 0x40 ≤ off && off < 0x80 then (x.keys.get KeySet.zero ((off - 0x40) / 4)).word
  else match off with
    | 0x00 => x.ctl.toNat
    | 0x04 => x.stacksOk.toNat * 2 ^ 24 + b2n x.ready * 2 ^ 16 + x.reason % 2 ^ 16
    | _ => 0

/-- TIM_STATUS (Table 12.9). -/
def Tim.status (t : Tim) : Nat :=
  b2n t.valid * 2 ^ 31 + b2n t.refOk * 2 ^ 30 + b2n t.holdover * 2 ^ 29 + b2n t.ppsValid * 2 ^ 28 + b2n t.ppsOver * 2 ^ 27
    + b2n t.txOver * 2 ^ 26 + min t.txts.length 31 * 2 ^ 21 + t.reason % 2 ^ 16

/-- TIM_FBC_STATUS (Table 12.12). -/
def State.fbcStatus (s : State) : Nat :=
  b2n s.clk.valid * 2 ^ 31 + s.clk.port % 8 * 2 ^ 28 + s.clk.dist % 256 * 2 ^ 20 + min (s.rbc - s.clk.fbc.toNat) (2 ^ 19 - 1)

/-- TIM_CLK_STATUS (Table 12.15). -/
def Clk.status (c : Clk) : Nat :=
  c.baseOp % 8 * 2 ^ 29 + c.runOp % 8 * 2 ^ 26 + c.capStretch % 8 * 2 ^ 23 + b2n c.aligned * 2 ^ 22 + b2n c.change.isSome * 2 ^ 21

/-- Space 0x06 (Table 12.7). -/
def State.timWord (s : State) (off : Nat) : Nat :=
  let t := s.tim
  if 0x140 ≤ off && off < 0x180 then wordAt (s.ctr 6 (off / 8 * 8)).toNat (off % 8)
  else if 0x110 ≤ off && off < 0x120 then wordAt (t.txts.headD 0#128).toNat (off % 16)
  else if 0xD0 ≤ off && off < 0xE0 then wordAt t.pps.toNat (off % 16)
  else if 0x80 ≤ off && off < 0xC0 then
    let x := s.pulse ((off - 0x80) / 0x20)
    let o := off % 0x20
    if o = 0 then x.ctl.toNat else if o = 4 then x.width.toNat else if o = 8 then x.period.toNat
    else if 0x10 ≤ o then wordAt x.start.toNat (o - 0x10) else 0
  else if 0x50 ≤ off && off < 0x70 then (if off < 0x68 then (t.portOff.get 0#32 ((off - 0x50) / 4)).toNat else 0)
  else if 0x38 ≤ off && off < 0x40 then wordAt s.rbc (off % 8)
  else if 0x30 ≤ off && off < 0x38 then wordAt s.clk.fbc.toNat (off % 8)
  else if 0x20 ≤ off && off < 0x30 then wordAt t.set.toNat (off % 16)
  else if 0x10 ≤ off && off < 0x20 then wordAt t.now.pack.toNat (off % 16)
  else match off with
    | 0x00 => t.ctl.toNat
    | 0x04 => t.status
    | 0x08 => t.incr.toNat
    | 0x0C => t.offset.toNat
    | 0x40 => (putFld t.fbcCtl 31 31 0).toNat
    | 0x44 => s.fbcStatus
    | 0x48 => s.clk.status
    | 0x100 => (ptpCorr t.mode).1 * 2 ^ 16 + (ptpCorr t.mode).2
    | _ => 0

/-- DBG_HALTED (Table 15.11). -/
def State.haltedBits (s : State) : Nat := (s.clusters.map (fun x => if x.2.stw.halted && x.1 < 100 then 2 ^ x.1 else 0)).sum

/-- Space 0x07 (Table 15.11). -/
def State.dbgWord (s : State) (off : Nat) : Nat :=
  let d := s.dbg
  let i := off % 8
  let ctr (_ : Unit) : Nat := wordAt (s.ctr 7 (off / 8 * 8)).toNat i
  if 0x10000 ≤ off && off < 0x42000 then (if off % 0x100 < 0xC0 then ctr () else 0)
  else if 0x1000 ≤ off && off < 0x1DC0 then ctr ()
  else if 0x100 ≤ off && off < 0x120 then ctr ()
  else if 0x80 ≤ off && off < 0x90 then wordAt s.haltedBits (off % 16)
  else if 0x40 ≤ off && off < 0x80 then wordAt (d.breaks.get 0#64 ((off - 0x40) / 8)).toNat i
  else match off / 8 with
    | 0 => if i = 0 then d.ctl.toNat else d.range.toNat
    | 1 => if i = 0 then d.trace.length % 2 ^ 13 else 0
    | 2 => wordAt d.freeze.toNat i
    | 3 => wordAt d.freezeFbc.toNat i
    | 4 => wordAt d.stop.toNat i
    | 5 => wordAt d.stopFbc.toNat i
    | _ => 0

/-- The 32-bit word at an offset of a space; an offset that no table lists reads as zero (log 13). -/
def State.regWord (s : State) (space off : Nat) : Nat :=
  match space with
  | 1 => s.hthWord off
  | 2 => if off < 0x80 then wordAt (s.ctxStatus (off / 8)) (off % 8) else 0
  | 3 => s.lnkWord off
  | 4 => s.panWord off
  | 5 => s.clrWord off
  | 6 => s.timWord off
  | 7 => s.dbgWord off
  | _ => 0

/-! Writes -/

/-- A register write: the word it computes for RW fields, the written bits for W1C and WO fields (Table 0.4). -/
structure RegWr where
  new : W32
  set : W32
  deriving DecidableEq, Repr

/-- `value` under `mask` over the word `old` (R287). -/
def regWr (old : Nat) (value mask : W32) : RegWr := ⟨(BitVec.ofNat 32 old &&& ~~~mask) ||| (value &&& mask), value &&& mask⟩

/-- Replace the 32-bit word at byte `i` of a register. -/
def putWord {n : Nat} (x : BitVec n) (i : Nat) (w : W32) : BitVec n := putFld x (8 * i + 31) (8 * i) w.toNat

/-- Space 0x01. -/
def State.hthPut (s : State) (off : Nat) (w : RegWr) : State × Nat :=
  if 0x100 ≤ off && off < 0x300 then
    let n := (off - 0x100) / 0x80
    let o := (off - 0x100) % 0x80
    if o = 0 then
      if bitOf w.new 31 then s.enableOpca n else (s.modFlash (fun f => { f with opcaCtl := f.opcaCtl.set 0#32 n 0#32 }), 0)
    else if 0x40 ≤ o && !s.opcaOn n then
      (s.modFlash (fun f => { f with opcaKey := f.opcaKey.upd 0#512 n (fun k => putWord k (o - 0x40) w.new) }), 0)
    else (s, 0)
  else match off with
    | 0x00 => (s.modTt (fun t => { t with overrun := t.overrun && !s.w1Clears 1 0x00 28 w.set, timeout := t.timeout && !s.w1Clears 1 0x00 27 w.set }), 0)
    | 0x08 => (s.modTt (fun t => { t with ctl := BitVec.ofNat 32 (fld w.new 16 0) }), 0)
    | 0x30 =>
      if recEnable s.hearth.rec_.ctl then (s, 0) else (s.modRec (fun r => { r with ctl := putWord r.ctl 0 w.new }), 0)
    | 0x34 =>
      if recEnable s.hearth.rec_.ctl then (if bitOf w.new 31 then s else s.endRecord, 0)
      else
        let s := s.modRec (fun r => { r with ctl := putWord r.ctl 4 (BitVec.ofNat 32 (fld w.new 30 30 * 2 ^ 30 + fld w.new 7 0)) })
        if bitOf w.new 31 then s.enableRecord else (s, 0)
    | 0x3C => (s.modRec (fun r => { r with full := r.full && !s.w1Clears 1 0x3C 30 w.set, diverged := r.diverged && !s.w1Clears 1 0x3C 29 w.set }), 0)
    | 0x40 => (s.modSloe (fun x => { x with sources := x.sources &&& ~~~(BitVec.ofNat 20 ((List.range 20).map (fun b => if s.w1Clears 1 0x40 b w.set then 2 ^ b else 0)).sum) }), 0)
    | 0x44 => (if s.w1Clears 1 0x44 30 w.set then s.clearLevel2 else s, 0)
    | 0x48 => (s.modSloe (fun x => { x with ctl := BitVec.ofNat 32 (fld w.new 3 0) }), 0)
    | _ => (s, 0)

/-- Space 0x03 (R222): but for LNK_CTL and W1C, writes are ignored while ENABLE is 1. -/
def State.lnkPut (s : State) (off : Nat) (w : RegWr) : State × Nat :=
  let p := off / 0x200
  let on := bitOf (s.port p).ctl 31
  if 8 ≤ p then (s, 0)
  else match off % 0x200 with
    | 0x000 => s.writeLnkCtl p w.new
    | 0x004 => (if on then s else s.modPort p (fun t => { t with limits := BitVec.ofNat 32 (fld w.new 8 0) }), 0)
    | 0x008 => (s.modPort p (fun t => { t with flushedW1 := t.flushedW1 && !s.w1Clears 3 off 24 w.set }), 0)
    | 0x014 => (if on then s else s.modPort p (fun t => { t with panCtl := BitVec.ofNat 32 (fld w.new 27 0) }), 0)
    | 0x020 => (if on || 6 ≤ p then s else s.modPort p (fun t => { t with schedCtl := BitVec.ofNat 32 (fld w.new 23 0) }), 0)
    | _ => (s, 0)

/-- Set a node-map entry (Table 8.3). -/
def State.setNode (s : State) (n v : Nat) : State :=
  let e : W16 := BitVec.ofNat 16 (nfld v 15 15 * 2 ^ 15 + nfld v 11 0)
  s.modPan (fun p => { p with nodeMap := p.nodeMap.set 0#16 n (e ^^^ BitVec.ofNat 16 (0x8000 + n)) })

/-- A window entry's word with its reserved bits zero (Tables 8.12). -/
def winWord (i : Nat) (w : W32) : W32 :=
  if i = 4 then BitVec.ofNat 32 (fld w 7 0) else if i = 12 then BitVec.ofNat 32 (fld w 31 23 * 2 ^ 23 + fld w 7 0) else w

/-- Space 0x04. -/
def State.panPut (s : State) (off : Nat) (w : RegWr) : State × Nat :=
  if 0x10000 ≤ off && off < 0x50000 then
    let e : W32 := BitVec.ofNat 32 (fld w.new 31 31 * 2 ^ 31 + fld w.new 27 0)
    (s.modPan (fun p => { p with ranks := p.ranks.set 0#32 ((off - 0x10000) / 4) e }), 0)
  else if 0x1000 ≤ off && off < 0x3000 then
    let n := (off - 0x1000) / 2
    ((s.setNode n (fld w.new 15 0)).setNode (n + 1) (fld w.new 31 16), 0)
  else if 0x400 ≤ off && off < 0x720 then
    if off % 8 = 4 && s.w1Clears 4 off 31 w.set then
      (s.modPan (fun p => { p with panErr := p.panErr.upd 0#64 ((off - 0x400) / 8) (fun x => putFld x 63 63 0) }), 0)
    else (s, 0)
  else if 0x100 ≤ off && off < 0x300 then
    let n := (off - 0x100) / 16
    let i := off % 16
    let old := s.pan.win.get 0#128 n
    if bitOf old 127 then
      if i = 12 && !bitOf w.new 31 then (s.modPan (fun p => { p with win := p.win.set 0#128 n (putFld old 127 127 0) }), 0) else (s, 0)
    else
      let v := winWord i w.new
      let s := s.modPan (fun p => { p with win := p.win.set 0#128 n (putWord old i (if i = 12 then putFld v 31 31 0 else v)) })
      if i = 12 && bitOf w.new 31 then s.enableWin n else (s, 0)
  else if 0x40 ≤ off && off < 0x80 then
    let x := (off - 0x40) / 4
    let v : W32 := BitVec.ofNat 32 (fld w.new 27 16 * 2 ^ 16 + fld w.new 11 0)
    if bitOf (s.pan.jobBlock.get 0#32 x) 31 && bitOf w.new 31 then (s, 0)
    else
      let s := s.modPan (fun p => { p with jobBlock := p.jobBlock.set 0#32 x v })
      if bitOf w.new 31 then s.enableBlock x else (s, 0)
  else match off with
    | 0x04 => (s.modPan (fun p => { p with topoCtl := BitVec.ofNat 32 (fld w.new 16 0) }), 0)
    | 0x08 => if bitOf w.new 0 then s.enablePan else (s.modPan (fun p => { p with enable := false }), 0)
    | 0x10 => (s.modPan (fun p => { p with timeout := w.new }), 0)
    | _ => (s, 0)

/-- Space 0x05. -/
def State.clrPut (s : State) (off : Nat) (w : RegWr) : State × Nat :=
  if 0x800 ≤ off && off < 0x880 then
    let n := (off - 0x800) / 16
    let clear (b : Nat) (s : State) : State :=
      if s.w1Clears 5 off 31 w.set then s.modCel (fun c => { c with log := c.log.upd 0#128 n (fun x => putFld x b b 0) }) else s
    (if off % 16 = 4 then clear 63 s else if off % 16 = 12 then clear 127 s else s, 0)
  else if 0x400 ≤ off && off < 0x720 then
    if off % 8 = 4 && s.w1Clears 5 off 31 w.set then
      (s.modCel (fun c => { c with err := c.err.upd 0#64 ((off - 0x400) / 8) (fun x => putFld x 63 63 0) }), 0)
    else (s, 0)
  else if off = 0 then (s.modCel (fun c => { c with ctl := BitVec.ofNat 32 (fld w.new 31 31 * 2 ^ 31 + fld w.new 27 6 * 2 ^ 6) }), 0)
  else (s, 0)

/-- TIM_CTL (Table 12.8): the RW fields first, then the actions. -/
def State.putTimCtl (s : State) (w : RegWr) : State :=
  let s := s.modTim (fun t => { t with ctl := BitVec.ofNat 32 (fld w.new 28 25 * 2 ^ 25) })
  let s := if bitOf w.set 31 then s.timLoad else s
  let s := if bitOf w.set 30 then s.timApply else s
  if bitOf w.set 29 then s.txtsPop else s

/-- TIM_FBC_CTL (Table 12.11, R339). -/
def State.putFbcCtl (s : State) (w : RegWr) : State :=
  if s.job.isSome then s
  else
    let old := s.tim.fbcCtl
    let v : W32 := BitVec.ofNat 32 (fld w.new 30 30 * 2 ^ 30 + fld w.new 27 0)
    let s := s.modTim (fun t => { t with fbcCtl := v })
    let s := if fld old 30 30 ≠ fld v 30 30 || fld old 27 16 ≠ fld v 27 16 then s.fbcInvalid else s
    if bitOf w.set 31 then s.seed else s

/-- A pulse output's block (Table 12.10, R346). -/
def State.putPulse (s : State) (n o : Nat) (w : RegWr) : State × Nat :=
  let x := s.pulse n
  let on := bitOf x.ctl 31
  if o = 0 then
    let fired := bitOf x.ctl 29 && !s.w1Clears 6 (0x80 + 0x20 * n) 29 w.set
    let ctl : W32 := BitVec.ofNat 32 (b2n (on && bitOf w.new 31) * 2 ^ 31 + (if on && bitOf w.new 31 then fld x.ctl 30 30 else fld w.new 30 30) * 2 ^ 30
      + b2n fired * 2 ^ 29)
    let s := s.setPulse n { x with ctl := ctl }
    if bitOf w.new 31 && !on then s.enablePulse n else (s, 0)
  else if on then (s, 0)
  else if o = 4 then (s.setPulse n { x with width := w.new }, 0)
  else if o = 8 then (s.setPulse n { x with period := w.new }, 0)
  else if 0x10 ≤ o then (s.setPulse n { x with start := putWord x.start (o - 0x10) w.new }, 0)
  else (s, 0)

/-- Space 0x06. -/
def State.timPut (s : State) (off : Nat) (w : RegWr) : State × Nat :=
  if 0x80 ≤ off && off < 0xC0 then s.putPulse ((off - 0x80) / 0x20) (off % 0x20) w
  else if 0x20 ≤ off && off < 0x30 then (if s.tim.servo then s else s.modTim (fun t => { t with
    set := putWord t.set (off % 16) (if off % 16 = 12 then BitVec.ofNat 32 (fld w.new 5 0) else w.new) }), 0)
  else match off with
    | 0x00 => (s.putTimCtl w, 0)
    | 0x04 => (s.modTim (fun t => { t with
        ppsValid := t.ppsValid && !s.w1Clears 6 0x04 28 w.set, ppsOver := t.ppsOver && !s.w1Clears 6 0x04 27 w.set
        txOver := t.txOver && !s.w1Clears 6 0x04 26 w.set }), 0)
    | 0x08 =>
      (if s.tim.servo then s else s.modTim (fun t => { t with
        incr := BitVec.ofNat 32 (min (max w.new.toNat 0x01FF0000) 0x02010000) }), 0)
    | 0x0C => (if s.tim.servo then s else s.modTim (fun t => { t with offset := w.new }), 0)
    | 0x40 => (s.putFbcCtl w, 0)
    | _ => (s, 0)

/-- Write a word; the code is 0 or that of an ENABLE check (R291). Unlisted offsets and read-only registers keep their values. -/
def State.regPut (s : State) (space off : Nat) (w : RegWr) : State × Nat :=
  match space with
  | 1 => s.hthPut off w
  | 3 => s.lnkPut off w
  | 4 => s.panPut off w
  | 5 => s.clrPut off w
  | 6 => s.timPut off w
  | _ => (s, 0)

/-- The code with which a write is refused, 0 for none (R252, R288, R353, R387, R392, R412, Table 16.7). R412 refuses every DBG offset, so
that DBG_FREEZE_STATUS.LATE, W1C in Table 15.13, is cleared by a module reset only (log 13). -/
def State.regRefusal (s : State) (porch : Bool) (space off : Nat) : Nat :=
  match space with
  | 1 =>
    if off = 0x20 || off = 0x24 || off = 0x60 || off = 0x64 then 0x0507
    else if (off = 0x40 || off = 0x44 || off = 0x48 || off = 0x4C) && porch then 0x0507
    else if 0x100 ≤ off && off < 0x300 && porch && s.opcaAny then 0x0507
    else 0
  | 2 => 0x0507
  | 4 =>
    let node := 0x1000 ≤ off && off < 0x3000
    let topo := off = 4
    let rank := 0x10000 ≤ off && off < 0x50000
    if porch && (topo || node || (0x40 ≤ off && off < 0x80)) then 0x0507
    else if (topo || node || rank) && !(!s.pan.enable && s.drained) then 0x0304
    else 0
  | 5 => if (0x100 ≤ off && off < 0x300) || (0x40 ≤ off && off < 0x80) then 0x0507 else 0
  | 7 => 0x0507
  | _ => 0

end Sys2Proof.Machine
end

