-- ==== Sys2Proof/Machine/Porch.lean ====
section
/-! DEFINITION. The Barrin link, the Porch window and the host session's transactions (R278 to R282, R381, R382, Tables 10.2 to
10.8). -/

namespace Sys2Proof.Machine

/-! The Porch (R281) -/

/-- PRC_ID (Table 10.3). -/
def Fuses.prcId (f : Fuses) : Nat :=
  0x4B9 * 2 ^ 20 + (if f.od720 then 0x720 else 0x800) * 2 ^ 8 + (if f.b0 then 2 else 1) * 2 ^ 4 + (if f.b0 then 2 else 1)

/-- PRC_VERSION (Table 10.4). -/
def Hearth.prcVersion (h : Hearth) : Nat := h.barrinVer % 256 * 2 ^ 24 + 0x0101

/-- The running slot is CANDIDATE. -/
def State.trial (s : State) : Bool := !s.hearth.recovery && s.flash.cand == some s.hearth.bootSlot

/-- PRC_STATUS (Table 10.6). -/
def State.prcStatus (s : State) : Nat :=
  let h := s.hearth
  b2n h.ready * 2 ^ 31 + b2n h.recovery * 2 ^ 30 + b2n h.wedged * 2 ^ 29 + b2n h.sess.isSome * 2 ^ 28 + h.bootSlot % 2 * 2 ^ 27
    + b2n s.trial * 2 ^ 26 + min h.badAccess 255 * 2 ^ 16 + h.prcReason % 2 ^ 16

/-- PRC_EVENT_STATUS (Table 10.7). -/
def Hearth.prcEvent (h : Hearth) : Nat := h.evSeq.toNat % 2 ^ 24 * 2 ^ 8 + h.evSeq.toNat % 256

/-- MBX_CTLn (Table 10.8). -/
def Mbx.ctl (m : Mbx) : Nat := b2n m.overrun * 8 + b2n m.done * 4 + b2n m.busy * 2

/-- The 32-bit word at a Porch offset (Table 10.2); unlisted offsets read as zero. -/
def State.porchWord (s : State) (off : Nat) : Nat :=
  if 0x1000 ≤ off && off < 0x3000 then wordAt (s.hearth.events.get 0#256 ((off - 0x1000) / 32)).toNat (off % 32)
  else if 0x500 ≤ off && off < 0x900 then wordAt (s.mbx ((off - 0x500) / 0x100)).out.toNat (off % 0x100)
  else if 0x100 ≤ off && off < 0x500 then wordAt (s.mbx ((off - 0x100) / 0x100)).inn.toNat (off % 0x100)
  else if 0x40 ≤ off && off < 0x50 then (s.mbx ((off - 0x40) / 4)).ctl
  else match off with
    | 0x0 => s.fuses.prcId
    | 0x4 => s.hearth.prcVersion
    | 0x8 => s.hearth.protoSel.toNat
    | 0xC => s.prcStatus
    | 0x10 => s.hearth.prcEvent
    | _ => 0

/-- The host clears DONE of pair `n`; the keys of a session that this pair's response opened then apply (R380). -/
def State.clearDone (s : State) (n : Nat) : State :=
  let s := s.modMbx n (fun m => { m with done := false })
  match s.hearth.sessNext with
  | some (k, x) => if k = n then s.modHearth (fun h => { h with sess := some x, sessNext := none }) else s
  | none => s

/-- MBX_CTLn: the W1C bits first, then POST (Table 10.8, R282). -/
def State.writeMbxCtl (s : State) (n w : Nat) : State :=
  let s := if w.testBit 3 then s.modMbx n (fun m => { m with overrun := false }) else s
  let s := if w.testBit 2 then s.clearDone n else s
  if w.testBit 0 then s.postMbx n else s

/-- Write a 32-bit word of the Porch. -/
def State.porchPut (s : State) (off w : Nat) : State :=
  if 0x100 ≤ off && off < 0x500 then
    s.modMbx ((off - 0x100) / 0x100) (fun m => { m with inn := putWord m.inn (off % 0x100) (BitVec.ofNat 32 w) })
  else if 0x40 ≤ off && off < 0x50 then s.writeMbxCtl ((off - 0x40) / 4) w
  else if off = 8 && w % 256 = 1 then s.modHearth (fun h => { h with protoSel := 1#8 })
  else s

/-- Accesses are of 4 or 8 bytes and aligned (R281). -/
def accessOk (off size : Nat) : Bool := (size == 4 || size == 8) && off % size == 0

/-- A rejected access (Table 10.6). -/
def State.badAccess (s : State) : State := s.modHearth (fun h => { h with badAccess := min (h.badAccess + 1) 255 })

def State.porchDoWrite (s : State) (off size value : Nat) : State :=
  if !accessOk off size then s.badAccess
  else
    let s := s.porchPut off (value % 2 ^ 32)
    if size = 8 then s.porchPut (off + 4) (value / 2 ^ 32 % 2 ^ 32) else s

def State.porchDoRead (s : State) (off size : Nat) : State :=
  if !accessOk off size then s.badAccess.sendHost (.porchRead off size 0)
  else s.sendHost (.porchRead off size (s.porchWord off + if size = 8 then s.porchWord (off + 4) * 2 ^ 32 else 0))

/-- PORCH_WRITE (R281): an unprotected write, which an open session ignores (R381). -/
def execPorchWrite (off : W16) (size : Nat) (value : W64) (s : State) : Result :=
  .next (if !s.porchUp || s.hearth.sess.isSome then s else s.porchDoWrite off.toNat size value.toNat)

/-! Transactions (R381, R382) -/

/-- What an accepted transaction does. -/
def State.transact (s : State) (op : BarrinOp) (data : List Byte) : State :=
  match op with
  | .write off size => s.porchDoWrite off.toNat size (leNat (data.take size))
  | .read off size => s.porchDoRead off.toNat size
  | .other => s

/-- The data of a transaction whose tag verifies at the next counter value: 16 bytes of header, ciphertext, 16 bytes of tag. -/
def Session.unseal (x : Session) (bits : List Byte) : Option (List Byte) :=
  if bits.length < 32 then none
  else
    let n := bits.length - 16
    let (pt, tag) := gcmOpen x.kH2M.toNat (x.iv x.inCtr) (bits.take 16) ((bits.take n).drop 16)
    if tag = beNat (bits.drop n) then some pt else none

/-- A transaction rejected: counted, an alarm source, and the fourth of the session closes it. -/
def State.sessionAuth (s : State) (x : Session) : State :=
  let s := (s.badAccess.modHearth (fun h => { h with sess := h.sess.map (fun y => { y with fails := y.fails + 1 }) })).alarm1 4 0x0510
  if 4 ≤ x.fails + 1 then s.closeSession else s

/-- One accepted transaction counts; the session closes where the counter reaches 2^48. -/
def State.countIn (s : State) (x : Session) : State :=
  if 2 ^ 48 ≤ x.inCtr + 1 then s.closeSession
  else s.modHearth (fun h => { h with sess := h.sess.map (fun y => { y with inCtr := y.inCtr + 1 }) })

/-- An unprotected read that an open session still serves: PRC_ID, PRC_VERSION or PRC_STATUS (R381). -/
def barrinOpen : BarrinOp → Bool
  | .read off size => (size == 4 && (off.toNat == 0 || off.toNat == 4 || off.toNat == 0xC)) || (size == 8 && off.toNat == 0)
  | _ => false

/-- Its completion goes as it came, unprotected. -/
def State.openRead (s : State) (op : BarrinOp) : State :=
  match op with
  | .read off size =>
    s.emit (.porchRead off.toNat size (s.porchWord off.toNat + if size = 8 then s.porchWord (off.toNat + 4) * 2 ^ 32 else 0))
  | _ => s

/-- BARRIN_TRANSACTION (R381): header of 16 bytes and data, sealed with 16 bytes of tag while a session is open; a shorter one is
unprotected, and ignored but for the reads that stay open. -/
def execBarrinTransaction (op : BarrinOp) (bits : List Byte) (s : State) : Result :=
  .next (if !s.porchUp then s
    else match s.hearth.sess with
      | none => s.transact op (bits.drop 16)
      | some x =>
        if bits.length < 32 then (if barrinOpen op then s.openRead op else s)
        else match x.unseal bits with
        | some data => (s.countIn x).transact op data
        | none => s.sessionAuth x)

/-! The link (R279, R280) -/

/-- BARRIN_LINK_DOWN (R280, R382). -/
def execBarrinLinkDown (s : State) : Result :=
  .next (if s.hearth.barrin = 0 then s
    else (s.modHearth (fun h => { h with barrin := 0, barrinVer := 0, barrinLanes := 0#8 })).closeSession)

/-- The Barrin link is powered and served: by firmware from stage 4, or by the ROM in recovery mode (R278, Table 16.2); not in P3. -/
def State.barrinServed (s : State) : Bool := (4 ≤ s.sloe.stage || s.hearth.recovery) && s.hearth.pState != 3 && !s.held

/-- The link enters UP with version 1; when it returns to UP, one EVENTS_LOST event names the events not sent (R280). -/
def State.barrinUp (s : State) : State :=
  if !s.barrinServed || s.porchUp then s
  else
    let n := s.hearth.unsent
    let back := 0 < s.hearth.barrinUps
    let s := s.modHearth (fun h => { h with barrin := 4, barrinVer := 1, barrinUps := h.barrinUps + 1, unsent := 0 })
    if back then s.event 6 0 (Config.eventSeverity 6 0).toNat 0 (n % 2 ^ 32) else s

/-- The lanes that ALIGN takes: all 8, or the 4 of the half in which none failed, the lower first; none where both halves have failed
(R279). -/
def barrinWidth (good : Byte) : Byte :=
  if good = 0xFF#8 then 0xFF#8 else if good &&& 0x0F#8 = 0x0F#8 then 0x0F#8 else if good &&& 0xF0#8 = 0xF0#8 then 0xF0#8 else 0#8

/-- One step of the link's training through DETECT 0, EQUALISE 1, ALIGN 2, VERSION 3, UP 4: `good` the lanes that work, `minv` to `maxv` the
versions that the other end offers (R279). -/
def State.barrinNext (s : State) (good minv maxv : Byte) : State :=
  match s.hearth.barrin with
  | 0 => s.modHearth (fun h => { h with barrin := 1 })
  | 1 => s.modHearth (fun h => { h with barrin := 2 })
  | 2 =>
    if barrinWidth good = 0#8 then s else s.modHearth (fun h => { h with barrin := 3, barrinLanes := barrinWidth good })
  | 3 =>
    if minv.toNat ≤ 1 && 1 ≤ maxv.toNat then s.barrinUp
    else s.modHearth (fun h => { h with prcReason := 0x0203, barrinAt := s.clk.wall })
  | _ => s

/-- BARRIN_LINK_UP (R279, R280): the link trains as far as its lanes and versions let it. -/
def execBarrinLinkUp (good minv maxv : Byte) (s : State) : Result :=
  .next (if !s.barrinServed || s.porchUp then s else iter 4 s (fun _ s => s.barrinNext good minv maxv))

/-- BARRIN_VERSION_RETRY (R279): in VERSION, every 100 ms; the other end offers versions `minv` to `maxv`. -/
def execBarrinVersionRetry (minv maxv : Byte) (s : State) : Result :=
  .next (if !s.barrinServed || s.hearth.barrin ≠ 3 || s.clk.wall < s.hearth.barrinAt + quMs 100 then s
    else s.barrinNext s.hearth.barrinLanes minv maxv)

/-! Watchdogs (R278, R303) -/

/-- A block is wedged: reported, the running job stops, and it does nothing more until a full reset (R303). -/
def State.wedge (s : State) (kind unit low : Nat) : State :=
  let s := (s.raise 0x0310 kind unit low).endJob 0x0310
  if s.stuck kind unit then s else s.modHearth (fun h => { h with stuck := h.stuck ++ [(kind, unit)] })

/-- HEARTH_WATCHDOG (R278, R303): firmware runs from stage 4 on. -/
def execHearthWatchdog (s : State) : Result :=
  .next (if s.hearth.wedged || s.hearth.recovery || s.sloe.stage < 4 then s
    else (s.wedge 0 0 0).modHearth (fun h => { h with wedged := true }))

/-- FUNCTION_WATCHDOG (R303): the block has the unit kind and number of Table 10.15. -/
def execFunctionWatchdog (kind : BitVec 4) (unit : Byte) (s : State) : Result := .next (s.wedge kind.toNat unit.toNat 0)

end Sys2Proof.Machine
end

