-- ==== Sys2Proof/Machine/Hearth.lean ====
section
/-! DEFINITION. Hearth's queries, register access, subscriptions, tests, firmware updates, fencing and full reset (R276, R277, R284,
R287, R296, R443, Table 10.11). -/

namespace Sys2Proof.Machine

/-! The determinism key (R360, R361) -/

/-- The image that the running firmware was started from, and its arithmetic tables' version (log 16). -/
def State.image (s : State) : List Byte := s.hearth.loaded.get [] 2
def State.tableVersion (s : State) : Nat := (Config.compVersion 6 s.image).toNat

/-- The key input of Table 13.3 with the job fields of `j`. -/
def State.keyInput (s : State) (j : Option Job) : List Byte :=
  let (seed, ranks, vrows) := match j with
    | some j => (j.seed.toNat, j.ranks, j.vrows)
    | none => (0, 0, 0)
  ascii "ODK1" ++ leBytes 4 (Config.microcode s.image).toNat ++ leBytes 4 s.tableVersion ++ leBytes 4 0x000107FF ++ leBytes 8 seed
    ++ leBytes 4 ranks ++ [BitVec.ofNat 8 vrows] ++ List.replicate 3 0#8 ++ beBytes 32 (s.hearth.measures.get 0#256 6).toNat

/-- The first 8 bytes of the digest of the key input. -/
def State.determinismKey (s : State) (j : Option Job) : List Byte := (beBytes 32 (sha256 (s.keyInput j))).take 8

/-! Firmware slots (R275, Table 10.1) -/

def State.fwSlot (s : State) (n : Nat) : FwSlot := if n = 0 then s.flash.slotA else s.flash.slotB
def State.setSlot (s : State) (n : Nat) (x : FwSlot) : State :=
  s.modFlash (fun f => if n = 0 then { f with slotA := x } else { f with slotB := x })
def FwSlot.version (x : FwSlot) : Nat := fld x.header 95 64
def FwSlot.svn (x : FwSlot) : Nat := fld x.header 103 96

/-- The check of R275: 0, 0x0509 or 0x050A. -/
def State.fwCheck (s : State) (x : FwSlot) : Nat :=
  let h := x.header
  let hb := leBytes 128 h.toNat
  if fld h 31 0 ≠ 0x48544831 || 30 * 2 ^ 20 - 128 < fld h 63 32 || x.body.length ≠ fld h 63 32
      || (hb.drop 16).take 32 ≠ beBytes 32 (sha256 x.body)
      || !ecdsaVerify s.fuses.fwKey (sha256 (hb.take 64)) (BitVec.ofNat 512 (beNat (hb.drop 64))) then 0x0509
  else if x.svn < s.fuses.svn then 0x050A
  else 0

/-- The slot that FW_STAGE writes: the one that is not ACTIVE; in recovery mode either, the ACTIVE one where the other is valid (R277,
R278, log 13). -/
def State.stageSlot (s : State) : Nat :=
  let other := 1 - s.flash.active
  if s.hearth.recovery && s.fwCheck (s.fwSlot other) = 0 then s.flash.active else other

/-- The sector that the ROM reads: the one with the higher sequence number (R276). -/
def Flash.bootRec (f : Flash) : Option BootRec :=
  match f.bootA, f.bootB with
  | some a, some b => some (if b.seq < a.seq then a else b)
  | some a, none => some a
  | none, b => b

/-- Read the boot record; without a valid sector slot A is ACTIVE and nothing else is named (log 13). -/
def Flash.readRec (f : Flash) : Flash :=
  let r := f.bootRec.getD ⟨0, 0, none, 0⟩
  { f with active := r.active, cand := r.cand, tries := r.tries }

/-- Write a boot record into the sector that is not read now, with the next sequence number (R276). -/
def Flash.writeRec (f : Flash) (active : Nat) (cand : Option Nat) (tries : Nat) : Flash :=
  let f := { f with active := active, cand := cand, tries := tries }
  match f.bootRec with
  | none => { f with bootA := some ⟨1, active, cand, tries⟩ }
  | some r =>
    let x : BootRec := ⟨r.seq + 1, active, cand, tries⟩
    if f.bootA = some r then { f with bootB := some x } else { f with bootA := some x }

/-- The image data in the continuation blocks of a management command: blocks of 256 bytes with its OPCODE and TAG and LENGTH up to 248; a
block that is none of these ends what arrives (R285, R319, log 13). -/
def blockData (op tag : Nat) : Nat → List Byte → List Byte
  | 0, _ => []
  | k + 1, bs =>
    let b : BitVec 2048 := BitVec.ofNat 2048 (leNat (bs.take 256))
    if bs.length < 256 || blkOp b ≠ op || blkTag b ≠ tag || 248 < blkLen b then []
    else blkBytes b 0 (blkLen b) ++ blockData op tag k (bs.drop 256)

/-- The bytes of `len` that arrive from the host for a command: by DMA on the Porch, where the Barrin link must be up, in continuation
blocks on the management channel (R280, R285, R287); fewer than `len` where the transfer fails. A DMA counts as one transaction each way
(log 13); in a session the host's is header, sealed data and tag (R381). -/
def State.hostBytes (s : State) (porch : Bool) (b : BitVec 2048) (addr len : Nat) (host : Option (List Byte)) : State × List Byte :=
  let bits := host.getD []
  if !porch then (s, (blockData (blkOp b) (blkTag b) (bits.length / 256) bits).take len)
  else if !s.porchUp then (s, [])
  else
    let s := s.sendHost (.dmaRead addr len)
    match s.hearth.sess, host with
      | some x, some bits =>
        match x.unseal bits with
        | some data => (s.countIn x, data.take len)
        | none => (s.sessionAuth x, [])
      | _, _ => (s, bits.take len)

/-- FW_STAGE (R277). -/
def State.cmdFwStage (s : State) (porch : Bool) (b : BitVec 2048) (host : Option (List Byte)) : Reply :=
  let len := blkNum b 8 4
  s.checked porch b 12 true (len ≤ 30 * 2 ^ 20) (fun s =>
    if s.flash.cand.isSome then s.no 0x0302
    else match s.hostBytes porch b (blkNum b 0 8) len host with
      | (s, bs) =>
          if bs.length < len then s.no 0x0603 else
          let h : BitVec 1024 := BitVec.ofNat 1024 (leNat (bs.take 128))
          let x : FwSlot := ⟨h, (bs.drop 128).take (fld h 63 32)⟩
          let n := s.stageSlot
          let s := s.setSlot n x
          match s.fwCheck x with
          | 0 => ⟨0, leBytes 4 x.version ++ [BitVec.ofNat 8 x.svn, BitVec.ofNat 8 n], [], some bs, false, s⟩
          | code => ⟨code, [], [], some bs, false, s⟩)

def execFwStage (src : Src) (host : Option (List Byte)) (s : State) : Result :=
  .next (s.command src 0x70 (.fwStage src host) (fun s b => s.cmdFwStage (srcPorch src) b host))

/-- FW_ACTIVATE (R277). -/
def State.cmdFwActivate (s : State) (porch : Bool) (b : BitVec 2048) : Reply :=
  let n := blkByte b 0
  s.checked porch b 1 true (n ≤ 1) (fun s =>
    match s.fwCheck (s.fwSlot n) with
    | 0 =>
      if s.flash.cand.isSome || (!s.hearth.recovery && s.flash.active = n) then s.no 0x0302
      else (s.modFlash (fun f => f.writeRec f.active (some n) 0)).ok
    | code => s.no code)

def execFwActivate (src : Src) (s : State) : Result :=
  .next (s.command src 0x71 (.fwActivate src) (fun s b => s.cmdFwActivate (srcPorch src) b))

/-- Fuses are blown up to the running slot's SVN (R277, Table 16.5). -/
def State.blowSvn (s : State) : State :=
  { s with fuses := { s.fuses with svn := max s.fuses.svn (s.fwSlot s.hearth.bootSlot).svn } }

/-- FW_COMMIT (R277). -/
def State.cmdFwCommit (s : State) (porch : Bool) (b : BitVec 2048) : Reply :=
  s.checked porch b 0 true true (fun s =>
    if !s.trial then s.no 0x0302
    else ((s.modFlash (fun f => f.writeRec s.hearth.bootSlot none f.tries)).blowSvn).ok)

def execFwCommit (src : Src) (s : State) : Result :=
  .next (s.command src 0x72 (.fwCommit src) (fun s b => s.cmdFwCommit (srcPorch src) b))

/-! Queries -/

def State.enabledClusters (s : State) : Nat := ((List.range 100).filter s.cluEnabled).length

/-- GET_INFO (Table 10.11). -/
def State.cmdGetInfo (s : State) (porch : Bool) (b : BitVec 2048) : Reply :=
  s.checked porch b 0 true true (fun s =>
    s.okP (leBytes 4 s.fuses.prcId ++ leBytes 4 s.hearth.prcVersion ++ leBytes 8 s.fuses.serial.toNat
      ++ leBytes 4 (s.fwSlot s.hearth.bootSlot).version ++ [BitVec.ofNat 8 s.hearth.bootSlot, BitVec.ofNat 8 s.fuses.svn]
      ++ leBytes 2 s.enabledClusters ++ leBytes 4 s.tableVersion ++ s.determinismKey s.job))

def execGetInfo (src : Src) (s : State) : Result :=
  .next (s.command src 0x01 (.getInfo src) (fun s b => s.cmdGetInfo (srcPorch src) b))

/-- GET_STATUS (Table 10.11); the operating point is the running one (log 13). -/
def State.cmdGetStatus (s : State) (porch : Bool) (b : BitVec 2048) : Reply :=
  s.checked porch b 0 true true (fun s =>
    s.okP (leBytes 8 s.epochStatus ++ [BitVec.ofNat 8 (s.hearth.running.getD 0xFF), BitVec.ofNat 8 s.hearth.pState]
      ++ leBytes 2 (opMhz s.clk.runOp) ++ leBytes 4 s.hearth.inputW ++ [BitVec.ofNat 8 (b2n s.pan.fenced)]))

def execGetStatus (src : Src) (s : State) : Result :=
  .next (s.command src 0x02 (.getStatus src) (fun s b => s.cmdGetStatus (srcPorch src) b))

def spaceOk (n : Nat) : Bool := 1 ≤ n && n ≤ 7

/-- REG_READ (Table 10.11). -/
def State.cmdRegRead (s : State) (porch : Bool) (b : BitVec 2048) : Reply :=
  let sp := blkByte b 0
  let n := blkByte b 1
  let off := blkNum b 4 4
  s.checked porch b 8 (blkNum b 2 2 == 0) (spaceOk sp && 1 ≤ n && n ≤ 60 && off % 4 == 0) (fun s =>
    s.okP ((List.range n).flatMap (fun i => leBytes 4 (s.regWord sp (off + 4 * i)))))

def execRegRead (src : Src) (s : State) : Result :=
  .next (s.command src 0x10 (.regRead src) (fun s b => s.cmdRegRead (srcPorch src) b))

/-- REG_WRITE (Table 10.11, R288, R291). -/
def State.cmdRegWrite (s : State) (porch : Bool) (b : BitVec 2048) : Reply :=
  let sp := blkByte b 0
  let off := blkNum b 4 4
  s.checked porch b 16 (blkNum b 1 3 == 0) (spaceOk sp && off % 4 == 0) (fun s =>
    match s.regRefusal porch sp off with
    | 0 =>
      let r := s.regPut sp off (regWr (s.regWord sp off) (BitVec.ofNat 32 (blkNum b 8 4)) (BitVec.ofNat 32 (blkNum b 12 4)))
      ⟨r.2, leBytes 4 (r.1.regWord sp off), [], none, false, r.1⟩
    | code => s.no code)

def execRegWrite (src : Src) (s : State) : Result :=
  .next (s.command src 0x11 (.regWrite src) (fun s b => s.cmdRegWrite (srcPorch src) b))

/-- CTX_QUERY (Table 10.11). -/
def State.cmdCtxQuery (s : State) (porch : Bool) (b : BitVec 2048) : Reply :=
  let x := blkByte b 0
  s.checked porch b 1 true (x < 16) (fun s => s.okP (leBytes 8 (s.ctxStatus x)))

def execCtxQuery (src : Src) (s : State) : Result :=
  .next (s.command src 0x23 (.ctxQuery src) (fun s b => s.cmdCtxQuery (srcPorch src) b))

/-- TELEMETRY_SLIP (Table 10.11): the records, newest first. -/
def State.cmdTelemetrySlip (s : State) (porch dma : Bool) (b : BitVec 2048) : Reply :=
  let p := blkByte b 0
  let n := blkByte b 1
  s.checked porch b 16 (blkNum b 2 6 == 0) (p ≤ 5 && 1 ≤ n && n ≤ 16) (fun s =>
    let recs := (s.port p).maps.reverse.take n
    s.toHost porch dma (blkNum b 8 8) [BitVec.ofNat 8 recs.length] (recs.flatMap (fun r => leBytes 128 r.toNat)))

def execTelemetrySlip (src : Src) (dma : Bool) (s : State) : Result :=
  .next (s.command src 0x40 (.telemetrySlip src dma) (fun s b => s.cmdTelemetrySlip (srcPorch src) dma b))

/-- TELEMETRY_COUNTERS (Table 10.11): the bytes of a space from an offset. -/
def State.cmdTelemetryCounters (s : State) (porch dma : Bool) (b : BitVec 2048) : Reply :=
  let sp := blkByte b 0
  let off := blkNum b 4 4
  let n := blkNum b 8 4
  s.checked porch b 24 (blkNum b 1 3 == 0 && blkNum b 12 4 == 0) (spaceOk sp && n % 8 == 0 && n ≤ 65536) (fun s =>
    let bs := (List.range (n / 4 + 1)).flatMap (fun i => leBytes 4 (s.regWord sp (off / 4 * 4 + 4 * i)))
    s.toHost porch dma (blkNum b 16 8) (leBytes 4 n) ((bs.drop (off % 4)).take n))

def execTelemetryCounters (src : Src) (dma : Bool) (s : State) : Result :=
  .next (s.command src 0x41 (.telemetryCounters src dma) (fun s b => s.cmdTelemetryCounters (srcPorch src) dma b))

/-! Subscribers (R443) -/

def srcConn : Src → Nat
  | .porch _ => 0
  | .mgmt c _ => c.val

/-- EVENT_SUBSCRIBE (R443). -/
def State.cmdEventSubscribe (s : State) (src : Src) (b : BitVec 2048) : Reply :=
  let mask := blkNum b 4 4
  let conn := srcConn src
  s.checked (srcPorch src) b 8 (blkNum b 2 2 == 0 && mask % 2 == 0 && mask < 256) (blkByte b 0 ≤ 1 && blkByte b 1 ≤ 3) (fun s =>
    let others := s.hearth.subs.filter (fun u => u.conn != conn)
    if blkByte b 0 = 1 then (s.modHearth (fun h => { h with subs := others })).ok
    else if 4 ≤ others.length then s.no 0x0604
    else (s.modHearth (fun h => { h with
      subs := others ++ [⟨conn, blkByte b 1, BitVec.ofNat 32 mask, BitVec.ofNat 8 (blkTag b)⟩] })).ok)

def execEventSubscribe (src : Src) (s : State) : Result :=
  .next (s.command src 0x42 (.eventSubscribe src) (fun s b => s.cmdEventSubscribe src b))

/-- MGMT_CONNECTION_CLOSE (R443): the connection's subscription ends; its traffic keys are erased (R383). -/
def execMgmtConnectionClose (n : Fin 4) (s : State) : Result :=
  .next (if !s.hearth.conns.get false n.val then s
    else (s.modHearth (fun h => { h with
      conns := h.conns.set false n.val false, tls := h.tls.set TlsKeys.zero n.val TlsKeys.zero, subs := h.subs.filter (fun u => u.conn != n.val) })).emit (.mgmtClosed n.val))

/-- TELEMETRY_REPORT (R302): every 100 ms, power, temperature and port states to each subscriber. -/
def execTelemetryReport (s : State) : Result :=
  .next (if !s.serving || s.clk.wall < s.hearth.teleAt + quMs 100 then s
    else s.hearth.subs.foldl (fun (s : State) u =>
      s.emit (.telemetry u.conn s.hearth.inputW s.hearth.junction ((List.range 8).map (fun p => (s.port p).state))))
      (s.modHearth (fun h => { h with teleAt := s.clk.wall })))

/-! Tests (R296) -/

/-- Result of a test (Table 10.15). -/
def State.maintenance (s : State) (op set : Nat) (result : Byte) : State :=
  s.event 7 0 (Config.eventSeverity 7 0).toNat 0 (op * 2 ^ 48 + set * 2 ^ 40 + result.toNat * 2 ^ 32)

/-- The running context's job state. -/
def State.jobState (s : State) : Nat :=
  match s.hearth.running with
  | some x => (s.ctx x).job
  | none => 0

/-- SELF_TEST and CALIBRATE (R296); a test that runs at once reports its result as the deferred one does (log 13). -/
def State.cmdTest (s : State) (porch : Bool) (op : Nat) (result : Byte) (b : BitVec 2048) : Reply :=
  let f := blkByte b 0
  let set := blkByte b 1
  s.checked porch b 2 (f ≤ 1) (set ≤ 15) (fun s =>
    if f = 1 then
      ⟨0, [1#8], [], none, false, s.modHearth (fun h => { h with maint := h.maint ++ [(op, set)] })⟩
    else if s.jobState = 1 || s.jobState = 2 then s.no 0x0304
    else ⟨0, [0#8], [], none, false, s.maintenance op set result⟩)

def execSelfTest (src : Src) (result : Byte) (s : State) : Result :=
  .next (s.command src 0x60 (.selfTest src result) (fun s b => s.cmdTest (srcPorch src) 0x60 result b))

def execCalibrate (src : Src) (result : Byte) (s : State) : Result :=
  .next (s.command src 0x61 (.calibrate src result) (fun s b => s.cmdTest (srcPorch src) 0x61 result b))

/-- DEFERRED_MAINTENANCE_RUN (R296): the oldest queued command runs when no job is running. -/
def execDeferredMaintenanceRun (result : Byte) (s : State) : Result :=
  .next (match s.hearth.maint with
    | (op, set) :: rest =>
      if s.jobState = 1 then s else (s.modHearth (fun h => { h with maint := rest })).maintenance op set result
    | [] => s)

/-! Fencing and full reset -/

/-- FENCE (R233). -/
def State.cmdFence (s : State) (porch : Bool) (b : BitVec 2048) : Reply := s.checked porch b 0 true true (fun s => s.fence.ok)

def execFence (src : Src) (s : State) : Result :=
  .next (s.command src 0x80 (.fence src) (fun s b => s.cmdFence (srcPorch src) b))

/-- FULL_RESET by firmware (R284, R413): over the management channel the module resets and gives no response. -/
def State.cmdFullReset (s : State) (porch : Bool) (b : BitVec 2048) : Reply :=
  s.checked porch b 4 true (!porch && blkNum b 0 4 == 0xA5A55A5A) (fun s => ⟨0, [], [], none, true, s.moduleReset 4⟩)

def execFullReset (src : Src) (s : State) : Result :=
  .next (s.command src 0x81 (.fullReset src) (fun s b => s.cmdFullReset (srcPorch src) b))

/-! The board lead (R301) -/

/-- One module's collection: it answers its power, or the third miss in a row is reported. -/
def State.collect (s : State) (m : Nat) (r : Option (Nat × Bool)) : State :=
  match r with
  | some (w, _) => s.modHearth (fun h => { h with missed := h.missed.set 0 m 0, powers := h.powers.set 0 m w })
  | none =>
    let n := s.hearth.missed.get 0 m + 1
    let s := s.modHearth (fun h => { h with missed := h.missed.set 0 m n })
    if n = 3 then s.raise 0x0310 0 m 0 else s

/-- Set the caps of modules `m` on, of which `left` watts of the board's cap remain; the manual gives no rule for the shares (log 14). -/
def State.shareCaps (s : State) : Nat → Nat → Nat → State
  | 0, _, _ => s
  | n + 1, m, left =>
    let v := s.freeVal
    let w := v.1.toNat % (left + 1)
    (v.2.emit (.setCap m w)).shareCaps n (m + 1) (left - w)

/-- The grant of HBM initialisation or fast-clock start: one module at a time holds it, until it asks no more (log 13). -/
def State.giveGrant (s : State) (asks : List Nat) : State :=
  if s.hearth.grant.any asks.contains then s
  else match asks with
    | m :: _ => (s.modHearth (fun h => { h with grant := some m })).emit (.grant m)
    | [] => s.modHearth (fun h => { h with grant := none })

/-- POWER_COLLECTION (R301): every 10 ms, each module of the board answers its input power and whether it asks for the grant; none where it
misses the collection. -/
def execPowerCollection (readings : List (Option (Nat × Bool))) (s : State) : Result :=
  .next (if !(bitOf s.sloe.panPos 28 && s.serving) || s.clk.wall < s.hearth.collectAt + quMs 10 then s
    else
      let rs := readings.take 8
      let s := (withIx rs).foldl (fun (s : State) x => s.collect x.1 x.2) (s.modHearth (fun h => { h with collectAt := s.clk.wall }))
      let asks := ((withIx rs).filter (fun x => match x.2 with
        | some (_, a) => a
        | none => s.hearth.grant == some x.1)).map (·.1)
      (s.giveGrant asks).shareCaps rs.length 0 Config.boardCap)

end Sys2Proof.Machine
end

