-- ==== Sys2Proof/Machine/Contexts.lean ====
section
/-! DEFINITION. Contexts and jobs: create, destroy, switch, start, stop (R287, R292 to R299, R442, Table 10.22). -/

namespace Sys2Proof.Machine

/-- A CONTEXT event (Table 10.15); its severity is a free value (log 11). -/
def State.ctxEvent (s : State) (x reason state : Nat) : State :=
  s.event 4 reason (Config.eventSeverity 4 reason).toNat x (state * 2 ^ 56)

def unit2M : Nat := 0x200000
/-- Units of a save area (R294). -/
def saveUnits : Nat := 736
/-- Units of usable HBM. -/
def hbmUnits : Nat := 285696

/-! CTX_CREATE (R294) -/

/-- Key regions not in use, the lowest first. -/
def State.freeRegions (s : State) : List Nat := (List.range 32).filter (fun w => !bitOf (s.cel.regions.get 0#128 w) 127)

/-- A CLR_REGION entry without ENABLE (Table 9.12). -/
def regionWord (x base count : Nat) : BitVec 128 :=
  BitVec.ofNat 128 (x * 2 ^ 123 + (base + count) * unit2M % 2 ^ 40 * 2 ^ 64 - 2 ^ 64 + base * unit2M % 2 ^ 40)

/-- Write one key region for a range and enable it. -/
def State.takeRegion (s : State) (x w : Nat) (r : Nat × Nat) : State × Nat :=
  if hbmUnits < r.1 + r.2 then (s.cellarCode 0x040C, 0x040C)
  else (s.modCel (fun c => { c with regions := c.regions.set 0#128 w (regionWord x r.1 r.2) })).enableRegion w

/-- Disable key regions; their other fields keep their values (R274). -/
def State.dropRegions (s : State) (ws : List Nat) : State :=
  s.modCel (fun c => { c with regions := ws.foldl (fun m w => m.upd 0#128 w (fun v => putFld v 127 127 0)) c.regions })

/-- Write key regions for ranges; the first refusal disables those written. -/
def State.takeRegions (s : State) (x : Nat) : List (Nat × (Nat × Nat)) → List Nat → State × Nat
  | [], _ => (s, 0)
  | (w, r) :: rest, done =>
    match s.takeRegion x w r with
    | (s, 0) => s.takeRegions x rest (w :: done)
    | (s, code) => (s.dropRegions (w :: done), code)

/-- Fill ranges under the key set of a context. -/
def State.fillRanges (s : State) (x : Nat) (rs : List (Nat × Nat)) : State :=
  rs.foldl (fun (s : State) r => s.hbmFill x (r.1 * 8192) ((r.1 + r.2) * 8192) (s.cel.keys.get KeySet.zero x) none) s

/-- Ranges of a CTX_CREATE payload. -/
def ctxRanges (b : BitVec 2048) : List (Nat × Nat) :=
  (List.range (blkByte b 1)).map (fun i => (blkNum b (8 + 8 * i) 4, blkNum b (12 + 8 * i) 4))

def State.createCtx (s : State) (x save : Nat) (rs : List (Nat × Nat)) : Reply :=
  let free := s.freeRegions
  if s.hearth.noAdmit ≠ 0 then s.no s.hearth.noAdmit
  else if (s.ctx x).state ≠ 0 then s.no 0x0601
  else if free.length < rs.length + 1 then s.no 0x0602
  else if rs.any (fun r => r.2 == 0 || hbmUnits < r.1 + r.2) then s.no 0x040E
  else
    let all := rs ++ [(save, saveUnits)]
    let ws := free.take all.length
    match s.takeRegions x (ws.zip all) [] with
    | (s, 0) =>
      match s.keyGenerate x with
      | (s, 0) =>
        let s := (s.ctxEvent x 0 1).fillRanges x all
        let s := s.modCtx x (fun _ => { Ctx.zero with state := 2, saveBase := save, regions := ws })
        (s.ctxEvent x 0 2).ok
      | (s, code) => (s.dropRegions ws).no code
    | (s, code) => s.no code

/-- CTX_CREATE (R294). -/
def State.cmdCtxCreate (s : State) (porch : Bool) (b : BitVec 2048) : Reply :=
  let n := blkByte b 1
  s.checked porch b (8 + 8 * n) (blkNum b 2 2 == 0) (blkByte b 0 < 16 && 1 ≤ n && n ≤ 8)
    (fun s => s.createCtx (blkByte b 0) (blkNum b 4 4) (ctxRanges b))

def execCtxCreate (src : Src) (s : State) : Result :=
  .next (s.command src 0x20 (.ctxCreate src) (fun s b => s.cmdCtxCreate (srcPorch src) b))

/-! CTX_DESTROY (R297, R298) -/

/-- Base and count in 2 MiB units of an enabled key region. -/
def regionRange (v : BitVec 128) : Nat × Nat := (fld v 39 0 / unit2M, (fld v 103 64 + 1 - fld v 39 0) / unit2M)

/-- Steps 5 and 6 of R297 for ranges: fill under a throwaway key set, erase it. -/
def State.scrubFill (s : State) (x : Nat) (rs : List (Nat × Nat)) : State := (((s.keyGenerate x).1).fillRanges x rs).keyErase x

/-- The steps of R297. -/
def State.destroyCtx (s : State) (x : Nat) : State :=
  let ws := (s.ctx x).regions
  let rs := ws.map (fun w => regionRange (s.cel.regions.get 0#128 w))
  let s := ((s.ctxEvent x 0 5).keyErase x).modFlash (fun f => { f with scrub := f.scrub ++ [(x, rs)] })
  let s := if s.hearth.running = none then s.clearResident else s
  let s := s.modPan (fun p => { p with
    win := mapOver 0#128 p.win (fun v => if bitOf v 127 && fld v 126 123 == x then putFld v 127 127 0 else v)
    jobBlock := p.jobBlock.upd 0#32 x (fun v => putFld v 31 31 0) })
  let s := (s.scrubFill x rs).dropRegions ws
  let s := s.modFlash (fun f => { f with scrub := f.scrub.filter (fun e => e.1 != x) })
  (s.modCtx x (fun _ => Ctx.zero)).ctxEvent x 0 0

/-- CTX_DESTROY (R297); without the random generator it is refused before its first step (R384, log 13). -/
def State.cmdCtxDestroy (s : State) (porch : Bool) (b : BitVec 2048) : Reply :=
  let x := blkByte b 0
  s.checked porch b 1 true (x < 16) (fun s =>
    let st := (s.ctx x).state
    if s.hearth.running = some x then s.no 0x0304
    else if !(st = 2 || st = 4 || st = 6) then s.no 0x0302
    else if !s.hearth.entropyOk then s.no 0x050D
    else (s.destroyCtx x).ok)

def execCtxDestroy (src : Src) (s : State) : Result :=
  .next (s.command src 0x21 (.ctxDestroy src) (fun s b => s.cmdCtxDestroy (srcPorch src) b))

/-! CTX_SWITCH (R295) -/

/-- Step 1 has nothing left to wait for. -/
def State.quiesced (s : State) : Bool :=
  s.pan.ops.isEmpty && s.cel.movers.all (fun x => x.2 == none) &&
    s.clusters.all (fun x => x.2.panQ.isEmpty && x.2.movQ.isEmpty && x.2.deps.isEmpty && x.2.landQ.isEmpty && x.2.sampQ.isEmpty &&
      x.2.samp == none)

/-- Read every SRAM word in error: corrected words are put right; the answer says whether one is uncorrectable. -/
def State.readErrWords (s : State) : State × Bool :=
  (s.cores.flatMap (fun p => ((p.2.sramErr.map (fun e => e.1 / 35)).eraseDups).map (fun w => (p.1, w)))).foldl
    (fun (acc : State × Bool) x =>
      match acc.1.sramWord x.1 x.2 with
      | (s, some bs) =>
        (s.modCoreN x.1 (fun k => { k with sram := k.sram.write (32 * x.2) bs, sramErr := clearWord k.sramErr x.2 }), acc.2)
      | (s, none) => (s, true)) (s, false)

/-- Everything of step 2. -/
def State.resident (s : State) : Saved := ⟨s.cores, s.clusters, s.pan.ranks, s.streams, s.tt, s.clk.beat⟩

/-- First and last block of a save area. -/
def saveBlocks (base : Nat) : Nat × Nat := (base * 8192, (base + saveUnits) * 8192)

/-- Step 2 for the running context `x`: it becomes SAVED, or FAULTED where the save fails. -/
def State.saveCtx (s : State) (x : Nat) : State :=
  let base := (s.ctx x).saveBase
  let r := s.readErrWords
  let s := r.1
  let code := if r.2 then 0x0611 else if s.hbmAllowed x (base * unit2M) (saveUnits * unit2M) then 0 else 0x0505
  let s := if code = 0x0505 then s.hbmRefuse (base * unit2M) else s
  if code ≠ 0 then (s.modCtx x (fun c => { c with state := 6, reason := code, saved := none })).ctxEvent x code 6
  else
    let keep := s.resident
    let bl := saveBlocks base
    let s := (s.hbmFill x bl.1 bl.2 (s.cel.keys.get KeySet.zero x) (some s.draws))
    ({ s with draws := s.draws + 1 }.modCtx x (fun c => { c with state := 4, saved := some keep })).ctxEvent x 0 4

/-- An error-table word lies in blocks `lo` to `hi - 1`, or holds a tag of one of them. -/
def wordIn (lo hi w : Nat) : Bool :=
  if w < 2 ^ 40 then 8 * lo ≤ w && w < 8 * hi
  else (List.range 32).any (fun i =>
    let bb := 32 * (w % 2 ^ 30) + i
    lo ≤ bb && bb < hi && blockStack bb == (w - 2 ^ 40) / 2 ^ 30)

/-- The block from `lo` to `hi - 1` that an error-table word belongs to. -/
def wordBlock (lo hi w : Nat) : Nat :=
  if w < 2 ^ 40 then w / 8
  else (((List.range 32).map (fun i => 32 * (w % 2 ^ 30) + i)).find? (fun bb =>
    lo ≤ bb && bb < hi && blockStack bb == (w - 2 ^ 40) / 2 ^ 30)).getD 0

/-- Reading the save area of `y` back: 0, or the code with which its words or blocks fail; a corrected word is counted (R258). -/
def State.readSave (s : State) (y : Nat) : State × Nat :=
  let base := (s.ctx y).saveBase
  let bl := saveBlocks base
  let bad := (s.cel.symErr.map (fun e => e.1 / 35)).find? (fun w => wordIn bl.1 bl.2 w && rsFind (wordErrs s.cel.symErr w) == .bad)
  match bad with
  | some w =>
    let (st, addr) := wordPlace w
    ((s.logUe st addr).raise 0x0610 3 st addr, 0x0610)
  | none =>
    let touched := ((s.cel.symErr.map (fun e => e.1 / 35)).filter (fun w => wordIn bl.1 bl.2 w)).map (wordBlock bl.1 bl.2)
    let s := (touched.eraseDups.filter (· != bl.1)).foldl (fun (s : State) bb => (s.hbmRaw bb).1) s
    let r := s.hbmRead y (base * unit2M) 256
    (r.1, r.2.2)

/-- Step 4 for a SAVED target: times keep their distance to the present. -/
def State.restoreCtx (s : State) (v : Saved) : State :=
  let d := s.clk.beat - v.beat
  { s with
    cores := mapOver Core.zero v.cores (fun k => k.putOff d)
    clusters := mapOver Cluster.zero v.clusters (fun x => x.putOff d)
    streams := v.streams
    hall := []
    tt := { v.tt with ctl := s.tt.ctl, beat0 := v.tt.beat0 + d }
    pan := { s.pan with ranks := v.ranks } }

/-- Steps 3 and 4 towards `target`; `code` is the failure of a restore. -/
def State.enterCtx (s : State) (target : Option Nat) (code : Nat) : State :=
  let s := s.clearResident
  match target with
  | none => (s.modHearth (fun h => { h with running := none })).runRegions
  | some y =>
    if code ≠ 0 then
      (((s.modHearth (fun h => { h with running := none })).modCtx y (fun c => { c with state := 6, reason := code, saved := none })).ctxEvent
        y code 6).runRegions
    else
      let s := match (s.ctx y).saved with
        | some v => s.restoreCtx v
        | none => s
      let s := s.modHearth (fun h => { h with running := some y, idleFrom := s.clk.wall })
      let s := s.modCtx y (fun c => { c with state := 3, saved := none, debugSeen := c.debugSeen ||| s.dbg.posture })
      ((s.modDbg (fun d => { d with postRestore := d.posture })).ctxEvent y 0 3).runRegions

/-- The response of a switch (R366, R370). -/
def State.endSwitch (s : State) (src : Src) (code : Nat) : State :=
  (s.modHearth (fun h => { h with switchSrc := none, switchTo := none })).laterDone src code []

/-- The outcome of reading a target's save area back, where it has one. -/
def State.readTarget (s : State) (target : Option Nat) : State × Nat :=
  match target with
  | some y => if (s.ctx y).state = 4 then s.readSave y else (s, 0)
  | none => (s, 0)

/-- Steps 2 to 4: save the outgoing context, change to `target`, restore it; the answer is the code of a failed restore. -/
def State.moveCtx (s : State) (target : Option Nat) : State × Nat :=
  let s := match s.hearth.running with
    | some x => s.saveCtx x
    | none => s
  let r := (s.modHearth (fun h => { h with running := target })).readTarget target
  (r.1.enterCtx target r.2, r.2)

/-- A switch that has quiesced; as the log's last entry it ends recording or replay in the outgoing context (R366). -/
def State.finishSwitch (s : State) (src : Src) : State :=
  let away := s.hearth.running.isSome
  let r := s.moveCtx s.hearth.switchTo
  let s := r.1.endSwitch src r.2
  if away && recEnable s.hearth.rec_.ctl then s.endRecord else s

/-- A switch in progress goes on once step 1 has ended. -/
def State.switchPoll (s : State) : State :=
  match s.hearth.switchSrc with
  | some src => if s.quiesced then s.finishSwitch src else s
  | none => s

/-- Accept a CTX_SWITCH. -/
def State.cmdCtxSwitch (s : State) (src : Src) (b : BitVec 2048) : Reply :=
  let t := blkByte b 0
  s.checked (srcPorch src) b 1 true (t < 16 || t == 0xFF) (fun s =>
    if s.pan.fenced then s.no 0x0308
    else if t < 16 && !((s.ctx t).state = 2 || (s.ctx t).state = 4) then s.no 0x0302
    else if s.jobState = 1 then s.no 0x0304
    else if t < 16 && s.hearth.noAdmit ≠ 0 then s.no s.hearth.noAdmit
    else ⟨0, [], [], none, true, s.modHearth (fun h => { h with
      switchSrc := some src, switchTo := if t < 16 then some t else none, switchAt := s.clk.wall })⟩)

/-- CTX_SWITCH (R295): accepted, or, where it already quiesces, gone on with. -/
def execCtxSwitch (src : Src) (s : State) : Result :=
  .next (if s.hearth.switchSrc = some src then s.switchPoll
    else (s.command src 0x22 (.ctxSwitch src) (fun s b => s.cmdCtxSwitch src b)).switchPoll)

/-- DRAIN_TIMEOUT (R295): step 1 has taken 10 ms. -/
def execDrainTimeout (s : State) : Result :=
  .next (match s.hearth.switchSrc with
    | some src =>
      if s.quiesced || s.clk.wall < s.hearth.switchAt + quMs 10 then s
      else s.endSwitch src 0x0306
    | none => s)

/-! JOB_START and JOB_STOP (R287, R442) -/

/-- Beats of the 10 µs lead at the base point. -/
def State.startLead (s : State) : Nat := 10 * opMhz s.clk.baseOp

/-- JOB_START. -/
def State.cmdJobStart (s : State) (porch : Bool) (b : BitVec 2048) : Reply :=
  let x := blkByte b 0
  let resume := blkByte b 1 % 2 = 1
  let start := blkNum b 8 8
  s.checked porch b 16 (blkByte b 1 < 2 && blkNum b 2 6 == 0) (x < 16) (fun s =>
    let c := s.ctx x
    if s.pan.fenced then s.no 0x0308
    else if s.hearth.thermal then s.no 0x0626
    else if s.hearth.running ≠ some x then s.no 0x0302
    else if (if resume then c.job ≠ 2 else c.job ≠ 0 || !c.jobLoaded) then s.no 0x0303
    else if !s.clk.valid then s.timNo 0x0730
    else if start < s.clk.fbc.toNat + s.startLead then s.no 0x0307
    else
      let s := if s.hearth.pState = 0 then s else s.unpark 0
      let s := (s.modCtx x (fun c => { c with job := 1 })).modTt (fun t => { t with
        state := 1, start := BitVec.ofNat 64 start, desc := if resume then t.desc else 0, pauseNext := false, stopNext := false })
      (s.jobEvent 0 1).ok)

def execJobStart (src : Src) (s : State) : Result :=
  .next (s.command src 0x31 (.jobStart src) (fun s b => s.cmdJobStart (srcPorch src) b))

/-- The effects of Table 10.22 on context `x`. -/
def State.stopJob (s : State) (x mode : Nat) : Reply :=
  let j := (s.ctx x).job
  if s.hearth.running = some x then
    match mode with
    | 0 =>
      if j = 1 then (s.modTt (fun t => { t with stopNext := true })).ok
      else if j = 2 then (((s.modCtx x (fun c => { c with job := 3 })).modTt (fun t => { t with state := 5 })).jobEvent 0 5).ok
      else s.no 0x0303
    | 1 => if j = 1 then (s.modTt (fun t => { t with pauseNext := true })).ok else s.no 0x0303
    | _ => if j = 1 || j = 2 then (s.endJob 0x0309).ok else s.no 0x0303
  else if mode ≠ 2 || (s.ctx x).state = 0 then s.no 0x0302
  else if j = 2 then
    ((s.modCtx x (fun c => { c with job := 3, reason := 0x0309 })).event 3 0x0309 (Config.eventSeverity 3 0x0309).toNat x (5 * 2 ^ 56)).ok
  else s.no 0x0303

/-- JOB_STOP. -/
def State.cmdJobStop (s : State) (porch : Bool) (b : BitVec 2048) : Reply :=
  let x := blkByte b 0
  s.checked porch b 2 true (x < 16 && blkByte b 1 ≤ 2) (fun s => if s.pan.fenced then s.no 0x0308 else s.stopJob x (blkByte b 1))

def execJobStop (src : Src) (s : State) : Result :=
  .next (s.command src 0x32 (.jobStop src) (fun s b => s.cmdJobStop (srcPorch src) b))

end Sys2Proof.Machine
end

