-- ==== Sys2Proof/Machine/Loading.lean ====
section
/-! DEFINITION. Loading a Zulyn timetable image (R304 to R322, R446). -/

namespace Sys2Proof.Machine

/-! The header (R304, Table 11.1) -/

def ztiFixed (h : BitVec 1024) : Bool := bitOf h 517
def ztiFold (h : BitVec 1024) : Nat := fld h 499 496 + 1
def ztiExt (h : BitVec 1024) (a : Nat) : Nat := fld h (484 + 4 * a + 3) (484 + 4 * a) + 1
def ztiRanks (h : BitVec 1024) : Nat := fld h 551 536 + 1
def ztiPart (h : BitVec 1024) : Nat := fld h 567 552
def ztiProgBase (h : BitVec 1024) : Nat := fld h 607 568
def ztiVrows (h : BitVec 1024) : Nat := fld h 535 528
def ztiProfile (h : BitVec 1024) : Nat := fld h 527 524
def ztiDir (h : BitVec 1024) : Nat := fld h 471 448

/-- The conditions of R304 for an image of `len` bytes. -/
def ztiHeadOk (h : BitVec 1024) (len : Nat) : Bool :=
  fld h 31 0 == 0x5A544931 && (fld h 507 500 == if ztiFixed h then 0 else 1) && (ztiProfile h == 1 || ztiProfile h == 2)
    && fld h 71 32 == len && ztiVrows h % 4 == 0 && 4 ≤ ztiVrows h && ztiVrows h ≤ 40
    && ztiRanks h == ztiFold h * ztiExt h 0 * ztiExt h 1 * ztiExt h 2
    && ztiProgBase h % 256 == 0 && decide (ztiProgBase h < ztiPart h * 2 ^ 24)
    && fld h 447 72 == 0 && fld h 523 518 == 0

/-! The directory (R305, Tables 11.2, 11.3) -/

/-- A directory entry. -/
structure Sect where
  typ   : Nat
  opt   : Bool
  rsv   : Bool
  j     : Nat
  unit  : Nat
  index : Nat
  off   : Nat
  len   : Nat
  deriving DecidableEq, Repr

/-- Read an entry of 24 bytes. -/
def sectOf (d : Nat) : Sect :=
  ⟨nfld d 191 176, nfld d 175 175 == 1, nfld d 174 170 == 0 && nfld d 147 128 == 0, nfld d 169 166, nfld d 165 156, nfld d 155 148,
    nfld d 127 64, nfld d 63 0⟩

def Sect.known (e : Sect) : Bool := 1 ≤ e.typ && e.typ ≤ 0xB
/-- A section tied to a rank. -/
def Sect.tied (e : Sect) : Bool := [2, 3, 5, 7, 8, 9, 10].contains e.typ
def Sect.bytes (e : Sect) (img : List Byte) : List Byte := (img.drop e.off).take e.len

/-- Every byte of the section has arrived from the host. -/
def Sect.arrived (e : Sect) (img : List Byte) : Bool := decide (e.off + e.len ≤ img.length)

/-- The sections lie after byte `at_`, in ascending order, without overlap, within `len`. -/
def sectsOrdered (len : Nat) : Nat → List Sect → Bool
  | _, [] => true
  | at_, e :: rest => decide (at_ ≤ e.off && e.off + e.len ≤ len) && sectsOrdered len (e.off + e.len) rest

def countType (l : List Sect) (t : Nat) : Nat := (l.filter (fun e => e.typ == t)).length

/-- The directory of an image. -/
def ztiSects (h : BitVec 1024) (img : List Byte) : List Sect :=
  (List.range (ztiDir h)).map (fun i => sectOf (leNat ((img.drop (128 + 24 * i)).take 24)))

/-- The conditions of R305 and of R318 on the sections present. -/
def dirOk (h : BitVec 1024) (len : Nat) (l : List Sect) : Bool :=
  let k := l.filter Sect.known
  let fixed := ztiFixed h
  sectsOrdered len (128 + 24 * ztiDir h) l && l.all (fun e => e.rsv && (e.known || e.opt) && decide (e.j < ztiFold h))
    && k.all (fun e => e.typ == 2 || e.index == 0)
    && countType l 1 == 1 && countType l 4 == 1 && countType l 6 == 1 && (countType l 11 == if fixed then 1 else 0)
    && (!fixed || (countType l 9 == 0 && ztiFold h == 1))
    && decide ((k.map (fun e => (e.typ, e.j, e.unit, e.index))).Nodup)

/-- The first section of a type. -/
def sectBytes (img : List Byte) (l : List Sect) (t : Nat) : List Byte :=
  match l.find? (fun e => e.typ == t) with
  | some e => e.bytes img
  | none => []

/-- Records of `n` bytes as numbers. -/
def records (n : Nat) (bs : List Byte) : List Nat := (List.range (bs.length / n)).map (fun i => leNat ((bs.drop (n * i)).take n))

/-! Placement (R306 to R308) -/

/-- Rank-virtual core index of core `i` of cluster `k` (R308). -/
def coreIndex (k i : Nat) : Nat :=
  let q := k / 25
  let kk := k % 25
  10 * (q % 2) + 2 * (kk % 5) + i % 2 + 20 * (20 * (q / 2) + 4 * (kk / 5) + i / 2)

/-- Cluster and cluster-local index of a rank-virtual core index. -/
def coreSplit (n : Nat) : Nat × Nat :=
  let c := n % 20
  let r := n / 20
  (25 * (2 * (r / 20) + c / 10) + 5 * (r % 20 / 4) + c % 10 / 2, 2 * (r % 4) + c % 2)

def planUse (e : W16) : Nat := fld e 15 14
def planJ (e : W16) : Nat := fld e 13 10
def planCluster (e : W16) : Nat := fld e 6 0

/-- Used positions with their entries. -/
def planUsed (plan : List W16) : List (Nat × W16) := (withIx plan).filter (fun x => planUse x.2 != 0)

/-- The plan position of a rank-virtual cluster of co-resident index `j`. -/
def planPos (plan : List W16) (j k : Nat) : Option Nat :=
  ((planUsed plan).find? (fun x => planJ x.2 == j && planCluster x.2 == k)).map (·.1)

/-- The plan breaks none of the rules of R307 and Table 11.4. -/
def planOk (plan : List W16) (f vrows : Nat) : Bool :=
  let u := planUsed plan
  plan.length == 100 && plan.all (fun e => fld e 9 7 == 0)
    && u.all (fun x => planUse x.2 != 3 && decide (planJ x.2 < f) && decide (planCluster x.2 < 100)
        && (List.range 8).all (fun i => decide (coreIndex (planCluster x.2) i < 20 * vrows)))
    && decide ((u.map (fun x => (planJ x.2, planCluster x.2))).Nodup)

/-- Every PROGRAM, SRAM_INIT and COMMANDS section names a cluster of its rank's plan (R307). -/
def sectsPlanned (plan : List W16) (l : List Sect) : Bool :=
  l.all (fun e =>
    if e.typ = 2 || e.typ = 7 then (planPos plan e.j (coreSplit e.unit).1).isSome
    else if e.typ = 3 then (planPos plan e.j e.unit).isSome
    else true)

/-- Free positions take their own cluster, else the first spare one. -/
def mapFree (on : Nat → Bool) : List Nat → List Nat → Option (List (Nat × Nat))
  | [], _ => some []
  | p :: rest, spare =>
    if on p then (mapFree on rest spare).map ((p, p) :: ·)
    else match spare with
      | [] => none
      | q :: more => (mapFree on rest more).map ((p, q) :: ·)

/-- The cluster map of R307; none where the grid is too large. -/
def State.mapClusters (s : State) (plan : List W16) : Option (List (Nat × Nat)) :=
  let at_ (n : Nat) := ((withIx plan).filter (fun x => planUse x.2 == n)).map (·.1)
  if !(at_ 1).all s.cluEnabled then none
  else (mapFree s.cluEnabled (at_ 2) ((at_ 0).filter s.cluEnabled)).map ((at_ 1).map (fun p => (p, p)) ++ ·)

/-- The module's enabled clusters and fused-off rows as FIXED_GRID lays them out (R318). -/
def State.gridBytes (s : State) : List Byte :=
  leBytes 13 (((List.range 100).filter s.cluEnabled).map (2 ^ ·)).sum
    ++ leBytes 3 ((withIx s.fuses.fusedRow).map (fun x => x.2 * 2 ^ (5 * x.1))).sum

/-- Block coordinates on an axis, from CTX_JOB_BLOCK (R306). -/
def State.blockAxis (s : State) (blk : W32) (a : Nat) : Nat :=
  (s.ownAxis a + s.ring a - fld blk (4 * a + 3) (4 * a) % s.ring a) % s.ring a

/-- The image's extents and module index are the block's (R306). -/
def State.placedHere (s : State) (x : Nat) (h : BitVec 1024) : Bool :=
  let blk := s.pan.jobBlock.get 0#32 x
  (List.range 3).all (fun a => fld blk (16 + 4 * a + 3) (16 + 4 * a) + 1 == ztiExt h a)
    && fld h 483 472 == s.blockAxis blk 0 + ztiExt h 0 * (s.blockAxis blk 1 + ztiExt h 1 * s.blockAxis blk 2)

/-- The node that holds module index `m` of the block (R313). -/
def State.moduleNode (s : State) (blk : W32) (h : BitVec 1024) (m : Nat) : Option Nat :=
  let c (a b : Nat) := (fld blk (4 * a + 3) (4 * a) + b) % s.ring a
  let xyz := c 0 (m % ztiExt h 0) + 16 * c 1 (m / ztiExt h 0 % ztiExt h 1) + 256 * c 2 (m / (ztiExt h 0 * ztiExt h 1))
  (List.range 4096).find? (fun n => bitOf (s.nodeEntry n) 15 && fld (s.nodeEntry n) 11 0 == xyz)

/-! What a load carries -/

/-- An image being loaded: header, directory, its bytes, the job that it makes, module nodes by index. -/
structure Load where
  head  : BitVec 1024
  sects : List Sect
  img   : List Byte
  job   : Job
  nodes : List (Option Nat)
  deriving DecidableEq, Repr

/-- Progress of step 5: the state, the code of the first failure, programs and next free program byte of each rank, windows and SRAM
ranges written. -/
structure Loading where
  st    : State
  code  : Nat
  progs : List Prog
  next  : SMap Nat
  wins  : List Nat
  srams : List (Nat × Nat × Nat)

def Loading.fail (a : Loading) (code : Nat) : Loading := { a with code := code }

/-- Physical cluster behind a plan position of the job. -/
def Job.clusterAt (j : Job) (p : Nat) : Option Nat := (j.phys.find? (fun x => x.1 == p)).map (·.2)

/-- Place of rank-virtual core `n` of co-resident index `k`. -/
def Job.corePlace (j : Job) (k n : Nat) : Option Nat :=
  match planPos j.plan k (coreSplit n).1 with
  | some p => (j.clusterAt p).map (fun c => 8 * c + (coreSplit n).2)
  | none => none

/-- First byte of rank `k`'s partition, and its length. -/
def Job.partBase (j : Job) (k : Nat) : Nat := (j.base + k * j.part) * 2 ^ 24
def Job.partLen (j : Job) : Nat := j.part * 2 ^ 24

/-- The rank table entry of rank `r` (R313); none where its module has no valid node-map entry. -/
def Load.rankEntry (l : Load) (r : Nat) : Option W32 :=
  match l.nodes.getD (r / l.job.fold) none with
  | some n => some (BitVec.ofNat 32 (2 ^ 31 + n * 2 ^ 16 + (l.job.base + r % l.job.fold * l.job.part)))
  | none => none

/-! Patches (R314, Table 11.5) -/

/-- The value that a record writes; none where it breaks R314. A RANK_SRAM record of a rank without a node passes: step 6 refuses the
image (R320). -/
def Load.patchValue (l : Load) (s : State) (w : Nat) : Option Nat :=
  let r := nfld w 119 104
  let vc := nfld w 103 94
  let addr := nfld w 39 0
  let to_ (e : W32) (o : Nat) := s.hallId % 16 * 2 ^ 52 + fld e 27 16 * 2 ^ 40 + o
  if ztiRanks l.head ≤ r || nfld w 93 88 ≠ 0 then none
  else match nfld w 127 124, l.rankEntry r with
    | 0, some e =>
      let o := fld e 15 0 * 2 ^ 24 + addr
      if vc ≠ 0 || 2 ^ 40 ≤ o then none else some (to_ e o)
    | 1, e =>
      match planPos l.job.plan (r % l.job.fold) (coreSplit vc).1 with
      | some p =>
        if 0x180000 ≤ addr then none
        else some (to_ (e.getD 0#32) (0xF000000000 + 0x200000 * (8 * p + (coreSplit vc).2) + addr))
      | none => none
    | _, _ => none

/-- The S slots of four bundles hold LIMM with q = 0 to 3 and one register. -/
def limm4At (bs : List Byte) : Bool :=
  let slot (i : Nat) := leNat ((bs.drop (16 * i + 12)).take 4)
  (List.range 4).all (fun i => nfld (slot i) 31 26 == 0x20 && nfld (slot i) 17 16 == 0 && nfld (slot i) 19 18 == i
    && nfld (slot i) 25 20 == nfld (slot 0) 25 20)

/-- The bytes that a record of rank `j` changes in the image; none where it breaks R314. -/
def Load.patch (l : Load) (s : State) (j w : Nat) : Option (List (Nat × List Byte)) :=
  let loc := nfld w 71 40
  match l.patchValue s w, l.sects[nfld w 87 72]? with
  | some v, some e =>
    if !(e.tied && e.j == j) then none
    else match nfld w 123 120 with
      | 0 => if e.len < loc + 8 then none else some [(e.off + loc, leBytes 8 v)]
      | 1 =>
        let at_ := 32 + 16 * loc
        if e.typ ≠ 2 || e.len < at_ + 64 || !limm4At ((e.bytes l.img).drop at_) then none
        else some ((List.range 4).map (fun q => (e.off + at_ + 16 * q + 12, leBytes 2 (v / 2 ^ (16 * q)))))
      | _ => none
  | _, _ => none

/-- Put bytes into an image. -/
def putBytes (img : List Byte) (x : Nat × List Byte) : List Byte := img.take x.1 ++ x.2 ++ img.drop (x.1 + x.2.length)

/-- The image with every sound patch of its PATCHES sections. -/
def Load.patched (l : Load) (s : State) : List Byte :=
  (l.sects.filter (fun e => e.typ == 9)).foldl (fun img e =>
    (records 16 (e.bytes l.img)).foldl (fun img w => ((l.patch s e.j w).getD []).foldl putBytes img) img) l.img

/-! Sections (R311 to R316, R446) -/

/-- A strand-group table breaks no rule of R61. -/
def strandsOk (bs : List Byte) : Bool :=
  let on := ((records 2 (bs.take 32)).filter (fun e => nfld e 15 15 == 1)).map (fun e => (nfld e 5 0, nfld e 12 6))
  on.all (fun x => 1 ≤ x.2 && x.1 + x.2 ≤ 64) && (withIx on).all (fun x => (withIx on).all (fun y =>
    x.1 == y.1 || decide (x.2.1 + x.2.2 ≤ y.2.1) || decide (y.2.1 + y.2.2 ≤ x.2.1)))

/-- PROGRAM (R311): stored in the rank's partition, aligned to 256 bytes. -/
def Load.program (l : Load) (a : Loading) (e : Sect) (bs : List Byte) : Loading :=
  let at_ := (a.next.get 0 e.j + 255) / 256 * 256
  if bs.length < 32 || (bs.length - 32) % 16 ≠ 0 then a.fail 0x0801
  else if 8192 < (bs.length - 32) / 16 then a.fail 0x080A
  else if !strandsOk bs then a.fail 0x080B
  else if l.job.partLen < ztiProgBase l.head + at_ + bs.length then a.fail 0x0801
  else
    let off := l.job.partBase e.j + ztiProgBase l.head + at_
    match l.job.corePlace e.j e.unit, a.st.hbmWrite l.job.ctx off bs with
    | some n, (s, 0) =>
      { a with st := s, progs := a.progs ++ [⟨n, e.index, off, bs.length⟩], next := a.next.set 0 e.j (at_ + bs.length) }
    | _, (s, code) => { a with st := s, code := if code = 0 then 0x0801 else code }

/-- A steward command of rank `j`'s cluster `k` breaks no rule of R311 and R446. -/
def Load.commandOk (l : Load) (e : Sect) (w : Nat) : Bool :=
  nfld w 215 192 == 0 && (match nfld w 223 216 with
    | 1 => nfld w 175 0 == 0 && (List.range 8).all (fun i => nfld w (184 + i) (184 + i) == 0 ||
        l.sects.any (fun x => x.typ == 2 && x.j == e.j && x.unit == coreIndex e.unit i && x.index == nfld w 183 176))
    | 2 => nfld w 159 0 == 0
    | 3 => nfld w 148 0 == 0
    | 4 => true
    | 5 => nfld w 87 0 == 0 && nfld w 135 132 ≤ 5
    | 6 => nfld w 89 0 == 0 && nfld w 191 189 ≤ 2
    | 7 => nfld w 191 0 == 0
    | _ => false)

/-- COMMANDS (R311, R446). -/
def Load.commands (l : Load) (a : Loading) (e : Sect) (bs : List Byte) : Loading :=
  let ws := records 32 bs
  let ends := ws.filter (fun w => nfld w 223 216 == 7)
  if bs.length % 32 ≠ 0 then a.fail 0x0801
  else if 8192 < ws.length then a.fail 0x080A
  else if ends.length ≠ (sectBytes l.img l.sects 6).length / 8 || (ws.getLast?.map (fun w => nfld w 223 216)) ≠ some 7
      || !ws.all (l.commandOk e) then a.fail 0x0801
  else match planPos l.job.plan e.j e.unit with
    | some p =>
      match l.job.clusterAt p with
      | some k => { a with st := a.st.modStw k (fun _ => { Steward.zero with
          store := (withIx ws).foldl (fun m x => m.set 0#256 x.1 (BitVec.ofNat 256 x.2)) [], len := ws.length }) }
      | none => a.fail 0x0801
    | none => a.fail 0x0801

/-- A route-table entry has a shape of Table 6.3. -/
def routeShape (e : W32) : Bool :=
  let out := rtOut e
  let opp (q : Nat) := if q % 2 = 0 then q + 1 else q - 1
  match rtRole e with
  | 0 => rtShare e == 0 && decide (rtIn e < 6) && (match out with
      | [] => rtLand e
      | [q] => if rtLand e then q == opp (rtIn e) else q != rtIn e
      | _ => false)
  | 1 => rtShare e != 0 && rtIn e == 7 && out.length == 1 && !rtLand e
  | 2 => rtShare e != 0 && rtIn e == 7 && (match out with
      | [_] => true
      | [p, q] => p / 2 == q / 2
      | _ => false)
  | _ => false

/-- Landing entries of the ranks with a lower co-resident index (R312). -/
def Load.landBase (l : Load) (j : Nat) : Nat := ((l.sects.filter (fun e => e.typ == 5 && e.j < j)).map (fun e => e.len / 8)).sum

/-- The first landing-map entry of section `e`: the sections of the ranks before, then those of its own rank that stand before it. -/
def Load.landStart (l : Load) (e : Sect) : Nat :=
  l.landBase e.j + (((l.sects.takeWhile (· != e)).filter (fun x => x.typ == 5 && x.j == e.j)).map (fun x => x.len / 8)).sum

/-- A route reaches a landing entry of more cells than its span (R164). -/
def State.landSpans (s : State) : Bool :=
  s.tt.routes.all (fun x => !rtLand x.2 || s.tt.landings.all (fun e =>
    !(bitOf e.2 63 && s.spanCovers x.2 e.1) || fld e.2 44 30 < 2 ^ (rtSpan x.2 + 7)))

/-- Step 5 goes on unless a route and an entry break R164. -/
def Loading.spanned (a : Loading) : Loading := if a.st.landSpans then a else a.fail 0x0404

/-- ROUTES (R157, R164, R312). -/
def Load.routes (l : Load) (a : Loading) (bs : List Byte) : Loading :=
  let rs := records 8 bs
  if bs.length % 8 ≠ 0 || !rs.all (fun w => nfld w 47 40 == 0 && nfld w 35 32 == 0 && decide (nfld w 39 36 < l.job.fold))
      || !decide ((rs.map (fun w => nfld w 63 48)).Nodup) then a.fail 0x0801
  else
    let es := rs.map (fun w =>
      let e : W32 := BitVec.ofNat 32 w
      (nfld w 63 48, e, if rtLand e then rtLbuf e + l.landBase (nfld w 39 36) else rtLbuf e))
    if !es.all (fun x => routeShape x.2.1 && decide (x.2.2 < 16384)) then a.fail 0x0403
    else Loading.spanned { a with st := a.st.modTt (fun t => { t with
      routes := es.foldl (fun m x => m.set 0#32 x.1 (putFld x.2.1 13 0 x.2.2)) t.routes }) }

/-- A landing-map entry with its CLUSTER replaced; none where R164 refuses it. -/
def Load.landEntry (l : Load) (w : Nat) : Option W64 :=
  let e : W64 := BitVec.ofNat 64 w
  if nfld w 63 63 = 0 then some e
  else match l.job.clusterAt (nfld w 62 56) with
    | some k => if nfld w 14 0 ≠ 0 || 24576 < nfld w 29 15 + nfld w 44 30 + 1 then none else some (putFld e 62 56 k)
    | none => none

/-- LANDING (R164, R312). -/
def Load.landing (l : Load) (a : Loading) (e : Sect) (bs : List Byte) : Loading :=
  let es := (records 8 bs).map l.landEntry
  if bs.length % 8 ≠ 0 then a.fail 0x0801
  else if 16384 < l.landStart e + es.length then a.fail 0x080A
  else if es.contains none then a.fail 0x0404
  else Loading.spanned { a with st := a.st.modTt (fun t => { t with
    landings := (withIx es).foldl (fun m x => m.set 0#64 (l.landStart e + x.1) (x.2.getD 0#64)) t.landings }) }

/-- EPOCHS (R153, R312). -/
def Load.epochs (_ : Load) (a : Loading) (bs : List Byte) : Loading :=
  let es := records 8 bs
  let bad (w : Nat) : Bool := nfld w 62 60 != 0 || decide (nfld w 23 0 + 1 ≤ nfld w 47 24) || decide (es.length ≤ nfld w 59 48)
  if bs.length % 8 ≠ 0 then a.fail 0x0801
  else if 4096 < es.length then a.fail 0x080A
  else if es.isEmpty || es.any bad then a.fail 0x040F
  else { a with st := a.st.modTt (fun t => { t with
    epochs := (withIx es).foldl (fun m x => m.set 0#64 x.1 (BitVec.ofNat 64 x.2)) [], count := es.length }) }

/-- Initial-content records: an address and a length of `n` bytes each, then the bytes; none where one is cut off. -/
def initRecords (n : Nat) : Nat → List Byte → Option (List (Nat × List Byte))
  | 0, bs => if bs.isEmpty then some [] else none
  | k + 1, bs =>
    if bs.isEmpty then some []
    else
      let len := leNat ((bs.drop n).take n)
      let body := bs.drop (2 * n)
      if body.length < len || bs.length < 2 * n then none
      else (initRecords n k (body.drop len)).map ((leNat (bs.take n), body.take len) :: ·)

/-- SRAM_INIT (R316). -/
def Load.sramInit (l : Load) (a : Loading) (e : Sect) (bs : List Byte) : Loading :=
  match initRecords 4 (bs.length / 8 + 1) bs, l.job.corePlace e.j e.unit with
  | some rs, some n =>
    if !rs.all (fun r => r.1 % 64 == 0 && r.2.length % 64 == 0 && decide (r.1 + r.2.length ≤ 0x180000)) then a.fail 0x0801
    else { a with
      st := rs.foldl (fun (s : State) r => (s.sramWrite n r.1 r.2).1) a.st
      srams := a.srams ++ rs.map (fun r => (n, r.1, r.2.length)) }
  | _, _ => a.fail 0x0801

/-- HBM_INIT (R316). -/
def Load.hbmInit (l : Load) (a : Loading) (e : Sect) (bs : List Byte) : Loading :=
  match initRecords 8 (bs.length / 16 + 1) bs with
  | some rs =>
    if !rs.all (fun r => r.1 % 256 == 0 && r.2.length % 256 == 0 && decide (r.1 + r.2.length ≤ l.job.partLen)) then a.fail 0x0801
    else rs.foldl (fun (a : Loading) r =>
      if a.code ≠ 0 || r.2.isEmpty then a
      else
        let x := a.st.hbmWrite l.job.ctx (l.job.partBase e.j + r.1) r.2
        { a with st := x.1, code := x.2 }) a
  | none => a.fail 0x0801

/-- The window that a request asks for (R315, R318), or the code that refuses it. -/
def Load.winReq (l : Load) (j w : Nat) : BitVec 128 × Nat :=
  let lo := nfld w 39 0
  let hi := nfld w 103 64
  let sram := 0xF000000000
  let put (lo hi : Nat) : BitVec 128 := BitVec.ofNat 128 (l.job.ctx * 2 ^ 123 + nfld w 122 119 * 2 ^ 119 + hi * 2 ^ 64 + lo)
  if nfld w 127 123 ≠ 0 then (0#128, 0x0801)
  else if ztiFixed l.head then
    let own := l.job.partBase 0 ≤ lo && lo ≤ hi && hi < l.job.partBase 0 + l.job.partLen
    if (sram ≤ lo && sram ≤ hi) || own then (put lo hi, 0) else (0#128, 0x0801)
  else
    let move (o : Nat) := if o < sram then o + l.job.partBase j else o
    let out (o : Nat) : Bool := o < sram && hbmEnd ≤ move o
    if out lo || out hi then (0#128, 0x0407) else (put (move lo) (move hi), 0)

/-- WINDOWS (R315). -/
def Load.windows (l : Load) (a : Loading) (e : Sect) (bs : List Byte) : Loading :=
  if bs.length % 16 ≠ 0 then a.fail 0x0801
  else (records 16 bs).foldl (fun (a : Loading) w =>
    if a.code ≠ 0 then a
    else match l.winReq e.j w, (List.range 32).find? (fun n => !bitOf (a.st.pan.win.get 0#128 n) 127) with
      | (v, 0), some n =>
        let x := (a.st.modPan (fun p => { p with win := p.win.set 0#128 n v })).enableWin n
        { a with st := x.1, code := x.2, wins := n :: a.wins }
      | (_, 0), none => a.fail 0x080A
      | (_, code), _ => a.fail code) a

/-- PATCHES (R314): the records are checked; their bytes stand in the patched image. -/
def Load.patches (l : Load) (a : Loading) (e : Sect) (bs : List Byte) : Loading :=
  if bs.length % 16 ≠ 0 then a.fail 0x0801
  else if !(records 16 bs).all (fun w => (l.patch a.st e.j w).isSome) then a.fail 0x0809
  else a

/-- One section of step 5 (R320), its bytes as patched. -/
def Load.section_ (l : Load) (img : List Byte) (a : Loading) (e : Sect) : Loading :=
  let bs := e.bytes img
  if a.code ≠ 0 then a
  else if e.known && !e.arrived l.img then a.fail 0x0603
  else match e.typ with
    | 2 => l.program a e bs
    | 3 => l.commands a e bs
    | 4 => l.routes a bs
    | 5 => l.landing a e bs
    | 6 => l.epochs a bs
    | 7 => l.sramInit a e bs
    | 8 => l.hbmInit a e bs
    | 9 => l.patches a e (e.bytes l.img)
    | 10 => l.windows a e bs
    | _ => a

/-! The steps of R320 -/

/-- Step 1, with the refusal of R424. -/
def State.loadStep1 (s : State) (x : Nat) : Nat :=
  if s.pan.fenced then 0x0308
  else if s.hearth.thermal then 0x0626
  else if s.hearth.running ≠ some x then 0x0302
  else if (s.ctx x).job = 1 || (s.ctx x).job = 2 then 0x0303
  else if !bitOf (s.pan.jobBlock.get 0#32 x) 31 then 0x0808
  else 0

/-- Step 2. -/
def State.loadStep2 (s : State) : Nat :=
  if s.pan.enable || !s.drained || (List.range 6).any (fun p => !(s.port p).slip.isEmpty || s.storeHeld p != 0) then 0x0304 else 0

/-- Step 3. -/
def State.loadStep3 (s : State) (h : BitVec 1024) (len : Nat) : Nat :=
  if !ztiHeadOk h len then 0x0801
  else if ztiProfile h = 2 && !s.fuses.b0 then 0x0803
  else if fld h 639 608 ≠ 0 && fld h 639 608 ≠ s.tableVersion then 0x0805
  else 0

/-- The first section of a type has arrived, where there is one. -/
def sectHere (img : List Byte) (l : List Sect) (t : Nat) : Bool :=
  match l.find? (fun e => e.typ == t) with
  | some e => e.arrived img
  | none => true

/-- The FIXED_GRID section keeps its layout (R318). -/
def gridShape (bs : List Byte) : Bool := bs.length == 16 && nfld (leNat bs) 103 100 == 0 && nfld (leNat bs) 127 124 == 0

/-- Step 4 on an image of `len` bytes, of which `img` has arrived. -/
def State.loadStep4 (s : State) (x base : Nat) (h : BitVec 1024) (img : List Byte) (len : Nat) : Nat :=
  let l := ztiSects h img
  let plan := (records 2 (sectBytes img l 1)).map (BitVec.ofNat 16)
  let lo := base * 2 ^ 24
  let n := ztiFold h * ztiPart h * 2 ^ 24
  if len < 128 + 24 * ztiDir h then 0x0801
  else if img.length < 128 + 24 * ztiDir h then 0x0603
  else if !dirOk h len l then 0x0801
  else if !s.placedHere x h then 0x0804
  else if !sectHere img l 1 then 0x0603
  else if !planOk plan (ztiFold h) (ztiVrows h) || (sectBytes img l 1).length ≠ 200 || !sectsPlanned plan l then 0x0801
  else if ztiFixed h && !sectHere img l 11 then 0x0603
  else if ztiFixed h && !gridShape (sectBytes img l 11) then 0x0801
  else if ztiFixed h && (sectBytes img l 11 ≠ s.gridBytes || !(planUsed plan).all (fun e => planUse e.2 == 1)) then 0x0807
  else if (s.mapClusters plan).isNone then 0x0402
  else if 65536 < base + ztiFold h * ztiPart h then 0x0104
  else if !s.inRegions x lo n || s.inSave x lo (lo + n - 1) then 0x0806
  else 0

/-- The job of an image that passes steps 1 to 4. -/
def State.jobOf (s : State) (x base : Nat) (guarded : Bool) (h : BitVec 1024) (img : List Byte) : Load :=
  let l := ztiSects h img
  let plan : List W16 := (records 2 (sectBytes img l 1)).map (BitVec.ofNat 16)
  let a1 := ztiProfile h = 1
  let job : Job := ⟨x, BitVec.ofNat 64 (fld h 703 640), ztiRanks h, ztiFold h, ztiVrows h, ztiPart h, base,
    guarded || bitOf h 516 || (a1 && s.fuses.b0), a1, BitVec.ofNat 64 (fld h 767 704), BitVec.ofNat 256 (fld h 1023 768), plan,
    (s.mapClusters plan).getD [], [], []⟩
  let blk := s.pan.jobBlock.get 0#32 x
  ⟨h, l, img, job, (List.range (ztiExt h 0 * ztiExt h 1 * ztiExt h 2)).map (s.moduleNode blk h)⟩

/-- The load replaces an ended job: the windows that its load wrote go, core, steward and stream state and the tables take their
program-load values; SRAM stands (R316, R321). -/
def State.replaceJob (s : State) (x : Nat) : State :=
  let wins := match (s.ctx x).jobRec with
    | some j => j.wins
    | none => []
  { s with
    cores := mapOver Core.zero s.cores (fun k => { Core.zero with sram := k.sram, sramErr := k.sramErr })
    clusters := []
    streams := []
    hall := []
    tt := { Timetable.zero with ctl := s.tt.ctl }
    pan := { s.pan with ranks := [], win := wins.foldl (fun m n => m.upd 0#128 n (fun v => putFld v 127 127 0)) s.pan.win } }

/-- A failure from step 5 on (R321). -/
def Loading.undo (a : Loading) (x : Nat) : State :=
  let s := a.srams.foldl (fun (s : State) r => (s.sramWrite r.1 r.2.1 (List.replicate r.2.2 0#8)).1) a.st
  let s := { s with
    clusters := []
    tt := { Timetable.zero with ctl := s.tt.ctl }
    pan := { s.pan with ranks := [], win := a.wins.foldl (fun m n => m.set 0#128 n 0#128) s.pan.win } }
  s.modCtx x (fun c => { c with jobLoaded := false, jobRec := none, job := 0 })

/-- Step 6: the rank table. -/
def Load.rankTable (l : Load) (a : Loading) : Loading :=
  if a.code ≠ 0 then a
  else
    let es := (List.range (ztiRanks l.head)).map l.rankEntry
    if es.contains none then a.fail 0x0804
    else { a with st := a.st.modPan (fun p => { p with ranks := (withIx es).foldl (fun m x => m.set 0#32 x.1 (x.2.getD 0#32)) [] }) }

/-- Step 7: the digest. -/
def Load.digest (l : Load) (a : Loading) : Loading :=
  if a.code ≠ 0 then a
  else if l.img.length < fld l.head 71 32 then a.fail 0x0603
  else if leBytes 32 l.job.digest.toNat ≠ beBytes 32 (sha256 (l.img.drop 128)) then a.fail 0x0802
  else a

/-- The identities of R308. -/
def Load.identities (l : Load) (s : State) : State :=
  (planUsed l.job.plan).foldl (fun (s : State) x =>
    match l.job.clusterAt x.1 with
    | some k => iter 8 s (fun i s => s.modCoreN (8 * k + i) (fun c => { c with
        vcore := BitVec.ofNat 16 (coreIndex (planCluster x.2) i)
        vrank := BitVec.ofNat 16 (l.job.fold * fld l.head 483 472 + planJ x.2) }))
    | none => s) s

/-- Step 8: guarded mode, identities, JOB_LOADED; the regions of the cluster map start (R349, R350). Command counts of the trace start
afresh (Table 15.5). -/
def Load.commit (l : Load) (a : Loading) : State :=
  let s := (l.identities a.st).modCtx l.job.ctx (fun c => { c with
    jobLoaded := true, job := 0, jobRec := some { l.job with progs := a.progs, wins := a.wins } })
  let s := (s.modDbg (fun d => { d with engSeq := [] })).modHearth (fun h => { h with cmdCount := 0, idleFrom := s.clk.wall })
  s.unpark 0

/-- Steps 5 to 8. -/
def Load.run (l : Load) (s : State) (dma : List Byte) : Reply :=
  let x := l.job.ctx
  let s := (s.replaceJob x).modCtx x (fun c => { c with jobLoaded := true, job := 0, jobRec := some l.job })
  let a := l.sects.foldl (l.section_ (l.patched s)) (⟨s, 0, [], [], [], []⟩ : Loading)
  let a := l.digest (l.rankTable a)
  if a.code ≠ 0 then ⟨a.code, [], [], some dma, false, a.undo x⟩
  else
    let plan := sectBytes l.img l.sects 1
    ⟨0, [BitVec.ofNat 8 l.job.fold, BitVec.ofNat 8 (b2n l.job.guarded)] ++ leBytes 2 (planUsed l.job.plan).length
        ++ (beBytes 32 (sha256 plan)).take 4 ++ leBytes 8 l.job.setId.toNat ++ leBytes 32 l.job.digest.toNat,
      [], some dma, false, l.commit a⟩

/-- JOB_LOAD (R319, R320): `host` is what the host sends of the image; a transfer that fails ends it at the step that needs the missing
bytes. -/
def State.cmdJobLoad (s : State) (porch : Bool) (b : BitVec 2048) (host : Option (List Byte)) : Reply :=
  let x := blkByte b 0
  let base := blkNum b 4 2
  let len := blkNum b 16 8
  s.checked porch b 24 (blkByte b 1 < 2 && blkNum b 2 2 == 0 && blkNum b 6 2 == 0) (x < 16 && 128 ≤ len && len < 2 ^ 40) (fun s =>
    match s.loadStep1 x, s.loadStep2 with
    | 0, 0 =>
      let r := s.hostBytes porch b (blkNum b 8 8) len host
      let s := r.1
      let img := r.2
      let no (code : Nat) : Reply := ⟨code, [], [], some img, false, s⟩
      let h : BitVec 1024 := BitVec.ofNat 1024 (leNat (img.take 128))
      if img.length < 128 then no 0x0603
      else match s.loadStep3 h len with
        | 0 =>
          match s.loadStep4 x base h img len with
          | 0 => (s.jobOf x base (blkByte b 1 % 2 == 1) h img).run s img
          | code => no code
        | code => no code
    | 0, code => s.no code
    | code, _ => s.no code)

def execJobLoad (src : Src) (host : Option (List Byte)) (s : State) : Result :=
  .next (s.command src 0x30 (.jobLoad src host) (fun s b => s.cmdJobLoad (srcPorch src) b host))

end Sys2Proof.Machine
end

