-- ==== Sys2Proof/Machine/Attest.lean ====
section
/-! DEFINITION. Attestation, the host session's commands, management handshakes (R376 to R382, R386, Table 14.2). -/

namespace Sys2Proof.Machine

/-! The report (R377, Table 14.2) -/

/-- An item: type, length, value, zeros to a multiple of 4. -/
def attItem (typ : Nat) (v : List Byte) : List Byte :=
  leBytes 2 typ ++ leBytes 2 v.length ++ v ++ List.replicate ((4 - v.length % 4) % 4) 0#8

def zeros (n : Nat) : List Byte := List.replicate n 0#8
def byteOf (n : Nat) : Byte := BitVec.ofNat 8 n

/-- One measured component (Table 14.1). -/
def State.measureEntry (s : State) (id : Nat) : List Byte :=
  let slot := s.fwSlot s.hearth.bootSlot
  [byteOf id] ++ zeros 3 ++
    (if id = 2 then leBytes 4 slot.version ++ leBytes 32 (fld slot.header 383 128)
     else leBytes 4 (Config.compVersion id s.image).toNat
      ++ beBytes 32 (if id = 1 then Config.romMeasure else s.hearth.measures.get 0#256 id).toNat)

def State.attIdentity (s : State) : List Byte :=
  leBytes 4 s.fuses.prcId ++ leBytes 8 s.fuses.serial.toNat ++ leBytes 2 s.enabledClusters ++ [byteOf s.fuses.topOp, 0#8]
    ++ beBytes 64 (pubOf s.sloe.idKey.toNat).toNat

def State.attBoot (s : State) : List Byte :=
  let other := s.fwSlot (1 - s.hearth.bootSlot)
  [byteOf s.hearth.bootSlot, byteOf (b2n s.trial), byteOf (s.flash.cand.getD 0xFF), byteOf s.flash.tries]
    ++ leBytes 4 (if s.fwCheck other = 0 then other.version else 0) ++ [byteOf (s.fwSlot s.hearth.bootSlot).svn] ++ zeros 7

def State.attContexts (s : State) : List Byte :=
  ((List.range 16).filter (fun x => (s.ctx x).state != 0)).flatMap (fun x =>
    let c := s.ctx x
    [byteOf x, byteOf c.state, (s.cel.keys.get KeySet.zero x).epoch, c.debugSeen] ++ leBytes 4 (s.pan.jobBlock.get 0#32 x).toNat
      ++ leBytes 4 c.saveBase ++ [byteOf c.job] ++ zeros 3)

/-- Enabled entries of a table of 128-bit registers. -/
def enabledEntries (m : SMap (BitVec 128)) : List Byte := (m.filter (fun e => bitOf e.2 127)).flatMap (fun e => leBytes 16 e.2.toNat)

def State.attClusters (s : State) : List Byte :=
  (List.range 100).map (fun p => match s.job with
    | some j => byteOf ((j.clusterAt p).getD 0xFF)
    | none => 0xFF#8)

def State.attJob (s : State) : List Byte :=
  match s.job with
  | some j => s.determinismKey (some j) ++ leBytes 8 j.setId.toNat ++ leBytes 32 j.digest.toNat ++ [byteOf j.fold, byteOf (b2n j.guarded)] ++ zeros 6
  | none => zeros 56

/-- Every item but SIGNATURE, in ascending TYPE. -/
def State.attItems (s : State) (nonce : List Byte) : List (Nat × List Byte) :=
  [(0x0001, s.attIdentity), (0x0002, (s.flash.certs.flatMap (·.der)).take 4096), (0x0010, (List.range 6).flatMap (fun i => s.measureEntry (i + 1))),
    (0x0011, s.attBoot), (0x0020, leBytes 4 (s.security / 2 ^ 32) ++ [byteOf s.fuses.svn] ++ zeros 3), (0x0021, s.gridBytes),
    (0x0030, [s.dbg.posture, s.dbg.postReset, s.dbg.postRestore, 0#8] ++ leBytes 4 s.dbg.scans), (0x0040, s.attContexts),
    (0x0041, enabledEntries s.cel.regions), (0x0042, enabledEntries s.pan.win), (0x0043, s.attClusters), (0x0050, s.attJob),
    (0x0060, leBytes 8 s.sloe.alarmStatus), (0x00F0, nonce)]

/-- The whole report, signed with the identity key (R372, R377). -/
def State.report (s : State) (nonce : List Byte) : List Byte :=
  let items := s.attItems nonce
  let body := items.flatMap (fun i => attItem i.1 i.2)
  let head := ascii "ODAR" ++ [1#8] ++ zeros 3 ++ leBytes 4 (16 + body.length + 68) ++ leBytes 4 (items.length + 1)
  let sig := ecdsaSign s.sloe.idKey.toNat (sha256 (head ++ body))
  head ++ body ++ attItem 0xFFFF (beBytes 64 sig.toNat)

/-- ATTEST (R376). -/
def State.cmdAttest (s : State) (porch dma : Bool) (b : BitVec 2048) : Reply :=
  s.checked porch b 44 true true (fun s =>
    let rep := s.report (blkBytes b 0 32)
    let digest := sha256 rep
    if porch && blkNum b 40 4 < rep.length then ⟨0x0104, leBytes 4 rep.length, [], none, false, s⟩
    else
      let r := s.toHost porch dma (blkNum b 32 8) (leBytes 4 rep.length ++ beBytes 32 digest) rep
      if porch && r.code = 0 then
        { r with st := r.st.modHearth (fun h => { h with reportDigest := some (BitVec.ofNat 256 digest), reportAt := r.st.clk.wall }) }
      else r)

def execAttest (src : Src) (dma : Bool) (s : State) : Result :=
  .next (s.command src 0x90 (.attest src dma) (fun s b => s.cmdAttest (srcPorch src) dma b))

/-! The host session (R380, R382) -/

/-- The keys of a session (R380). -/
def sessionOf (rd z : Nat) (sid : W32) : Session :=
  let key (l : String) : BitVec 256 := BitVec.ofNat 256 (hkdf (beBytes 32 rd) (beBytes 32 z) (ascii l))
  ⟨sid, key "ODHSH2M", key "ODHSM2H", 0, 0, 0⟩

/-- Open a session for pair `pair`; its keys apply once the host has taken the response (log 13). -/
def State.openSession (s : State) (pair : Nat) (host rd : List Byte) : Reply :=
  let r1 := s.draw
  let r2 := r1.2.draw
  let d := privOf r1.1.toNat
  let sid : W32 := r2.1.truncate 32
  let own := beBytes 64 (pubOf d).toNat
  let x := sessionOf (beNat rd) (ecdh d (BitVec.ofNat 512 (beNat host))) sid
  let sig := ecdsaSign s.sloe.idKey.toNat (sha256 (ascii "ODSS" ++ host ++ own ++ leBytes 4 sid.toNat ++ rd))
  (r2.2.modHearth (fun h => { h with sessNext := some (pair, x) })).okP (own ++ leBytes 4 sid.toNat ++ beBytes 64 sig.toNat)

/-- SESSION_OPEN (R380); a host key that is no point of the curve is out of range (log 13). -/
def State.cmdSessionOpen (s : State) (src : Src) (b : BitVec 2048) : Reply :=
  let host := blkBytes b 0 64
  let rd := blkBytes b 64 32
  s.checked (srcPorch src) b 96 true (pubOk (beNat (host.take 32)) (beNat (host.drop 32))) (fun s =>
    if s.hearth.reportDigest ≠ some (BitVec.ofNat 256 (beNat rd)) || s.hearth.reportAt + 60 * quMs 1000 < s.clk.wall then s.secNo 0x050C
    else if !s.hearth.entropyOk then s.secNo 0x050D
    else s.openSession (srcPair src) host rd)

def execSessionOpen (src : Src) (s : State) : Result :=
  .next (s.command src 0x91 (.sessionOpen src) (fun s b => s.cmdSessionOpen src b))

/-- SESSION_CLOSE (R382). -/
def State.cmdSessionClose (s : State) (porch : Bool) (b : BitVec 2048) : Reply :=
  s.checked porch b 0 true true (fun s => s.closeSession.ok)

def execSessionClose (src : Src) (s : State) : Result :=
  .next (s.command src 0x92 (.sessionClose src) (fun s b => s.cmdSessionClose (srcPorch src) b))

/-! Management connections (R386, R387) -/

/-- The management port takes connections: firmware serves it, and an operator CA slot is enabled. -/
def State.mgmtOpen (s : State) : Bool := 4 ≤ s.sloe.stage && !s.hearth.wedged && !s.hearth.recovery && s.hearth.pState != 3 && s.opcaAny

/-- A failed handshake: an alarm source at most once a second, and a count in L1_COUNT. -/
def State.mgmtAuth (s : State) : State :=
  let soon : Bool := match s.hearth.mgmtAuthAt with
    | some t => s.clk.wall < t + quMs 1000
    | none => false
  if soon then s.alarmCount 5
  else (s.modHearth (fun h => { h with mgmtAuthAt := some s.clk.wall })).alarm1 5 0x0511

/-- The cipher suite that the module takes: TLS_AES_256_GCM_SHA384 before TLS_AES_128_GCM_SHA256 (log 18). -/
def helloSuite (h : Hello) : Option Nat := [0x1302, 0x1301].find? h.suites.contains

/-- The offer fits the profile of R386: TLS 1.3, secp256r1, ecdsa_secp256r1_sha256, no pre-shared keys, no 0-RTT data. -/
def profileOk (h : Hello) : Bool :=
  h.version == 0x0304 && h.groups.contains 0x0017 && h.sigs.contains 0x0403 && !h.psk && !h.early

/-- A client's chain of at most two certificates leads to the key of an enabled operator CA slot, inside its validity where the time is
valid; the client signs with its leaf's key (R386, log 18). -/
def State.clientOk (s : State) (h : Hello) : Bool :=
  h.chain.length ≤ 2 && (List.range 4).any (fun n => s.opcaOn n && chainSigned (s.opcaPub n) h.chain)
    && (!s.tim.valid || h.chain.all (fun c => c.start ≤ s.tim.now.sec && s.tim.now.sec ≤ c.stop))
    && (match h.chain with
      | c :: _ => ecdsaVerify c.key h.tbs.toNat h.sig
      | [] => false)

/-- MGMT_HANDSHAKE (R386): a client offers `hello` for connection `n` of at most four. The module shows its chain and signs (R372); on
success the connection has its traffic keys (R383). -/
def execMgmtHandshake (n : Fin 4) (hello : Hello) (s : State) : Result :=
  .next (if !s.mgmtOpen || s.hearth.conns.get false n.val then s
    else match helloSuite hello with
      | none => s.mgmtAuth
      | some suite =>
        if !profileOk hello || !s.hearth.entropyOk then s.mgmtAuth
        else
          let s := s.emit (.certVerify n.val (ecdsaSign s.sloe.idKey.toNat hello.ownTbs.toNat) s.flash.certs)
          if !s.clientOk hello then s.mgmtAuth
          else
            let r := s.draw
            r.2.modHearth (fun h => { h with
              conns := h.conns.set false n.val true
              tls := h.tls.set TlsKeys.zero n.val ⟨suite, Config.trafficKey 0 r.1, Config.trafficKey 1 r.1⟩ }))

end Sys2Proof.Machine
end

