-- ==== Sys2Proof/Machine/Replay.lean ====
section
/-! DEFINITION. Replay of a recorded log (R369, R370). -/

namespace Sys2Proof.Machine

/-- The block that an entry's header and payload spell. -/
def entryBlock (hd : Nat) (payload : List Byte) : BitVec 2048 :=
  BitVec.ofNat 2048 (leNat (payload.take (nfld hd 95 88)) * 2 ^ 64 + nfld hd 95 88 * 2 ^ 32 + nfld hd 111 104 * 2 ^ 24
    + nfld hd 103 96 * 2 ^ 16 + nfld hd 127 112)

/-- The channel that an entry names. -/
def entrySrc (hd : Nat) (b : BitVec 2048) : Src :=
  if nfld hd 133 132 = 0 then .porch ⟨nfld hd 131 130 % 4, Nat.mod_lt _ (by decide)⟩ else .mgmt 0 b

/-- FBC values of JOB_START and SET_OPERATING_POINT are rebased (R369). -/
def State.rebase (s : State) (b : BitVec 2048) : BitVec 2048 :=
  if blkOp b = 0x31 || blkOp b = 0x50 then putFld b 191 128 ((blkNum b 8 8 + s.hearth.rec_.startFbc) % 2 ^ 64) else b

/-- Run a logged state command. -/
def State.replayRun (s : State) (src : Src) (b : BitVec 2048) (host : Option (List Byte)) : Reply :=
  let porch := srcPorch src
  match blkOp b with
  | 0x11 => s.cmdRegWrite porch b
  | 0x20 => s.cmdCtxCreate porch b
  | 0x21 => s.cmdCtxDestroy porch b
  | 0x22 => s.cmdCtxSwitch src b
  | 0x30 => s.cmdJobLoad porch b host
  | 0x31 => s.cmdJobStart porch b
  | 0x32 => s.cmdJobStop porch b
  | 0x50 => s.cmdSetOperatingPoint porch b
  | 0x51 => s.cmdSetPowerCap porch b
  | 0x60 => s.cmdTest porch 0x60 0#8 b
  | 0x61 => s.cmdTest porch 0x61 0#8 b
  | 0x80 => s.cmdFence porch b
  | 0xA0 => s.cmdDebugBreak porch b
  | 0xA1 => s.cmdGlobalStop src b
  | 0xA2 => s.cmdWaitforGraph porch true b
  | 0xA3 => s.cmdTraceCtl porch b
  | 0xA4 => s.cmdFreeze porch b
  | _ => s.no 0x0101

/-- Entries that are not applied again (R369). -/
def notReplayed (op : Nat) : Bool := [0x70, 0x71, 0x72, 0x52].contains op

/-- The command of an entry: no longer refused as in a replay, its session requirement met where the recorded one met it. It is an engine
command of Hearth in the trace as any other (R399). -/
def State.replayApply (s : State) (hd : Nat) (payload : List Byte) (host : Option (List Byte)) : Reply :=
  let b := s.rebase (entryBlock hd payload)
  let src := entrySrc hd b
  let s := s.beginCommand src b
  let keep := s.hearth.sess
  let stand : Option Session := if keep.isNone && nfld hd 87 72 ≠ 0x050B then some ⟨0#32, 0#256, 0#256, 0, 0, 0⟩ else keep
  let rec_ := s.hearth.rec_
  let r := (s.modHearth (fun h => { h with sess := stand, rec_ := { rec_ with active := false } })).replayRun src b host
  let s := if keep.isNone then r.st.modHearth (fun h => { h with sess := none }) else r.st
  let s := s.modRec (fun x => { x with active := rec_.active && recEnable x.ctl })
  if r.later then { r with st := s.modHearth (fun h => { h with logged := some hd }) }
  else { r with st := s.hearthTrace (!srcPorch src) (srcPair src) (if r.code = 0 then 1 else 2) b }

/-- How an entry's beat stands to the present: not reached, reached, passed (R369). -/
def State.entryTurn (s : State) (hd : Nat) : Ordering :=
  if nfld hd 135 135 = 0 then .eq
  else
    let i := nfld hd 191 160
    let b := nfld hd 159 136
    let n := s.tt.index.toNat
    if i < n then .gt
    else if n < i || !s.epochRuns then .lt
    else if s.epochBeat < b then .lt else if s.epochBeat = b then .eq else .gt

/-- Apply the entry at the log position; one that is not applied again counts neither as applied nor as late. -/
def State.replayStep (s : State) (hd : Nat) (payload : List Byte) (digest : Option (List Byte)) (pos : Nat) (late : Bool)
    (host : Option (List Byte)) : State :=
  let s := s.modRec (fun r => { r with rdPos := pos, rdSeq := r.rdSeq + 1 })
  if notReplayed (nfld hd 127 112) then s
  else
    let s := s.modRec (fun r => { r with entries := r.entries + 1, late := if late then r.late + 1 else r.late })
    let r := s.replayApply hd payload host
    if r.later then r.st else r.st.replayCheck hd r.code r.dma digest

/-- REPLAY_ENTRY (R369, R370): the next logged entry takes effect where its turn has come and the previous one has completed; after the
last, replay ends. `host` is what the host presents where the command reads. -/
def execReplayEntry (host : Option (List Byte)) (s : State) : Result :=
  .next (if !s.replaying || s.stateBusy then s
    else match s.logAt s.hearth.rec_.rdPos with
      | (s', some (hd, payload, digest, pos)) =>
        if nfld hd 63 32 ≠ s.hearth.rec_.rdSeq + 1 || nfld hd 127 112 = 0 then s'.endRecord
        else match s.entryTurn hd with
          | .lt => s
          | t => s'.replayStep hd payload digest pos (t == .gt) host
      | (s', none) => s'.endRecord)

end Sys2Proof.Machine
end

