-- ==== Sys2Proof/Machine/Bringup.lean ====
section
/-! DEFINITION. Power, resets from the lands, bring-up, supply and thermal faults, management modes (R276, R298, R371, R413 to R424,
R431, R434, R436). -/

namespace Sys2Proof.Machine

/-! The Sloe domain (R413, R431, R434) -/

/-- SLOE_RESET (R431): VAUX_3V3 has lain below 2.5 V. -/
def execSloeReset (s : State) : Result := .next (s.sloeReset.modPins (fun p => { p with vaux := false }))

/-- SLOE_POWER_ON (R413): VAUX_3V3 rises through 3.0 V after a Sloe reset; LATCHED and L2_COUNT are cleared. -/
def execSloePowerOn (s : State) : Result :=
  .next (if s.pins.vaux then s else s.sloeReset.modPins (fun p => { p with vaux := true }))

/-- PAN_POS of the straps in the order of Table 17.3 (Table 8.2). -/
def strapPos (w : W32) : W32 := BitVec.ofNat 32 (fld w 16 16 * 2 ^ 28 + fld w 15 12 * 2 ^ 24 + fld w 11 0)

/-- STRAP_SAMPLE (R434, R224): the majority of the samples, latched once. -/
def execStrapSample (straps : W32) (s : State) : Result :=
  .next (if s.sloe.strapped || s.sloe.stage ≠ 0 || !s.pins.vaux then s
    else (s.modPins (fun p => { p with straps := straps })).modSloe (fun x => { x with panPos := strapPos straps, strapped := true }))

/-! Resets from the lands (R413, R414, R415, R351) -/

/-- POWER_RESET (R415): PORST_N falls or rises. -/
def execPowerReset (low : Bool) (s : State) : Result :=
  .next (if low = !s.pins.porstN then s
    else if low then (s.powerReset 1 0).modPins (fun p => { p with porstN := false })
    else s.modPins (fun p => { p with porstN := true }))

/-- MODULE_RESET (R414, R415): RESET_N falls or rises; in P3 its fall wakes the module. -/
def execModuleReset (low : Bool) (s : State) : Result :=
  .next (if low = !s.pins.resetN then s
    else if low then
      (if s.hearth.pState = 3 then (s.powerReset 6 0).modSloe (fun x => { x with cause := x.cause ||| 4#64 })
        else s.moduleReset 2).modPins (fun p => { p with resetN := false })
    else s.modPins (fun p => { p with resetN := true }))

/-- SUPPLY_FAULT (R422): its event goes to the persistent log, then a power reset. While no rail is up there is nothing to fault. -/
def State.supplyFault (s : State) : State :=
  if s.sloe.stage < 2 || s.hearth.pState = 3 then s else (s.raiseSev 0x0627 2 0 0 0).powerReset 5 0x0627

def execSupplyFault (s : State) : Result := .next s.supplyFault

/-! Stage 3: identity key and slot (R276, R371) -/

/-- The identity key d. -/
def Fuses.identity (f : Fuses) : BitVec 256 :=
  let prk := beBytes 32 (hmac (List.replicate 32 0#8) (leBytes 32 f.uds.toNat))
  let info := ascii "ODID" ++ leBytes 8 f.serial.toNat
  let t1 := beBytes 32 (hmac prk (info ++ [1#8]))
  let t2 := beBytes 32 (hmac prk (t1 ++ info ++ [2#8]))
  BitVec.ofNat 256 (privOf (beNat (t1 ++ t2.take 8)))

/-- Step of R276: the candidate that has failed three times is dropped. -/
def Flash.dropCand (f : Flash) : Flash := if f.cand.isSome && 3 ≤ f.tries then f.writeRec f.active none f.tries else f

/-- The slots in the order in which the ROM tries them. -/
def Flash.order (f : Flash) : List Nat :=
  match f.cand with
  | some c => [c, f.active]
  | none => [f.active, 1 - f.active]

/-- The ROM's choice: a slot that runs, or recovery mode. -/
def State.boot (s : State) : State :=
  let s := s.modFlash (fun f => f.readRec.dropCand)
  match s.flash.order.find? (fun n => s.fwCheck (s.fwSlot n) == 0) with
  | some n =>
    let s := if s.flash.cand = some n then s.modFlash (fun f => f.writeRec f.active f.cand (f.tries + 1)) else s
    s.modHearth (fun h => { h with bootSlot := n, recovery := false })
  | none => s.modHearth (fun h => { h with recovery := true })

/-! Stage 4 (R373, R374, R417, Table 16.5) -/

/-- LNK_CTL with its reset values, 8 lanes on SA and SB, and ENABLE (R417). -/
def State.startPort (s : State) (p : Nat) : State :=
  let ctl := Port.zero.ctl
  let ctl := if 6 ≤ p then putFld ctl 28 27 2 else ctl
  ((s.newInstance p).writeLnkCtl p (ctl ||| 0x80000000#32)).1

/-- The components of Table 14.1 are loaded and measured: the running slot's body, and what it holds for the engines (R374, log 16). -/
def State.loadComponents (s : State) : State :=
  let body := (s.fwSlot s.hearth.bootSlot).body
  let s := s.modHearth (fun h => { h with
    loaded := loadedIds.foldl (fun m i => m.set [] i (if i = 2 then body else Config.component i body)) [] })
  s.modHearth (fun h => { h with measured := true, measures := loadedIds.foldl (fun m i => m.set 0#256 i (s.measureOf i)) [] })

/-- The serial number as 16 upper-case hexadecimal digits (R373). -/
def Fuses.serialName (f : Fuses) : List Byte :=
  (List.range 16).map (fun i =>
    let d := fld f.serial (63 - 4 * i) (60 - 4 * i)
    BitVec.ofNat 8 (if d < 10 then 48 + d else 55 + d))

/-- The device certificate carries this module's identity and chains to the root (R373). -/
def State.chainOk (s : State) : Bool :=
  match s.flash.certs with
  | c :: _ => c.key == pubOf s.sloe.idKey.toNat && c.name == s.fuses.serialName && s.chainRooted s.flash.certs
  | [] => false

/-- The work of stage 4: firmware measured, the chain checked, fuses caught up, the link region started, ports enabled. -/
def State.firmwareUp (s : State) (align : Bool) : State :=
  let s := (s.modHearth (fun h => { h with sfuTables := true, teleAt := s.clk.wall })).loadComponents
  let s := if s.chainOk then s else s.alarm1 8 0x0517
  let s := if s.flash.active = s.hearth.bootSlot && !s.trial then s.blowSvn else s
  if s.sloe.latched then s
  else
    let s := s.modClk (fun c => { c with linkRun := true, aligned := true })
    let s := if align then s else s.alignFails
    iter 8 s (fun p s => s.startPort p)

/-! Stage 5 (R256, R298) -/

/-- Every scrub record is completed (R298). Without random words for the keys the records stay, and no context is admitted (R384,
log 13). -/
def State.finishScrubs (s : State) : State :=
  if s.flash.scrub.isEmpty then s
  else if !s.hearth.entropyOk then (s.modHearth (fun h => { h with noAdmit := 0x050D })).raise 0x050D 0 0 0
  else (s.flash.scrub.foldl (fun (s : State) e => s.scrubFill e.1 e.2) s).modFlash (fun f => { f with scrub := [] })

/-- The stacks of `ok` pass; a stack that fails is absent, and the module admits no context (R256). -/
def State.trainStacks (s : State) (ok : Byte) : State :=
  let s := s.modCel (fun c => { c with stacksOk := ok, ready := ok == 0xFF#8, reason := if ok = 0xFF#8 then c.reason else 0x0615 })
  if ok = 0xFF#8 then s
  else (iter 8 s (fun i s => if bitOf ok i then s else s.raise 0x0615 3 i 0)).modHearth (fun h => { h with noAdmit := 0x0615 })

/-- The work of stage 5: SRAM zeroed, stacks trained, scrubs completed. -/
def State.memoryUp (s : State) (stackOks : Byte) (align : Bool) : State :=
  let s := s.clearResident.trainStacks stackOks
  let s := if stackOks = 0xFF#8 then s.finishScrubs else s
  if align then s else s.alignFails

/-! Stages (R415, R416, Table 16.2) -/

def State.toStage (s : State) (n : Nat) : State := s.modSloe (fun x => { x with stage := n, stageAt := s.clk.wall })

/-- READY: all commands are served. -/
def State.readyUp (s : State) : State := (s.modHearth (fun h => { h with ready := true, idleFrom := s.clk.wall })).regionsOn

/-- The work of the current stage is done: `stackOks` names the stacks that pass in stage 5, `align` says whether crossings align. -/
def State.stageDone (s : State) (stackOks : Byte) (align : Bool) : State :=
  match s.sloe.stage with
  | 0 => if s.sloe.strapped && s.pins.vaux then s.toStage 1 else s
  | 1 => if s.pins.porstN then s.toStage 2 else s
  | 2 => (s.modPins (fun p => { p with pwrOk := true })).toStage 3
  | 3 =>
    if !s.pins.resetN || s.hearth.recovery then s
    else
      let s := (s.modSloe (fun x => { x with idKey := s.fuses.identity })).boot
      if s.hearth.recovery then s else s.toStage 4
  | 4 =>
    if s.hearth.noAdmit = 0x0310 || s.hearth.ready || s.hearth.wedged then s
    else
      let s := s.firmwareUp align
      if s.sloe.latched then s.readyUp else s.toStage 5
  | 5 =>
    if s.hearth.noAdmit = 0x0310 || s.hearth.ready || s.hearth.wedged then s
    else if s.sloe.latched then s.readyUp
    else (s.memoryUp stackOks align).readyUp.toStage 6
  | _ => s

/-- BRING_UP_STAGE (R416). -/
def execBringUpStage (stackOks : Byte) (align : Bool) (s : State) : Result := .next (s.stageDone stackOks align)

/-- The limit of the current stage; none where it has none. -/
def State.stageLimit (s : State) : Option Nat :=
  match s.sloe.stage with
  | 2 => some (quMs 20)
  | 4 => some (quMs 200)
  | 5 => some (quMs 1000 + s.flash.scrub.length * quUs 25500)
  | _ => none

/-- STAGE_TIMEOUT (R416): stage 2 ends in a supply fault; stages 4 and 5 serve commands and admit no context. -/
def execStageTimeout (s : State) : Result :=
  .next (match s.stageLimit with
    | some n =>
      if s.clk.wall < s.sloe.stageAt + n || s.hearth.ready then s
      else if s.sloe.stage = 2 then s.supplyFault
      else (((s.modHearth (fun h => { h with noAdmit := 0x0310 })).raise 0x0310 0 0 s.sloe.stage)).readyUp
    | none => s)

/-! Heat (R424) -/

/-- THERMAL_TRIP (R424). -/
def execThermalTrip (s : State) : Result :=
  let s := (s.modClk (fun c => { c with cluRun := [], celRun := false })).endJob 0x0626
  let s := s.modHearth (fun h => { h with thermal := true, pState := if h.pState = 0 then 1 else h.pState })
  .next ((s.raise 0x0626 0 0 0).runRegions)

/-! The management port (R436) -/

/-- MANAGEMENT_MODE_TRY (R436): a mode has been tried for its second; `ok` says whether it links. -/
def execManagementModeTry (ok : Bool) (s : State) : Result :=
  .next (if s.tim.linked || s.sloe.stage < 4 || s.hearth.pState = 3 then s
    else if ok then s.modTim (fun t => { t with linked := true })
    else s.modTim (fun t => { t with mode := (t.mode + 1) % 3 }))

end Sys2Proof.Machine
end

