-- ==== Sys2Proof/Machine/Tap.lean ====
section
/-! DEFINITION. The fabric taps: departure reads (R158, R159, R161) and landing writes (R22, R166, R167). -/

namespace Sys2Proof.Machine

/-- SHARE of a departure's origin entry (R158). -/
def State.depShare (s : State) (d : Departure) : Nat := max 1 (rtShare (s.route d.route))

/-- The departure beat of a departure's next cell (R158). -/
def State.depBeat (s : State) (d : Departure) : Nat := d.dep + d.done / s.depShare d

/-- The spine takes a cell for every out-port of the route: no slip buffer is full (R169). -/
def State.portsTake (s : State) (e : W32) : Bool := (rtOut e).all (fun q => (s.port q).slip.length < 64)

/-- The departure whose next cell the tap reads next (R159), among those not in `skip`: the least departure beat, then route,
then cell index. -/
def State.nextDep (s : State) (k : Nat) (skip : List Departure) : Option Departure :=
  let ready := (s.cluster k).deps.filter (fun d =>
    d.done < d.n && s.depBeat d ≤ s.clk.beat && d.issue ≤ s.clk.beat && !skip.contains d && s.portsTake (s.route d.route))
  let key (d : Departure) : Nat := s.depBeat d * 2 ^ 48 + d.route * 2 ^ 24 + (d.cidx + d.done)
  ready.foldl (fun acc d => match acc with
    | none => some d
    | some x => if key d < key x then some d else acc) none

/-- The tap reads the next cell of a departure: copies go to the out-ports and, for a multicast that lands at its origin, into
this module (R139, R161); after the last cell the counter advances in the following beat (R139). -/
def State.readCell (s : State) (k : Nat) (d : Departure) : State :=
  let n := 8 * k + d.core
  let a := d.src + 64 * d.done
  let b := s.clk.beat
  let e := s.route d.route
  let dep := s.depBeat d
  let (s, bytes) := ((s.takeBanks n a 64).tapTake k true 1).sramRead n a 64
  let s := match bytes with
    | none => s
    | some bs =>
      let c : Cell := ⟨0#2, BitVec.ofNat 40 ((d.cidx + d.done) % 2 ^ 20 * 2 ^ 20 + d.route % 2 ^ 16 * 2 ^ 4), BitVec.ofNat 512 (leNat bs)⟩
      let s := (rtOut e).foldl (fun (s : State) q => s.offerSched q ⟨c, dep, b + 85, dep + 85, ownSource, false⟩) s
      if rtLand e && !s.pan.fenced then s.landCopy e c ((rtOut e).headD 0) (b + 95) true else s
  let last : Bool := d.n ≤ d.done + 1
  let next (l : List Departure) : List Departure :=
    if last then l.erase d else l.map (fun y => if y = d then { d with done := d.done + 1 } else y)
  let s := s.modCluster k (fun x => { x with deps := next x.deps })
  if last then
    s.modCoreN n (fun c => { c with
      open_ := c.open_ - 1
      acts := c.acts ++ [⟨b + 1, b, 4, 0, false, if d.ccen then .ccAdd d.cc 1#32 else .flagsOnly, none, 0#4⟩] })
  else s

/-- At most `left` reads of one beat, in at most `fuel` tries; a departure whose bank is taken waits (R71, R159). -/
def State.tapBeat (s : State) (k : Nat) : Nat → Nat → List Departure → State
  | 0, _, _ => s
  | _, 0, _ => s
  | fuel + 1, left + 1, skip =>
    match s.nextDep k skip with
    | none => s
    | some d =>
      if s.banksFree (8 * k + d.core) (d.src + 64 * d.done) 64 then (s.readCell k d).tapBeat k fuel left skip
      else s.tapBeat k fuel (left + 1) (d :: skip)

/-- TAP_DEPARTURE_READ (R159): the tap's reads of one beat, up to 8 cells with all other outward traffic (R21). -/
def execTapDepartureRead (k : Fin 100) (s : State) : Result := .next (s.tapBeat k.val 40 (s.tapRoom k.val true) [])

/-- Write one landing (R166): payload and counter in one beat; a chunk of a mover counts as moved (Table 9.11), a reply's data cell
belongs to its piece. -/
def State.landOne (s : State) (k : Nat) (l : Landing) : State :=
  let s := (s.modCluster k (fun x => { x with landQ := x.landQ.erase l })).tapTake k false 1
  let write (s : State) : State := ((s.takeBanks l.core l.addr l.len).sramWrite l.core l.addr (leBytes l.len l.payload.toNat)).1
  match l.kind with
  | .cell p _ =>
    let s := ((write s).incCC l.core l.cc 1).modCluster k (fun x => { x with landed := x.landed.upd 0 l.entry (· + 1) })
    match p with
    | some q => s.pressures q
    | none => s
  | .mover _ => ((write s).incCC l.core l.cc 1).bump 5 0x0B8 1
  | .reply rid place => s.replyWrite rid place l.core l.addr (leBytes l.len l.payload.toNat)

/-- LANDING_WRITE (R22, R167): as many of the tap's 64 queued cells whose banks are free, oldest first, as the tap moves in a beat. A
fenced module lands no cell (R175). -/
def execLandingWrite (k : Fin 100) (s : State) : Result :=
  .next (((s.landDue k.val).take 64).foldl (fun (s : State) l =>
    if (s.pan.fenced && l.kind.rank == 0) || s.tapRoom k.val false = 0 || !s.banksFree l.core l.addr l.len then s
    else s.landOne k.val l) s)

end Sys2Proof.Machine
end

