-- ==== Sys2Proof/Machine/TestPort.lean ====
section
/-! DEFINITION. The IEEE 1149.1 test port (R407, R438, Table 17.10). -/

namespace Sys2Proof.Machine

/-- The next controller state for TMS. -/
def TapState.step : TapState → Bool → TapState
  | .reset, m => if m then .reset else .idle
  | .idle, m => if m then .selDr else .idle
  | .selDr, m => if m then .selIr else .capDr
  | .capDr, m => if m then .ex1Dr else .shDr
  | .shDr, m => if m then .ex1Dr else .shDr
  | .ex1Dr, m => if m then .updDr else .pauDr
  | .pauDr, m => if m then .ex2Dr else .pauDr
  | .ex2Dr, m => if m then .updDr else .shDr
  | .updDr, m => if m then .selDr else .idle
  | .selIr, m => if m then .reset else .capIr
  | .capIr, m => if m then .ex1Ir else .shIr
  | .shIr, m => if m then .ex1Ir else .shIr
  | .ex1Ir, m => if m then .updIr else .pauIr
  | .pauIr, m => if m then .ex2Ir else .pauIr
  | .ex2Ir, m => if m then .updIr else .shIr
  | .updIr, m => if m then .selDr else .idle

/-- EXTEST is in force: it is refused while a job runs. -/
def State.extest (s : State) : Bool := s.jtag.ir == 0#8 && s.jobState != 1

/-- IDCODE. -/
def Fuses.idcode (f : Fuses) : Nat :=
  (if f.b0 then 2 else 1) * 2 ^ 28 + (if f.od720 then 0x720 else 0x800) * 2 ^ 12 + 0x4B9 * 2 + 1

/-- Levels of the slow-signal lands in the order of Table 17.3. -/
def State.lands (s : State) : List Bool :=
  let p := s.pins
  (List.range 17).map (bitOf p.straps) ++
    [p.resetN, p.porstN, p.pwrOk, p.alarmN, p.ppsIn, p.pulse0, p.pulse1, p.tck, p.tms, p.tdi, p.tdo.getD false, p.trstN]

/-- Level of output land `i`: EXTEST drives it from the boundary register. -/
def State.landOut (s : State) (i : Nat) : Bool := if s.extest then bitOf s.jtag.bnd i else s.lands.getD i false

def bitList (n x : Nat) : List Bool := (List.range n).map (fun i => x.testBit i)
def bitsNat (l : List Bool) : Nat := l.foldr (fun b a => b2n b + 2 * a) 0

/-- The data register that the instruction selects, as Capture-DR loads it. -/
def State.capture (s : State) : List Bool :=
  if s.jtag.ir = 1#8 then bitList 32 s.fuses.idcode
  else if s.jtag.ir = 2#8 || s.extest then s.lands
  else [false]

/-- The bit of a scan on path 1 that is next to go out (R407): byte by byte, least significant bit first. -/
def Dbg.scanHead (d : Dbg) : Bool :=
  match d.scan, d.scanPath with
  | some (x :: _), 1 => x.getLsbD d.scanBit
  | _, _ => false

/-- One bit of a scan on path 1 has gone out. -/
def State.scanShift (s : State) : State :=
  match s.dbg.scan, s.dbg.scanPath with
  | some (_ :: rest), 1 =>
    if s.dbg.scanBit < 7 then s.modDbg (fun d => { d with scanBit := d.scanBit + 1 })
    else
      let s := s.modDbg (fun d => { d with scanBit := 0, scan := some rest, scanSent := d.scanSent + 1 })
      if rest.isEmpty then s.scanDone else s
  | _, _ => s

/-- SCAN is selected. -/
def Jtag.isScan (j : Jtag) : Bool := j.ir == 0x20#8

/-- The rising edge of TCK: capture and shift. -/
def State.tapRise (s : State) (tdi : Bool) : State :=
  match s.jtag.st with
  | .capDr => s.modJtag (fun j => { j with dr := s.capture })
  | .shDr =>
    if s.jtag.isScan then s.scanShift else s.modJtag (fun j => { j with dr := j.dr.drop 1 ++ [tdi] })
  | .capIr => s.modJtag (fun j => { j with irSh := 1#8 })
  | .shIr => s.modJtag (fun j => { j with irSh := BitVec.ofNat 8 (j.irSh.toNat / 2 + b2n tdi * 128) })
  | _ => s

/-- The falling edge in the state entered: update, reset, TDO. -/
def State.tapFall (s : State) : State :=
  let s := match s.jtag.st with
    | .updIr => s.modJtag (fun j => { j with ir := j.irSh })
    | .updDr => if s.jtag.ir = 2#8 || s.extest then s.modJtag (fun j => { j with bnd := BitVec.ofNat 29 (bitsNat j.dr) }) else s
    | .reset => s.modJtag (fun j => { j with ir := 1#8 })
    | _ => s
  let out : Option Bool := match s.jtag.st with
    | .shDr => some (if s.jtag.isScan then s.dbg.scanHead else s.jtag.dr.headD false)
    | .shIr => some (bitOf s.jtag.irSh 0)
    | _ => none
  s.modPins (fun p => { p with tdo := out })

/-- TAP_TCK (R438): one period of TCK with the levels of TRST_N, TMS and TDI. -/
def execTapTck (trstN tms tdi : Bool) (s : State) : Result :=
  let s := s.modPins (fun p => { p with trstN := trstN, tms := tms, tdi := tdi })
  .next (if !s.pins.vaux then s
    else if !trstN || s.held then
      (s.modJtag (fun j => { j with st := .reset, ir := 1#8, dr := [] })).modPins (fun p => { p with tdo := none })
    else ((s.tapRise tdi).modJtag (fun j => { j with st := j.st.step tms })).tapFall)

end Sys2Proof.Machine
end

