-- ==== Sys2Proof/Machine/Vector.lean ====
section
/-! DEFINITION. The V slot but for VSAMP: arithmetic, compare, lane movement, conversion, special functions and reductions
(R120 to R135). -/

namespace Sys2Proof.Machine

/-! Shared forms -/

/-- Issue a V-slot instruction that names vector registers `named` in group `g` and is otherwise `legal` (R62, R122). -/
def State.vIssue (s : State) (c : CoreRef) (g p : BitVec 4) (legal : Bool) (named : List (BitVec 6)) (reads : List Res)
    (f : State → State) : State :=
  s.issue c 2 ((s.core c).groupOk g named && legal) (.p p :: reads) f

/-- ARITH of Table 15.2 for the selected elements of a floating-point type. -/
def State.arithOps (s : State) (n : Nat) (f : Fmt) (p : Pred) : State :=
  match f with
  | .bf16 => s.ops n 0x68 (2 * popLanes p)
  | .fp16 => s.ops n 0x70 (2 * popLanes p)
  | .fp32 => s.ops n 0x78 (popLanes p)
  | _ => s

/-- The index of a format in Tables 5.3 and 15.2. -/
def fmtIx : Fmt → Nat
  | .e4m3 => 0 | .e5m2 => 1 | .e2m3 => 2 | .e2m1 => 3 | .int8 => 4 | .bf16 => 5 | .fp16 => 6 | .fp32 => 7 | .int32 => 8

/-- CONV of Table 15.2. -/
def State.convOps (s : State) (n : Nat) (f : Fmt) (d : Nat) : State := if fmtIx f < 8 then s.ops n (0x80 + 8 * fmtIx f) d else s

/-- A value for every selected element of the type, with its draw (R123, R124). -/
def State.perElem (s : State) (k : Core) (g p : BitVec 4) (f : Fmt) (rm : Rm) (op : Nat → Nat → Nat × Flags) :
    VecReg × VecReg × Flags :=
  if f.wid = 16 then lanes16 (k.p p) (fun l h => op (2 * l + h) (s.vDraw k g rm (2 * l + h)))
  else lanes (k.p p) (fun l => op l (s.vDraw k g rm l))

/-- The latency of R125's forms by type (Table 5.2). -/
def arithLat (op : ArithOp) (f : Fmt) : Nat :=
  match op, f with
  | .min, _ => 2
  | .max, _ => 2
  | .mul, _ => 4
  | _, .int32 => 2
  | _, _ => 4

/-- The forms of R125 with two sources. -/
def State.vArith (s : State) (c : CoreRef) (g p : BitVec 4) (vd va vb : BitVec 6) (t rm : BitVec 2) (op : ArithOp) : State :=
  let f := tFmt t
  let rounds : Bool := f != .int32 && op != .min && op != .max
  s.vIssue c g p (if rounds then rm != 3#2 else rm == 0#2) [vd, va, vb] [.v va, .v vb] (fun s =>
    let k := s.core c
    let r := rmOf rm
    let res := s.perElem k g p f r (fun e u =>
      let x := elem (k.v va) f e
      let y := elem (k.v vb) f e
      if f = .int32 then (intArith op x y, 0#4) else fpArith f op r u x y)
    s.wrV c (arithLat op f) vd res (if rounds then some g.toNat else none) (fun s =>
      (s.modCore c (fun k => k.bumpRseq g r)).arithOps c.ix f (k.p p)))

/-- VABS and VNEG (R125). -/
def State.vSign (s : State) (c : CoreRef) (g p : BitVec 4) (vd va : BitVec 6) (t rm : BitVec 2) (neg : Bool) : State :=
  let f := tFmt t
  s.vIssue c g p (rm == 0#2) [vd, va] [.v va] (fun s =>
    let k := s.core c
    let res := s.perElem k g p f .rne (fun e _ => (signOp f neg (elem (k.v va) f e), 0#4))
    s.wrV c 2 vd res none (fun s => s.arithOps c.ix f (k.p p)))

/-- The fused forms (R126). -/
def State.vFused (s : State) (c : CoreRef) (g p : BitVec 4) (vd va vb vc : BitVec 6) (rm : BitVec 2) (f : Fmt) (negP negC : Bool) :
    State :=
  s.vIssue c g p (rm != 3#2) [vd, va, vb, vc] [.v va, .v vb, .v vc] (fun s =>
    let k := s.core c
    let r := rmOf rm
    let res := s.perElem k g p f r (fun e u =>
      fusedOp f r u negP negC (elem (k.v va) f e) (elem (k.v vb) f e) (elem (k.v vc) f e))
    s.wrV c 4 vd res (some g.toNat) (fun s => (s.modCore c (fun k => k.bumpRseq g r)).arithOps c.ix f (k.p p)))

/-- The logic and shift forms (R127). -/
def State.vLogic (s : State) (c : CoreRef) (g p : BitVec 4) (vd va vb : BitVec 6) (t rm : BitVec 2) (op : W32 → W32 → W32) : State :=
  s.vIssue c g p (t == 3#2 && rm == 0#2) [vd, va, vb] [.v va, .v vb] (fun s =>
    let k := s.core c
    let res := lanes (k.p p) (fun l =>
      ((op (BitVec.ofNat 32 (lane (k.v va) l)) (BitVec.ofNat 32 (lane (k.v vb) l))).toNat, 0#4))
    s.wrV c 2 vd res none)

/-- The elements that predicate `p` selects, in increasing element index (R135). -/
def selected (f : Fmt) (p : Pred) (x : VecReg) : List Nat :=
  ((List.range 256).filter (fun l => p.getLsbD l)).flatMap (fun l =>
    if f.wid = 16 then [elem x f (2 * l), elem x f (2 * l + 1)] else [elem x f l])

/-- The lane reductions (R135). -/
def State.vReduce (s : State) (c : CoreRef) (g p : BitVec 4) (vd va : BitVec 6) (t rm : BitVec 2) (op : RedOp) : State :=
  let f := tFmt t
  s.vIssue c g p (rm == 0#2) [vd, va] [.v va] (fun s =>
    s.enter c 2 .red 2 (fun start s =>
      let k := s.core c
      let (r, fl) := reduceList f op (selected f (k.p p) (k.v va))
      let all := if f.wid = 16 then r + r * 2 ^ 16 else r
      let x : VecReg := BitVec.ofNat 8192 (packBits 32 (List.replicate 256 all))
      s.wrV c (start - s.clk.beat + (if f.wid = 16 then 11 else 10)) vd (x, allLanes, fl)
        (if op = .sum then some g.toNat else none)))

/-! Meanings -/

/-- VNOP (R87): reads nothing, writes nothing. -/
def execVnop (_c : CoreRef) (s : State) : Result := .next s

/-- VADD (R125). -/
def execVadd (c : CoreRef) (g p : BitVec 4) (vd va vb : BitVec 6) (t rm : BitVec 2) (s : State) : Result :=
  .next (s.vArith c g p vd va vb t rm .add)

/-- VSUB (R125). -/
def execVsub (c : CoreRef) (g p : BitVec 4) (vd va vb : BitVec 6) (t rm : BitVec 2) (s : State) : Result :=
  .next (s.vArith c g p vd va vb t rm .sub)

/-- VMUL (R125). -/
def execVmul (c : CoreRef) (g p : BitVec 4) (vd va vb : BitVec 6) (t rm : BitVec 2) (s : State) : Result :=
  .next (s.vArith c g p vd va vb t rm .mul)

/-- VMIN (R125). -/
def execVmin (c : CoreRef) (g p : BitVec 4) (vd va vb : BitVec 6) (t rm : BitVec 2) (s : State) : Result :=
  .next (s.vArith c g p vd va vb t rm .min)

/-- VMAX (R125). -/
def execVmax (c : CoreRef) (g p : BitVec 4) (vd va vb : BitVec 6) (t rm : BitVec 2) (s : State) : Result :=
  .next (s.vArith c g p vd va vb t rm .max)

/-- VABS (R125). -/
def execVabs (c : CoreRef) (g p : BitVec 4) (vd va : BitVec 6) (t rm : BitVec 2) (s : State) : Result :=
  .next (s.vSign c g p vd va t rm false)

/-- VNEG (R125). -/
def execVneg (c : CoreRef) (g p : BitVec 4) (vd va : BitVec 6) (t rm : BitVec 2) (s : State) : Result :=
  .next (s.vSign c g p vd va t rm true)

/-- VFMA (R126). -/
def execVfma (c : CoreRef) (g p : BitVec 4) (vd va vb vc : BitVec 6) (rm : BitVec 2) (s : State) : Result :=
  .next (s.vFused c g p vd va vb vc rm .fp32 false false)

/-- VFMS (R126). -/
def execVfms (c : CoreRef) (g p : BitVec 4) (vd va vb vc : BitVec 6) (rm : BitVec 2) (s : State) : Result :=
  .next (s.vFused c g p vd va vb vc rm .fp32 false true)

/-- VFNMA (R126). -/
def execVfnma (c : CoreRef) (g p : BitVec 4) (vd va vb vc : BitVec 6) (rm : BitVec 2) (s : State) : Result :=
  .next (s.vFused c g p vd va vb vc rm .fp32 true false)

/-- VFMA.B (R126). -/
def execVfmaB (c : CoreRef) (g p : BitVec 4) (vd va vb vc : BitVec 6) (rm : BitVec 2) (s : State) : Result :=
  .next (s.vFused c g p vd va vb vc rm .bf16 false false)

/-- VFMS.B (R126). -/
def execVfmsB (c : CoreRef) (g p : BitVec 4) (vd va vb vc : BitVec 6) (rm : BitVec 2) (s : State) : Result :=
  .next (s.vFused c g p vd va vb vc rm .bf16 false true)

/-- VFNMA.B (R126). -/
def execVfnmaB (c : CoreRef) (g p : BitVec 4) (vd va vb vc : BitVec 6) (rm : BitVec 2) (s : State) : Result :=
  .next (s.vFused c g p vd va vb vc rm .bf16 true false)

/-- VFMA.H (R126). -/
def execVfmaH (c : CoreRef) (g p : BitVec 4) (vd va vb vc : BitVec 6) (rm : BitVec 2) (s : State) : Result :=
  .next (s.vFused c g p vd va vb vc rm .fp16 false false)

/-- VFMS.H (R126). -/
def execVfmsH (c : CoreRef) (g p : BitVec 4) (vd va vb vc : BitVec 6) (rm : BitVec 2) (s : State) : Result :=
  .next (s.vFused c g p vd va vb vc rm .fp16 false true)

/-- VFNMA.H (R126). -/
def execVfnmaH (c : CoreRef) (g p : BitVec 4) (vd va vb vc : BitVec 6) (rm : BitVec 2) (s : State) : Result :=
  .next (s.vFused c g p vd va vb vc rm .fp16 true false)

/-- VAND (R127). -/
def execVand (c : CoreRef) (g p : BitVec 4) (vd va vb : BitVec 6) (t rm : BitVec 2) (s : State) : Result :=
  .next (s.vLogic c g p vd va vb t rm (fun x y => x &&& y))

/-- VOR (R127). -/
def execVor (c : CoreRef) (g p : BitVec 4) (vd va vb : BitVec 6) (t rm : BitVec 2) (s : State) : Result :=
  .next (s.vLogic c g p vd va vb t rm (fun x y => x ||| y))

/-- VXOR (R127). -/
def execVxor (c : CoreRef) (g p : BitVec 4) (vd va vb : BitVec 6) (t rm : BitVec 2) (s : State) : Result :=
  .next (s.vLogic c g p vd va vb t rm (fun x y => x ^^^ y))

/-- VSHL (R127). -/
def execVshl (c : CoreRef) (g p : BitVec 4) (vd va vb : BitVec 6) (t rm : BitVec 2) (s : State) : Result :=
  .next (s.vLogic c g p vd va vb t rm (fun x y => x <<< (y.toNat % 32)))

/-- VSHR (R127). -/
def execVshr (c : CoreRef) (g p : BitVec 4) (vd va vb : BitVec 6) (t rm : BitVec 2) (s : State) : Result :=
  .next (s.vLogic c g p vd va vb t rm (fun x y => x >>> (y.toNat % 32)))

/-- VSRA (R127). -/
def execVsra (c : CoreRef) (g p : BitVec 4) (vd va vb : BitVec 6) (t rm : BitVec 2) (s : State) : Result :=
  .next (s.vLogic c g p vd va vb t rm (fun x y => x.sshiftRight (y.toNat % 32)))

/-- Write predicate bits: bit `l` where `p` selects it (R128, R130). -/
def State.wrP (s : State) (c : CoreRef) (pd : BitVec 4) (p : Pred) (f : Nat → Bool) : State :=
  let x : Pred := BitVec.ofNat 256 (packBits 1 ((List.range 256).map (fun l => b2n (f l))))
  s.post c 2 [⟨s.clk.beat + 1, .preg pd.toNat x p, none, 0#4⟩] id

/-- VCMP (R128). -/
def execVcmp (c : CoreRef) (g p pd : BitVec 4) (va vb : BitVec 6) (t : BitVec 2) (cond : BitVec 3) (h : BitVec 1) (s : State) :
    Result :=
  let f := tFmt t
  .next (s.vIssue c g p (cond != 7#3 && !(t == 3#2 && cond == 6#3) && (f.wid == 16 || h == 0#1)) [va, vb] [.v va, .v vb] (fun s =>
    let k := s.core c
    let ix (l : Nat) : Nat := if f.wid = 16 then 2 * l + h.toNat else l
    s.wrP c pd (k.p p) (fun l => cmpOp f cond.toNat (elem (k.v va) f (ix l)) (elem (k.v vb) f (ix l)))))

/-- VSEL (R129): the predicate selects a source for every lane. -/
def execVsel (c : CoreRef) (g p : BitVec 4) (vd va vb : BitVec 6) (t rm : BitVec 2) (s : State) : Result :=
  .next (s.vIssue c g p (t == 0#2 && rm == 0#2) [vd, va, vb] [.v va, .v vb] (fun s =>
    let k := s.core c
    let m := (lanes (k.p p) (fun _ => (0, 0#4))).2.1
    s.wrV c 2 vd (blend (k.v vb) (k.v va) m, allLanes, 0#4) none))

/-- VBCAST (R129). -/
def execVbcast (c : CoreRef) (g p : BitVec 4) (vd a : BitVec 6) (s : State) : Result :=
  .next (s.vIssue c g p true [vd] [.s a] (fun s =>
    let k := s.core c
    s.wrV c 2 vd (lanes (k.p p) (fun _ => ((k.s a).toNat % 2 ^ 32, 0#4))) none))

/-- VGETL (R129). -/
def execVgetl (c : CoreRef) (g p : BitVec 4) (d va : BitVec 6) (lane_ : BitVec 8) (s : State) : Result :=
  .next (s.vIssue c g p (p == 0#4) [va] [.v va] (fun s =>
    s.wrS c 2 2 d (BitVec.ofNat 64 (lane ((s.core c).v va) lane_.toNat))))

/-- VIOTA (R129). -/
def execViota (c : CoreRef) (g p : BitVec 4) (vd : BitVec 6) (s : State) : Result :=
  .next (s.vIssue c g p true [vd] [] (fun s =>
    s.wrV c 2 vd (lanes ((s.core c).p p) (fun l => (l, 0#4))) none))

/-- VSHUF (R129). -/
def execVshuf (c : CoreRef) (g p : BitVec 4) (vd va vb : BitVec 6) (s : State) : Result :=
  .next (s.vIssue c g p true [vd, va, vb] [.v va, .v vb] (fun s =>
    let k := s.core c
    s.wrV c 3 vd (lanes (k.p p) (fun l => (lane (k.v va) (lane (k.v vb) l % 256), 0#4))) none))

/-- The operations of R130. -/
def plogicBit (fn : Nat) (x y : Bool) : Bool :=
  match fn with
  | 0 => x && y
  | 1 => x || y
  | 2 => x != y
  | 3 => x && !y
  | _ => !x

/-- PLOGIC (R130). -/
def execPlogic (c : CoreRef) (g p pd pa pb : BitVec 4) (fn : BitVec 3) (s : State) : Result :=
  .next (s.vIssue c g p (fn.toNat ≤ 4) [] (.p pa :: if fn = 4#3 then [] else [.p pb]) (fun s =>
    let k := s.core c
    s.wrP c pd (k.p p) (fun l => plogicBit fn.toNat ((k.p pa).getLsbD l) ((k.p pb).getLsbD l))))

/-- A format narrower than 32 bits (R131). -/
def fmtNarrow (f : Fmt) : Bool := f.wid < 32

/-- Part numbers of a format (Table 5.3). -/
def fmtParts (f : Fmt) : Nat := 32 / f.wid

/-- The conversions of R131. -/
def cvtOk (sf df : Option Fmt) (q : Nat) (sat rm : Nat) : Bool :=
  match sf, df with
  | some a, some b =>
    a != b && rm != 3 &&
      (if fmtNarrow b then a == .fp32 && q < fmtParts b && (sat == 0 || !b.alwaysSat)
       else if fmtNarrow a then b == .fp32 && q < fmtParts a && rm == 0 && sat == 0
       else q == 0 && sat == 0)
  | _, _ => false

/-- VCVT (R131). -/
def execVcvt (c : CoreRef) (g p : BitVec 4) (vd va : BitVec 6) (sf df : BitVec 4) (q : BitVec 3) (sat : BitVec 1) (rm : BitVec 2)
    (s : State) : Result :=
  let a := Fmt.ofCode sf.toNat
  let b := Fmt.ofCode df.toNat
  .next (s.vIssue c g p (cvtOk a b q.toNat sat.toNat rm.toNat) [vd, va] [.v va] (fun s =>
    let k := s.core c
    let r := rmOf rm
    let x := k.v va
    let sfm := a.getD .fp32
    let dfm := b.getD .fp32
    let res :=
      if fmtNarrow dfm then
        elems dfm (k.p p) (256 * q.toNat) ((List.range 256).map (fun l =>
          roundTo dfm r (sat == 1#1) (s.vDraw k g r l) (Fmt.fp32.decode (lane x l))))
      else if fmtNarrow sfm then
        lanes (k.p p) (fun l => roundTo .fp32 .rne false 0 (sfm.decode (elem x sfm (256 * q.toNat + l))))
      else if dfm = .int32 then
        lanes (k.p p) (fun l => toInt32 r (s.vDraw k g r l) (Fmt.fp32.decode (lane x l)))
      else
        lanes (k.p p) (fun l => roundTo .fp32 r false (s.vDraw k g r l) (Fmt.int32.decode (lane x l)))
    s.wrV c 3 vd res (if fmtNarrow sfm then none else some g.toNat) (fun s =>
      (s.modCore c (fun k => k.bumpRseq g r)).convOps c.ix dfm (popLanes (k.p p)))))

/-- VMXQ (R132). -/
def execVmxq (c : CoreRef) (g p : BitVec 4) (vd va vc : BitVec 6) (df q : BitVec 3) (rm : BitVec 2) (s : State) : Result :=
  let f := (Fmt.ofCode df.toNat).getD .e4m3
  .next (s.vIssue c g p (p == 0#4 && vd != vc && df.toNat ≤ 4 && q.toNat < fmtParts f && rm != 3#2) [vd, va, vc] [.v va] (fun s =>
    let k := s.core c
    let r := rmOf rm
    let blk := (List.range 8).map (fun b =>
      mxQuantise f r ((List.range 32).map (fun i => lane (k.v va) (32 * b + i))) (fun i => s.vDraw k g r (32 * b + i)))
    let fl := blk.foldl (fun acc x => acc ||| x.2.2) 0#4
    let el := elems f (BitVec.allOnes 256) (256 * q.toNat) (blk.flatMap (fun x => x.2.1.map (fun y => (y, 0#4))))
    let sc := elems .int8 (BitVec.allOnes 256) (8 * q.toNat) (blk.map (fun x => (x.1, 0#4)))
    let due := s.clk.beat + 5
    s.post c 2 [⟨due, .vreg vd.toNat el.1 el.2.1, some g.toNat, fl⟩, ⟨due, .vreg vc.toNat sc.1 sc.2.1, none, 0#4⟩] (fun s =>
      (s.modCore c (fun k => k.bumpRseq g r)).convOps c.ix f 256)))

/-- VPK6 (R133). -/
def execVpk6 (c : CoreRef) (g p : BitVec 4) (vd va : BitVec 6) (s : State) : Result :=
  .next (s.vIssue c g p (p == 0#4) [vd, va] [.v va] (fun s =>
    let x := (s.core c).v va
    let y : VecReg := BitVec.ofNat 8192 (packBits 6 ((List.range 1024).map (fun e => elem x .e2m3 e)))
    s.wrV c 3 vd (y, allLanes, 0#4) none))

/-- VUP6 (R133). -/
def execVup6 (c : CoreRef) (g p : BitVec 4) (vd va : BitVec 6) (s : State) : Result :=
  .next (s.vIssue c g p (p == 0#4) [vd, va] [.v va] (fun s =>
    let x := ((s.core c).v va).toNat
    let y : VecReg := BitVec.ofNat 8192 (packBits 8 ((List.range 1024).map (fun e => x / 2 ^ (6 * e) % 64)))
    s.wrV c 3 vd (y, allLanes, 0#4) none))

/-- The latency of the special-function unit (Table 3.2, R78, R151). -/
def State.sfuLat (s : State) : Nat := if s.latA1 then 12 else 10

/-- VSF (R134): illegal while the unit's tables are not loaded (R68). -/
def execVsf (c : CoreRef) (g p : BitVec 4) (vd va : BitVec 6) (fn : BitVec 3) (s : State) : Result :=
  .next (s.vIssue c g p (s.hearth.sfuTables && fn.toNat ≤ 5) [vd, va] [.v va] (fun s =>
    s.enter c 2 .sfu 4 (fun start s =>
      let k := s.core c
      let res := lanes (k.p p) (fun l => sfu fn.toNat (lane (k.v va) l))
      s.wrV c (start - s.clk.beat + s.sfuLat) vd res (some g.toNat) (fun s => s.ops c.ix 0x78 (popLanes (k.p p))))))

/-- VRSUM (R135). -/
def execVrsum (c : CoreRef) (g p : BitVec 4) (vd va : BitVec 6) (t rm : BitVec 2) (s : State) : Result :=
  .next (s.vReduce c g p vd va t rm .sum)

/-- VRMAX (R135). -/
def execVrmax (c : CoreRef) (g p : BitVec 4) (vd va : BitVec 6) (t rm : BitVec 2) (s : State) : Result :=
  .next (s.vReduce c g p vd va t rm .max)

/-- VRMIN (R135). -/
def execVrmin (c : CoreRef) (g p : BitVec 4) (vd va : BitVec 6) (t rm : BitVec 2) (s : State) : Result :=
  .next (s.vReduce c g p vd va t rm .min)

end Sys2Proof.Machine
end

