-- ==== Sys2Proof/Machine/Dispatch.lean ====
section
/-! DEFINITION. One arm per command. -/

namespace Sys2Proof.Machine

open Sys2Proof

def exec (i : Instr) (s : State) : Host.Outcome State Fault Refusal :=
  match i with
  | .nop c => Sys2Proof.Machine.execNop c s
  | .add c d a b => Sys2Proof.Machine.execAdd c d a b s
  | .sub c d a b => Sys2Proof.Machine.execSub c d a b s
  | .and c d a b => Sys2Proof.Machine.execAnd c d a b s
  | .or c d a b => Sys2Proof.Machine.execOr c d a b s
  | .xor c d a b => Sys2Proof.Machine.execXor c d a b s
  | .shl c d a b => Sys2Proof.Machine.execShl c d a b s
  | .shr c d a b => Sys2Proof.Machine.execShr c d a b s
  | .sra c d a b => Sys2Proof.Machine.execSra c d a b s
  | .slt c d a b => Sys2Proof.Machine.execSlt c d a b s
  | .sltu c d a b => Sys2Proof.Machine.execSltu c d a b s
  | .min c d a b => Sys2Proof.Machine.execMin c d a b s
  | .max c d a b => Sys2Proof.Machine.execMax c d a b s
  | .minu c d a b => Sys2Proof.Machine.execMinu c d a b s
  | .maxu c d a b => Sys2Proof.Machine.execMaxu c d a b s
  | .mul c d a b => Sys2Proof.Machine.execMul c d a b s
  | .mulh c d a b => Sys2Proof.Machine.execMulh c d a b s
  | .mulhu c d a b => Sys2Proof.Machine.execMulhu c d a b s
  | .addi c d a imm => Sys2Proof.Machine.execAddi c d a imm s
  | .andi c d a imm => Sys2Proof.Machine.execAndi c d a imm s
  | .ori c d a imm => Sys2Proof.Machine.execOri c d a imm s
  | .xori c d a imm => Sys2Proof.Machine.execXori c d a imm s
  | .shli c d a imm => Sys2Proof.Machine.execShli c d a imm s
  | .shri c d a imm => Sys2Proof.Machine.execShri c d a imm s
  | .srai c d a imm => Sys2Proof.Machine.execSrai c d a imm s
  | .slti c d a imm => Sys2Proof.Machine.execSlti c d a imm s
  | .limm c d q imm => Sys2Proof.Machine.execLimm c d q imm s
  | .br c cond a target => Sys2Proof.Machine.execBr c cond a target s
  | .jal c d target => Sys2Proof.Machine.execJal c d target s
  | .jr c a => Sys2Proof.Machine.execJr c a s
  | .loop c a stop => Sys2Proof.Machine.execLoop c a stop s
  | .loopi c count stop => Sys2Proof.Machine.execLoopi c count stop s
  | .flrd c d g => Sys2Proof.Machine.execFlrd c d g s
  | .flclr c g mask => Sys2Proof.Machine.execFlclr c g mask s
  | .sysrd c d sel => Sys2Proof.Machine.execSysrd c d sel s
  | .waitbeat c a imm => Sys2Proof.Machine.execWaitbeat c a imm s
  | .waitbeatRelease c => Sys2Proof.Machine.execWaitbeatRelease c s
  | .done c n => Sys2Proof.Machine.execDone c n s
  | .doneComplete c => Sys2Proof.Machine.execDoneComplete c s
  | .mnop c => Sys2Proof.Machine.execMnop c s
  | .lds c d a sz sx off => Sys2Proof.Machine.execLds c d a sz sx off s
  | .sts c b a sz off => Sys2Proof.Machine.execSts c b a sz off s
  | .vld c v a off => Sys2Proof.Machine.execVld c v a off s
  | .vst c v a off => Sys2Proof.Machine.execVst c v a off s
  | .hmov c dir hops a => Sys2Proof.Machine.execHmov c dir hops a s
  | .hallwayArrival c => Sys2Proof.Machine.execHallwayArrival c s
  | .ldg c a b sz => Sys2Proof.Machine.execLdg c a b sz s
  | .stg c a b sz => Sys2Proof.Machine.execStg c a b sz s
  | .fsend c a b cc ccen => Sys2Proof.Machine.execFsend c a b cc ccen s
  | .fsendm c a b cc ccen => Sys2Proof.Machine.execFsendm c a b cc ccen s
  | .pget c a b => Sys2Proof.Machine.execPget c a b s
  | .pput c a b => Sys2Proof.Machine.execPput c a b s
  | .patom c a b => Sys2Proof.Machine.execPatom c a b s
  | .pcopy c a b r => Sys2Proof.Machine.execPcopy c a b r s
  | .waitcc c n a imm => Sys2Proof.Machine.execWaitcc c n a imm s
  | .guardRelease c => Sys2Proof.Machine.execGuardRelease c s
  | .ccset c n a imm => Sys2Proof.Machine.execCcset c n a imm s
  | .ccadd c n a imm => Sys2Proof.Machine.execCcadd c n a imm s
  | .ccrd c n d => Sys2Proof.Machine.execCcrd c n d s
  | .queueAccept c => Sys2Proof.Machine.execQueueAccept c s
  | .anop c => Sys2Proof.Machine.execAnop c s
  | .acfg c a => Sys2Proof.Machine.execAcfg c a s
  | .wload c a b => Sys2Proof.Machine.execWload c a b s
  | .wswap c => Sys2Proof.Machine.execWswap c s
  | .mma c tile m a b => Sys2Proof.Machine.execMma c tile m a b s
  | .tclr c tile mode => Sys2Proof.Machine.execTclr c tile mode s
  | .drain c tile j v rm sat dfmt clr => Sys2Proof.Machine.execDrain c tile j v rm sat dfmt clr s
  | .vnop c => Sys2Proof.Machine.execVnop c s
  | .vadd c g p vd va vb t rm => Sys2Proof.Machine.execVadd c g p vd va vb t rm s
  | .vsub c g p vd va vb t rm => Sys2Proof.Machine.execVsub c g p vd va vb t rm s
  | .vmul c g p vd va vb t rm => Sys2Proof.Machine.execVmul c g p vd va vb t rm s
  | .vmin c g p vd va vb t rm => Sys2Proof.Machine.execVmin c g p vd va vb t rm s
  | .vmax c g p vd va vb t rm => Sys2Proof.Machine.execVmax c g p vd va vb t rm s
  | .vabs c g p vd va t rm => Sys2Proof.Machine.execVabs c g p vd va t rm s
  | .vneg c g p vd va t rm => Sys2Proof.Machine.execVneg c g p vd va t rm s
  | .vfma c g p vd va vb vc rm => Sys2Proof.Machine.execVfma c g p vd va vb vc rm s
  | .vfms c g p vd va vb vc rm => Sys2Proof.Machine.execVfms c g p vd va vb vc rm s
  | .vfnma c g p vd va vb vc rm => Sys2Proof.Machine.execVfnma c g p vd va vb vc rm s
  | .vfmaB c g p vd va vb vc rm => Sys2Proof.Machine.execVfmaB c g p vd va vb vc rm s
  | .vfmsB c g p vd va vb vc rm => Sys2Proof.Machine.execVfmsB c g p vd va vb vc rm s
  | .vfnmaB c g p vd va vb vc rm => Sys2Proof.Machine.execVfnmaB c g p vd va vb vc rm s
  | .vfmaH c g p vd va vb vc rm => Sys2Proof.Machine.execVfmaH c g p vd va vb vc rm s
  | .vfmsH c g p vd va vb vc rm => Sys2Proof.Machine.execVfmsH c g p vd va vb vc rm s
  | .vfnmaH c g p vd va vb vc rm => Sys2Proof.Machine.execVfnmaH c g p vd va vb vc rm s
  | .vand c g p vd va vb t rm => Sys2Proof.Machine.execVand c g p vd va vb t rm s
  | .vor c g p vd va vb t rm => Sys2Proof.Machine.execVor c g p vd va vb t rm s
  | .vxor c g p vd va vb t rm => Sys2Proof.Machine.execVxor c g p vd va vb t rm s
  | .vshl c g p vd va vb t rm => Sys2Proof.Machine.execVshl c g p vd va vb t rm s
  | .vshr c g p vd va vb t rm => Sys2Proof.Machine.execVshr c g p vd va vb t rm s
  | .vsra c g p vd va vb t rm => Sys2Proof.Machine.execVsra c g p vd va vb t rm s
  | .vcmp c g p pd va vb t cond h => Sys2Proof.Machine.execVcmp c g p pd va vb t cond h s
  | .vsel c g p vd va vb t rm => Sys2Proof.Machine.execVsel c g p vd va vb t rm s
  | .vbcast c g p vd a => Sys2Proof.Machine.execVbcast c g p vd a s
  | .vgetl c g p d va lane => Sys2Proof.Machine.execVgetl c g p d va lane s
  | .viota c g p vd => Sys2Proof.Machine.execViota c g p vd s
  | .vshuf c g p vd va vb => Sys2Proof.Machine.execVshuf c g p vd va vb s
  | .plogic c g p pd pa pb fn => Sys2Proof.Machine.execPlogic c g p pd pa pb fn s
  | .vcvt c g p vd va sf df q sat rm => Sys2Proof.Machine.execVcvt c g p vd va sf df q sat rm s
  | .vmxq c g p vd va vc df q rm => Sys2Proof.Machine.execVmxq c g p vd va vc df q rm s
  | .vpk6 c g p vd va => Sys2Proof.Machine.execVpk6 c g p vd va s
  | .vup6 c g p vd va => Sys2Proof.Machine.execVup6 c g p vd va s
  | .vsf c g p vd va fn => Sys2Proof.Machine.execVsf c g p vd va fn s
  | .vrsum c g p vd va t rm => Sys2Proof.Machine.execVrsum c g p vd va t rm s
  | .vrmax c g p vd va t rm => Sys2Proof.Machine.execVrmax c g p vd va t rm s
  | .vrmin c g p vd va t rm => Sys2Proof.Machine.execVrmin c g p vd va t rm s
  | .vsamp c g p slot a => Sys2Proof.Machine.execVsamp c g p slot a s
  | .samplerStart k => Sys2Proof.Machine.execSamplerStart k s
  | .samplerComplete k => Sys2Proof.Machine.execSamplerComplete k s
  | .tapDepartureRead k => Sys2Proof.Machine.execTapDepartureRead k s
  | .slotFill p => Sys2Proof.Machine.execSlotFill p s
  | .rxFrame p lanes => Sys2Proof.Machine.execRxFrame p lanes s
  | .cellRelease p => Sys2Proof.Machine.execCellRelease p s
  | .landingWrite k => Sys2Proof.Machine.execLandingWrite k s
  | .idleCellTimer p => Sys2Proof.Machine.execIdleCellTimer p s
  | .replayTimerExpiry p => Sys2Proof.Machine.execReplayTimerExpiry p s
  | .rekey p tx => Sys2Proof.Machine.execRekey p tx s
  | .barrierCell p => Sys2Proof.Machine.execBarrierCell p s
  | .freezeCell p => Sys2Proof.Machine.execFreezeCell p s
  | .stopCell p => Sys2Proof.Machine.execStopCell p s
  | .beaconCell p => Sys2Proof.Machine.execBeaconCell p s
  | .fbcCell p => Sys2Proof.Machine.execFbcCell p s
  | .repairReq p => Sys2Proof.Machine.execRepairReq p s
  | .repairRsp p => Sys2Proof.Machine.execRepairRsp p s
  | .repairTimeout p => Sys2Proof.Machine.execRepairTimeout p s
  | .bypassCreditTimeout p => Sys2Proof.Machine.execBypassCreditTimeout p s
  | .signalDetected p => Sys2Proof.Machine.execSignalDetected p s
  | .equaliseDone p lanes => Sys2Proof.Machine.execEqualiseDone p lanes s
  | .alignDone p lanes width => Sys2Proof.Machine.execAlignDone p lanes width s
  | .capabilityMessage p msg => Sys2Proof.Machine.execCapabilityMessage p msg s
  | .keysMessage p pub sid chain sig => Sys2Proof.Machine.execKeysMessage p pub sid chain sig s
  | .measureDone p trip partner => Sys2Proof.Machine.execMeasureDone p trip partner s
  | .trainTimeout p => Sys2Proof.Machine.execTrainTimeout p s
  | .backoffEnd p => Sys2Proof.Machine.execBackoffEnd p s
  | .quietWindow p => Sys2Proof.Machine.execQuietWindow p s
  | .retrainDrainEnd p => Sys2Proof.Machine.execRetrainDrainEnd p s
  | .lossOfSignal p all => Sys2Proof.Machine.execLossOfSignal p all s
  | .trainingPatternSeen p => Sys2Proof.Machine.execTrainingPatternSeen p s
  | .graceExpiry p => Sys2Proof.Machine.execGraceExpiry p s
  | .retrain p width => Sys2Proof.Machine.execRetrain p width s
  | .fullTrain p => Sys2Proof.Machine.execFullTrain p s
  | .lnkCtlEnable p value => Sys2Proof.Machine.execLnkCtlEnable p value s
  | .coreStart c => Sys2Proof.Machine.execCoreStart c s
  | .panWinEnable w => Sys2Proof.Machine.execPanWinEnable w s
  | .ctxJobBlockEnable x => Sys2Proof.Machine.execCtxJobBlockEnable x s
  | .pieceOpen e => Sys2Proof.Machine.execPieceOpen e s
  | .fence src => Sys2Proof.Machine.execFence src s
  | .moverStart m => Sys2Proof.Machine.execMoverStart m s
  | .read m => Sys2Proof.Machine.execRead m s
  | .write m => Sys2Proof.Machine.execWrite m s
  | .fill m => Sys2Proof.Machine.execFill m s
  | .hashOpen m => Sys2Proof.Machine.execHashOpen m s
  | .hashClose m => Sys2Proof.Machine.execHashClose m s
  | .moverChunkDone m => Sys2Proof.Machine.execMoverChunkDone m s
  | .hashCompress h => Sys2Proof.Machine.execHashCompress h s
  | .refresh bank => Sys2Proof.Machine.execRefresh bank s
  | .generate x => Sys2Proof.Machine.execGenerate x s
  | .erase x => Sys2Proof.Machine.execErase x s
  | .clrRegionEnable w => Sys2Proof.Machine.execClrRegionEnable w s
  | .post n => Sys2Proof.Machine.execPost n s
  | .mbxResponse n => Sys2Proof.Machine.execMbxResponse n s
  | .porchWrite off size value => Sys2Proof.Machine.execPorchWrite off size value s
  | .getInfo src => Sys2Proof.Machine.execGetInfo src s
  | .getStatus src => Sys2Proof.Machine.execGetStatus src s
  | .regRead src => Sys2Proof.Machine.execRegRead src s
  | .regWrite src => Sys2Proof.Machine.execRegWrite src s
  | .ctxCreate src => Sys2Proof.Machine.execCtxCreate src s
  | .ctxDestroy src => Sys2Proof.Machine.execCtxDestroy src s
  | .ctxSwitch src => Sys2Proof.Machine.execCtxSwitch src s
  | .ctxQuery src => Sys2Proof.Machine.execCtxQuery src s
  | .jobLoad src host => Sys2Proof.Machine.execJobLoad src host s
  | .jobStart src => Sys2Proof.Machine.execJobStart src s
  | .jobStop src => Sys2Proof.Machine.execJobStop src s
  | .telemetrySlip src dma => Sys2Proof.Machine.execTelemetrySlip src dma s
  | .telemetryCounters src dma => Sys2Proof.Machine.execTelemetryCounters src dma s
  | .eventSubscribe src => Sys2Proof.Machine.execEventSubscribe src s
  | .mgmtConnectionClose n => Sys2Proof.Machine.execMgmtConnectionClose n s
  | .setOperatingPoint src => Sys2Proof.Machine.execSetOperatingPoint src s
  | .setPowerCap src => Sys2Proof.Machine.execSetPowerCap src s
  | .setPowerState src => Sys2Proof.Machine.execSetPowerState src s
  | .selfTest src result => Sys2Proof.Machine.execSelfTest src result s
  | .calibrate src result => Sys2Proof.Machine.execCalibrate src result s
  | .deferredMaintenanceRun result => Sys2Proof.Machine.execDeferredMaintenanceRun result s
  | .fwStage src host => Sys2Proof.Machine.execFwStage src host s
  | .fwActivate src => Sys2Proof.Machine.execFwActivate src s
  | .fwCommit src => Sys2Proof.Machine.execFwCommit src s
  | .fullReset src => Sys2Proof.Machine.execFullReset src s
  | .attest src dma => Sys2Proof.Machine.execAttest src dma s
  | .sessionOpen src => Sys2Proof.Machine.execSessionOpen src s
  | .sessionClose src => Sys2Proof.Machine.execSessionClose src s
  | .debugBreak src => Sys2Proof.Machine.execDebugBreak src s
  | .globalStop src => Sys2Proof.Machine.execGlobalStop src s
  | .waitforGraph src dma => Sys2Proof.Machine.execWaitforGraph src dma s
  | .traceCtl src => Sys2Proof.Machine.execTraceCtl src s
  | .freeze src => Sys2Proof.Machine.execFreeze src s
  | .beaconSend p => Sys2Proof.Machine.execBeaconSend p s
  | .loadProgram k => Sys2Proof.Machine.execLoadProgram k s
  | .start k => Sys2Proof.Machine.execStart k s
  | .wait k => Sys2Proof.Machine.execWait k s
  | .stewardWaitRelease k => Sys2Proof.Machine.execStewardWaitRelease k s
  | .mover k => Sys2Proof.Machine.execMover k s
  | .pantry k => Sys2Proof.Machine.execPantry k s
  | .stewardQueueAccept k => Sys2Proof.Machine.execStewardQueueAccept k s
  | .stream k => Sys2Proof.Machine.execStream k s
  | .sectionEnd k => Sys2Proof.Machine.execSectionEnd k s
  | .functionWatchdog kind unit => Sys2Proof.Machine.execFunctionWatchdog kind unit s
  | .barrinVersionRetry minv maxv => Sys2Proof.Machine.execBarrinVersionRetry minv maxv s
  | .barrinTransaction op bits => Sys2Proof.Machine.execBarrinTransaction op bits s
  | .powerCollection readings => Sys2Proof.Machine.execPowerCollection readings s
  | .droop d amount => Sys2Proof.Machine.execDroop d amount s
  | .fbcCellSend p => Sys2Proof.Machine.execFbcCellSend p s
  | .timestamp rx tag => Sys2Proof.Machine.execTimestamp rx tag s
  | .timePulseEnable n => Sys2Proof.Machine.execTimePulseEnable n s
  | .pulseEdge n => Sys2Proof.Machine.execPulseEdge n s
  | .pulseEnd n => Sys2Proof.Machine.execPulseEnd n s
  | .wakeFrame mac etype code => Sys2Proof.Machine.execWakeFrame mac etype code s
  | .powerCapWindow power junction => Sys2Proof.Machine.execPowerCapWindow power junction s
  | .replayEntry host => Sys2Proof.Machine.execReplayEntry host s
  | .measurementPass changed => Sys2Proof.Machine.execMeasurementPass changed s
  | .mgmtHandshake n hello => Sys2Proof.Machine.execMgmtHandshake n hello s
  | .opcaEnable n => Sys2Proof.Machine.execOpcaEnable n s
  | .alarmTrigger bit aux lasts => Sys2Proof.Machine.execAlarmTrigger bit aux lasts s
  | .level2Clear n => Sys2Proof.Machine.execLevel2Clear n s
  | .strapSample straps => Sys2Proof.Machine.execStrapSample straps s
  | .powerReset low => Sys2Proof.Machine.execPowerReset low s
  | .moduleReset low => Sys2Proof.Machine.execModuleReset low s
  | .bringUpStage stackOks align => Sys2Proof.Machine.execBringUpStage stackOks align s
  | .pantryAccessDone n => Sys2Proof.Machine.execPantryAccessDone n s
  | .tapTck trstN tms tdi => Sys2Proof.Machine.execTapTck trstN tms tdi s
  | .managementModeTry ok => Sys2Proof.Machine.execManagementModeTry ok s
  | .epochStart => Sys2Proof.Machine.execEpochStart s
  | .barrierReady => Sys2Proof.Machine.execBarrierReady s
  | .barrierTimeout => Sys2Proof.Machine.execBarrierTimeout s
  | .panCtlEnable => Sys2Proof.Machine.execPanCtlEnable s
  | .pantryRequest => Sys2Proof.Machine.execPantryRequest s
  | .readReplyData => Sys2Proof.Machine.execReadReplyData s
  | .statusCell => Sys2Proof.Machine.execStatusCell s
  | .statusCellTimeout => Sys2Proof.Machine.execStatusCellTimeout s
  | .pieceTimeout => Sys2Proof.Machine.execPieceTimeout s
  | .pieceSlotHoldEnd => Sys2Proof.Machine.execPieceSlotHoldEnd s
  | .patrolScrub => Sys2Proof.Machine.execPatrolScrub s
  | .correctionWriteback => Sys2Proof.Machine.execCorrectionWriteback s
  | .operatingPointChange => Sys2Proof.Machine.execOperatingPointChange s
  | .timedFreezeTrigger => Sys2Proof.Machine.execTimedFreezeTrigger s
  | .traceMarker => Sys2Proof.Machine.execTraceMarker s
  | .traceFrame => Sys2Proof.Machine.execTraceFrame s
  | .hearthWatchdog => Sys2Proof.Machine.execHearthWatchdog s
  | .barrinLinkDown => Sys2Proof.Machine.execBarrinLinkDown s
  | .barrinLinkUp good minv maxv => Sys2Proof.Machine.execBarrinLinkUp good minv maxv s
  | .telemetryReport => Sys2Proof.Machine.execTelemetryReport s
  | .stretchToken => Sys2Proof.Machine.execStretchToken s
  | .clockSlip => Sys2Proof.Machine.execClockSlip s
  | .referenceLost => Sys2Proof.Machine.execReferenceLost s
  | .referenceRestored => Sys2Proof.Machine.execReferenceRestored s
  | .seed => Sys2Proof.Machine.execSeed s
  | .load => Sys2Proof.Machine.execLoad s
  | .apply => Sys2Proof.Machine.execApply s
  | .txtsPop => Sys2Proof.Machine.execTxtsPop s
  | .ppsCapture falling => Sys2Proof.Machine.execPpsCapture falling s
  | .idleEntry => Sys2Proof.Machine.execIdleEntry s
  | .recordEnable => Sys2Proof.Machine.execRecordEnable s
  | .entropyFailure => Sys2Proof.Machine.execEntropyFailure s
  | .entropyRecovery good => Sys2Proof.Machine.execEntropyRecovery good s
  | .mergeWindowEnd => Sys2Proof.Machine.execMergeWindowEnd s
  | .sloePowerOn => Sys2Proof.Machine.execSloePowerOn s
  | .sloeReset => Sys2Proof.Machine.execSloeReset s
  | .stageTimeout => Sys2Proof.Machine.execStageTimeout s
  | .supplyFault => Sys2Proof.Machine.execSupplyFault s
  | .thermalTrip => Sys2Proof.Machine.execThermalTrip s
  | .drainTimeout => Sys2Proof.Machine.execDrainTimeout s

end Sys2Proof.Machine
end

