-- ==== Sys2Proof/Machine/Pipeline.lean ====
section
/-! DEFINITION. What a core has in flight: its accesses to SRAM in their beats, Hallway units on their links, results landing (R58,
R70 to R72, R75, R77, R78, R108, R112 to R116, R447). -/

namespace Sys2Proof.Machine

/-! Accesses -/

/-- Put an action in flight. -/
def State.addAct (s : State) (n : Nat) (a : Act) : State := s.modCoreN n (fun k => { k with acts := k.acts ++ [a] })

/-- The result of an access comes `d` beats after it. -/
def State.result (s : State) (n : Nat) (a : Act) (d : Nat) (e : Eff) : State :=
  s.addAct n { a with due := s.clk.beat + d, late := false, eff := e }

/-- A row's bytes as a number, none where a word is uncorrectable. -/
def State.rowBytes (s : State) (n a len : Nat) : State × Option (List Byte) :=
  if len = 0 then (s, some []) else s.sramRead n a len

/-- A row's contribution, 20 beats after its last beat (R114), with the MACs that it counts. -/
def State.rowResult (s : State) (n : Nat) (a : Act) (tile row : Nat) (cfg : BitVec 20) (b : WBuf) (bytes scales : List Byte) : State :=
  let r := rowGroups cfg b (leNat bytes) scales
  (s.result n { a with fl := r.2 } 19 (.rowAdd tile row (cfgIacc cfg) r.1)).ops n (0x40 + 8 * cfgA cfg) (64 * cfgK cfg)

/-- The sign- or zero-extended value that a scalar load gives (R105). -/
def loadValue (n : Nat) (sx : Bool) (bs : List Byte) : W64 :=
  BitVec.ofNat 64 (if sx then wrapInt 64 (toSigned (8 * n) (leNat bs)) else leNat bs)

/-- The other half of a row takes the bytes of the half that is read first. -/
def Act.pairUp (x a : Act) (tile row : Nat) (second : Bool) (bs : List Byte) : Act :=
  if x.issue = a.issue ∧ x.pc = a.pc then
    match x.eff with
    | .mmaHalf t r addr sec none w cfg =>
      if t = tile ∧ r = row ∧ sec ≠ second then { x with eff := .mmaHalf t r addr sec (some bs) w cfg } else x
    | _ => x
  else x

/-- The access itself; the ranges hold no uncorrectable word. -/
def State.doAccess (s : State) (n : Nat) (a : Act) : State :=
  let b := s.clk.beat
  let got (addr len : Nat) : State × List Byte :=
    let r := s.sramRead n addr len
    (r.1, r.2.getD [])
  match a.eff with
  | .loadS d addr cnt sx => let r := got addr cnt; r.1.result n a 5 (.sreg d (loadValue cnt sx r.2))
  | .loadV v addr => let r := got addr 1024; r.1.result n a 5 (.vreg v (BitVec.ofNat 8192 (leNat r.2)) allLanes)
  | .storeA addr bs => s.result n a 1 (.store addr bs)
  | .wload addr i w1 => let r := got addr 512; r.1.result n a 0 (.wdata i (BitVec.ofNat 4096 (leNat r.2)) w1)
  | .wscale addr cnt w1 => let r := got addr cnt; r.1.result n a 0 (.wscl cnt (BitVec.ofNat 2048 (leNat r.2)) w1)
  | .mmaRow tile row addr rb asc w cfg =>
    let r := got addr rb
    let sc := match asc with
      | some x => r.1.rowBytes n x (cfgK cfg / 32)
      | none => (r.1, some [])
    sc.1.rowResult n a tile row cfg w r.2 (sc.2.getD [])
  | .mmaHalf tile row addr second other w cfg =>
    let r := got addr 64
    match other with
    | some bs => r.1.rowResult n a tile row cfg w (if second then bs ++ r.2 else r.2 ++ bs) []
    | none => r.1.modCoreN n (fun k => { k with acts := k.acts.map (fun x => x.pairUp a tile row second r.2) })
  | .hread _ addr dir hops dst cc =>
    let r := got addr 128
    { r.1 with hall := r.1.hall ++ [⟨n, dir, 1, hops, b + 1, a.issue, dst, BitVec.ofNat 1024 (leNat r.2), cc, a.pc⟩] }
  | .stg o =>
    let r := got o.l o.n
    r.1.result n a 0 (.stgGo { o with data := BitVec.ofNat 512 (leNat r.2) })
  | _ => s

/-- The same access, whatever half of a row has joined it meanwhile. -/
def Act.same (x a : Act) : Bool :=
  x.due == a.due && x.issue == a.issue && x.slot == a.slot && x.pc == a.pc && x.late == a.late && x.eff.spans == a.eff.spans

/-- One access of the beat: performed with its banks; in the next beat where its banks are taken, or two of its own chunks meet
(Table 3.5); a fault where it meets an uncorrectable word (Table 9.2). -/
def State.tryAccess (s : State) (n : Nat) (old : Act) : State :=
  let b := s.clk.beat
  let k := s.coreN n
  match k.acts.find? (fun x => x.same old) with
  | none => s
  | some a =>
  let taken := if k.bankAt = b then (k.banks.filter (fun x => x.2.2.2 < 4)).map (·.1) else []
  let bs := a.eff.banks
  let meet : Bool := bs.any taken.contains || (!a.late && bs.eraseDups.length != bs.length)
  let out (s : State) : State := s.modCoreN n (fun k => { k with acts := k.acts.erase a })
  if meet then ((out s).addAct n { a with due := b + 1, late := true }).bumpCore n 0x20 1
  else match s.badWords n a.eff with
    | w :: ws => (s.modCoreN n (fun k => k.cancel a.issue a.pc)).memFault n a.issue a.pc a.slot (w :: ws)
    | [] =>
      let s := (out s).modCoreN n (fun k => { k with
        banks := (if k.bankAt = b then k.banks else []) ++ bs.map (fun x => (x, a.issue, a.pc, a.slot)), bankAt := b })
      s.doAccess n a

/-- The core's accesses of this beat, earlier-issued first, put-off ones last (R89, Table 3.5). -/
def State.accessPhase (s : State) (n : Nat) : State :=
  let l := (s.coreN n).acts.filter (fun a => a.due ≤ s.clk.beat && a.eff.isAccess)
  (sortByKey (fun a => b2n a.late * 2 ^ 80 + a.issue * 8 + a.slot) l).foldl (fun (s : State) a => s.tryAccess n a) s

/-! Hallway links (R18, R108) -/

/-- The position at which a unit stands before hop `j`. -/
def HallUnit.at_ (u : HallUnit) (j : Nat) : Nat × Nat := (hopPos (coreCol u.src) (coreRow u.src) u.dir (j - 1)).getD (0, 0)

/-- One unit at its next link; the links taken in this beat. Where the link is taken the unit is carried a beat later. -/
def State.carryUnit (s : State) (taken : List ((Nat × Nat) × Nat)) (u : HallUnit) : State × List ((Nat × Nat) × Nat) :=
  let b := s.clk.beat
  let key := (u.at_ u.hop, u.dir)
  let put (v : HallUnit) (s : State) : State := { s with hall := s.hall.map (fun x => if x = u then v else x) }
  if taken.contains key then ((put { u with enter := b + 1 } s).bumpCore u.src 0x20 1, taken)
  else (put { u with hop := u.hop + 1, enter := b + s.hopLat (u.at_ u.hop) (u.at_ (u.hop + 1)) } s, key :: taken)

/-- The units that enter a link in this beat: earlier-issued moves first, for equal beats from the sending core's SRAM first. -/
def State.hallLinks (s : State) : State :=
  let l := s.hall.filter (fun u => u.enter ≤ s.clk.beat && u.hop ≤ u.hops)
  ((sortByKey (fun u => u.issue * 2 + b2n (u.hop != 1)) l).foldl (fun (acc : State × List ((Nat × Nat) × Nat)) u =>
    acc.1.carryUnit acc.2 u) (s, [])).1

/-! Landing -/

/-- What a landing action writes in its core. -/
def Core.landReg (k : Core) (e : Eff) : Core :=
  match e with
  | .sreg d x => if d = 0 then k else { k with sreg := k.sreg.set 0#64 d x }
  | .preg d x m => if d = 0 then k else { k with preg := k.preg.upd 0#256 d (fun o => blend o x m) }
  | .vreg d x m => { k with vreg := k.vreg.upd 0#8192 d (fun o => blend o x m) }
  | .acfg x => { k with acfg := x }
  | .wcfg x w1 => k.modBuf w1 (fun w => { w with cfg := x })
  | .wdata i x w1 => k.modBuf w1 (fun w => { w with data := putFld w.data (4096 * i + 4095) (4096 * i) x.toNat })
  | .wscl n x w1 => k.modBuf w1 (fun w => { w with scale := putFld w.scale (8 * n - 1) 0 x.toNat })
  | .swap => { k with act1 := !k.act1 }
  | .tclr t i => { k with tiles := k.tiles.set Tile.zero t ⟨i, []⟩ }
  | .rowClr t j => { k with tiles := k.tiles.upd Tile.zero t (fun o => { o with rows := o.rows.filter (fun p => p.1 / 4 != j) }) }
  | .rowAdd t r i gs => k.addRow t r i gs
  | .ccSet n x => { k with cc := k.cc.set 0#32 n x }
  | .ccAdd n x => { k with cc := k.cc.upd 0#32 n (· + x) }
  | .flclr g m => k.clrFlags g m
  | _ => k

/-- An action records its flags (R52). -/
def Core.landFlags (k : Core) (a : Act) : Core :=
  match a.fset with
  | some g => k.orFlags g a.fl
  | none => k

/-- One action lands; a store into part of an uncorrectable word faults (R260). -/
def State.landAct (s : State) (n : Nat) (a : Act) : State :=
  let s := s.modCoreN n (fun k => k.landFlags a)
  match a.eff with
  | .store addr bs =>
    match s.badWords n (.storeA addr bs) with
    | w :: ws => (s.modCoreN n (fun k => k.cancel a.issue a.pc)).memFault n a.issue a.pc a.slot (w :: ws)
    | [] => (s.sramWrite n addr bs).1
  | .stgGo o => s.request ⟨Fin.ofNat 100 (n / 8), Fin.ofNat 8 n⟩ (.board o)
  | e => s.modCoreN n (fun k => k.landReg e)

/-- Counter writes and flag clears come before the other writes of the beat, increments after them (R53, R75). -/
def Eff.rank : Eff → Nat
  | .ccSet .. => 0
  | .flclr .. => 0
  | .ccAdd .. => 2
  | _ => 1

/-- Land a list of actions; a register write that a later-issued one of the beat replaces is dropped and counted (Table 3.5). -/
def State.landList (s : State) (n : Nat) : List Act → State
  | [] => s
  | a :: rest =>
    let dup : Bool := match a.dest with
      | some d => rest.any (fun x => match x.dest with
        | some e => d.1 == e.1 && d.2.1 == e.2.1
        | none => false)
      | none => false
    let s := if dup then (s.modCoreN n (fun k => k.landFlags a)).bumpCore n 0x20 1 else s.landAct n a
    s.landList n rest

/-- What lands in the core at the end of this beat (R58). -/
def State.landPhase (s : State) (n : Nat) : State :=
  let due (a : Act) : Bool := a.due ≤ s.clk.beat && !a.eff.isAccess
  let l := (s.coreN n).acts.filter due
  let s := s.modCoreN n (fun k => { k with acts := k.acts.filter (fun a => !due a) })
  s.landList n (sortByKey (fun a => a.eff.rank * 2 ^ 80 + a.issue * 8 + a.slot) l)

/-! Issue -/

/-- The loop stack after the bundle at `pc`, and where issue goes on when a body starts again (R99). -/
def loopNext (pc : Nat) : List LoopEntry → List LoopEntry × Option Nat
  | [] => ([], none)
  | e :: es =>
    if e.stop = pc then
      if 1 < e.count then ({ e with count := e.count - 1 } :: es, some e.start) else loopNext pc es
    else
      let r := loopNext pc es
      (e :: r.1, r.2)

/-- Where issue goes on after the bundle at `pc` (R74, R95, R98, R99); `before` is the target that waited for this delay bundle. -/
def Core.advancePc (k : Core) (pc : Nat) (before : Option Nat) : Core :=
  match before with
  | some t => { k with pc := t, branch := none }
  | none =>
    if k.branch.isSome then { k with pc := pc + 1 }
    else match k.skip with
      | some t => { k with pc := t, skip := none }
      | none =>
        let r := loopNext pc k.loops
        { k with pc := r.2.getD (pc + 1), loops := r.1 }

/-- The core issues a bundle in this beat. -/
def State.mayIssue (s : State) (n : Nat) : Bool :=
  let k := s.coreN n
  k.run == .running && k.waits == [] && s.clk.cluRun.contains (n / 8)

/-- A bundle that faulted takes no effect but its fault (R79): `s0` is the state before it. -/
def State.onlyFault (s0 : State) (n : Nat) (rec_ : W64) : State :=
  s0.trapAt n s0.clk.beat (s0.coreN n).pc (3 - fld rec_ 26 25) (fld rec_ 3 0) (fld rec_ 24 17)

end Sys2Proof.Machine
end

