-- ==== Sys2Proof/Machine/Tick.lean ====
section
/-! DEFINITION. One beat of the module's own work, which passes where no command waits (log 1). A beat runs the rows of the table that
the module does by itself, in this order: regions and points, epoch start, stewards, issue, the cores' accesses and the Hallway, taps,
movers, Pantry, samplers, ports, bypass cells and their timers, results landing, what waits, the epoch's barrier, Hearth, counters,
clocks. What only the outside can tell (signals, measurements, temperatures, test results) comes as commands alone. -/

namespace Sys2Proof.Machine

open Sys2Proof

/-! Running rows of the table -/

/-- The state after a row of the table; every meaning answers a next state. -/
def State.run (s : State) (i : Instr) : State :=
  match exec i s with
  | .next t => t
  | _ => s

def State.runAll (s : State) (l : List Instr) : State := l.foldl State.run s

/-- Run a row `n` times. -/
def State.runTimes (s : State) (n : Nat) (i : Instr) : State := iter n s (fun _ s => s.run i)

/-- The core at place `n`. -/
def placeRef (n : Nat) : CoreRef := ⟨Fin.ofNat 100 (n / 8), Fin.ofNat 8 n⟩
def cluFin (k : Nat) : Fin 100 := Fin.ofNat 100 k

/-- Cores and clusters whose region runs and that hold anything. -/
def State.liveCores (s : State) : List Nat := (s.cores.map (·.1)).filter (fun n => n < 800 && s.clk.cluRun.contains (n / 8))
def State.liveClusters (s : State) : List Nat := (s.clusters.map (·.1)).filter (fun k => k < 100 && s.clk.cluRun.contains k)

/-! Issue (R58, R86 to R89) -/

/-- The slots of a bundle, each in its turn: its instruction, or an illegal one; the first fault ends the bundle. Where several slots fault,
the first in the order M, A, V, S is recorded: the manual gives no order (log 12). -/
def State.issueSlots (s : State) (c : CoreRef) : List (Nat × Option Instr) → State
  | [] => s
  | (slot, o) :: rest =>
    let t := match o with
      | some i => s.run i
      | none => s.trap c slot 1 0
    if (t.core c).run = .faulted then t else t.issueSlots c rest

/-- Issue would continue past the last bundle (R88). -/
def Core.pastEnd (k : Core) : Bool := k.run == .running && 8191 < k.pc

/-- The core at place `n` issues the bundle at its address. A bundle whose successor would lie at 8192 is illegal, in slot S: a taken branch
in bundle 8191, or a LOOP of count 0 that ends there (R88, log 12). -/
def State.issueBundle (s : State) (n : Nat) : State :=
  let c := placeRef n
  let k := s.core c
  let w := k.istore.get 0#128 k.pc
  let t := s.issueSlots c (decodeBundle c w)
  if (t.core c).run = .faulted then
    let f := (t.core c).fault
    match decodeBundle c w |>.find? (fun x => fld f 3 0 = 9 && x.1 = 3 - fld f 26 25) with
    | some (_, some i) => s.run i
    | _ => s.onlyFault n f
  else
    let t := t.modCore c (fun x => x.advancePc k.pc k.branch)
    if (t.core c).pastEnd then s.trapAt n s.clk.beat k.pc 3 1 0
    else (t.bumpCore n 0x00 1).bumpCore n 0x30 (b2n (fld w 95 56 != 0))

/-- Every core that issues in this beat. -/
def State.issuePhase (s : State) : State := (s.liveCores.filter s.mayIssue).foldl (fun (s : State) n => s.issueBundle n) s

/-! Stewards (R300) -/

/-- The row that begins a steward command of a kind (Table 10.21). -/
def stewardRow (k : Fin 100) (kind : Nat) : Option Instr :=
  match kind with
  | 1 => some (.loadProgram k)
  | 2 => some (.start k)
  | 3 => some (.wait k)
  | 4 => some (.mover k)
  | 5 => some (.pantry k)
  | 6 => some (.stream k)
  | 7 => some (.sectionEnd k)
  | _ => none

/-- Each steward that stands between commands begins its next. -/
def State.stewardPhase (s : State) : State :=
  s.liveClusters.foldl (fun (s : State) k =>
    let t := (s.cluster k).stw
    if t.run = .ready && !s.stuck 2 k then
      match stewardRow (cluFin k) (cmdKind t.cmd) with
      | some i => s.run i
      | none => s
    else s) s

/-! Cores, Hallway and clusters -/

/-- Waits for an epoch beat end, cores start, bundles issue. -/
def State.corePhase (s : State) : State :=
  let l := s.liveCores.map placeRef
  let s := s.runAll (l.map Instr.coreStart)
  let s := s.runAll (l.map Instr.waitbeatRelease)
  let s := s.issuePhase
  s.liveCores.foldl (fun (s : State) n => s.accessPhase n) s

/-- Units on their links, then those that arrive. -/
def State.hallPhase (s : State) : State :=
  if s.clk.cluRun.isEmpty then s
  else
    let s := s.hallLinks
    s.runAll ((s.hall.filter (fun u => u.hops < u.hop && u.enter ≤ s.clk.beat)).map (fun u => .hallwayArrival (placeRef u.target)))

/-- The row that moves a mover's command on. -/
def moverRow (m : Nat) (op : Nat) : Instr :=
  let m := Fin.ofNat 32 m
  match op with
  | 0 => .read m
  | 1 => .write m
  | 2 => .fill m
  | 3 => .hashOpen m
  | _ => .hashClose m

/-- Movers go on, free ones take their next command. -/
def State.moverPhase (s : State) : State :=
  let works (m : Nat) : Bool := !s.stuck 5 m
  let l := (s.cel.movers.filter (fun p => works p.1)).filterMap (fun p => p.2.map (fun x => moverRow p.1 (mvOp x.cmd.args)))
  let s := s.runAll l
  if s.clusters.all (fun x => x.2.movQ.isEmpty) then s
  else s.runAll (((List.finRange 32).filter (fun m => works m.val)).map Instr.moverStart)

/-- The hash engine that serves a slot: its quarter's first or second. -/
def State.hashEngine (s : State) (h : Nat) : Nat := 2 * ((s.hashSlot h).cluster / 25) + h % 2

/-- One block per engine every 7 beats (R272), the slots in turn. -/
def State.hashPhase (s : State) : State :=
  if s.clk.beat % 7 ≠ 0 || !s.celOn then s
  else
    let order := (List.range 16).map (fun i => (i + s.clk.beat / 7) % 16)
    (List.range 8).foldl (fun (s : State) e =>
      match order.find? (fun h => let x := s.hashSlot h; x.isOpen && 64 ≤ x.buf.length && s.hashEngine h == e) with
      | some h => (s.run (.hashCompress (Fin.ofNat 16 h))).bump 7 (0x1D80 + 8 * e) 7
      | none => s) s

/-- The admitted requests in their order, up to one whose access must wait (R245). -/
def State.serveAll (s : State) : Nat → State
  | 0 => s
  | fuel + 1 =>
    let t := s.run (.pantryAccessDone 0)
    if t.pan.serving.length < s.pan.serving.length then t.serveAll fuel else t

/-- Pantry work of this beat: replies, requests, engines, timers; none reaches the Cellar or a core while their regions stand. -/
def State.pantryPhase (s : State) : State :=
  if s.stopped || s.clk.resumeAt.isSome then s
  else
    let s := s.runAll [.pieceTimeout, .pieceSlotHoldEnd, .statusCellTimeout]
    let s := s.runTimes s.pan.inRpl.length .readReplyData
    let s := s.runTimes s.pan.inRpl.length .statusCell
    let s := s.runTimes s.pan.inReq.length .pantryRequest
    let s := s.serveAll s.pan.serving.length
    s.runAll (((List.finRange 16).filter (fun e => !s.stuck 4 e.val)).map Instr.pieceOpen)

/-- Bank slots after the cores' own accesses: landings, departures, movers, Pantry, samplers (R71). -/
def State.clusterPhase (s : State) : State :=
  let l := s.liveClusters.map cluFin
  let s := s.runAll (l.map Instr.landingWrite)
  let s := s.runAll (l.map Instr.tapDepartureRead)
  let s := s.moverPhase.hashPhase.pantryPhase
  let s := s.liveClusters.foldl (fun (s : State) k => s.sampRead k) s
  let s := s.runAll (l.map Instr.samplerComplete)
  let s := s.runAll (l.map Instr.samplerStart)
  (if s.cel.wbHbm.isEmpty && s.cel.wbSram.isEmpty then s else s.run .correctionWriteback).patrolTime

/-! Ports -/

/-- A port's beat: slots, released cells, bypass cells, timers, training limits. -/
def State.portPhase (s : State) (p : Fin 8) : State :=
  let q := p.val
  if s.stuck 1 q then s
  else
  let s := (s.graceEnds q).paddedFrames q
  let s := s.runAll [.beaconSend p, .fbcCellSend p, .idleCellTimer p, .rekey p true, .rekey p false, .slotFill p]
  let s := s.runTimes ((s.port q).rx.filter (fun r => r.rel ≤ s.clk.beat)).length (.cellRelease p)
  let s := s.modPort q (fun t => t.batchDue s.clk.beat)
  let n := (s.port q).bypRx.length
  let s := if n = 0 then s
    else [Instr.barrierCell p, .freezeCell p, .stopCell p, .beaconCell p, .fbcCell p, .repairReq p, .repairRsp p].foldl
      (fun (s : State) i => s.runTimes n i) s
  s.runAll [.replayTimerExpiry p, .repairTimeout p, .bypassCreditTimeout p, .trainTimeout p, .backoffEnd p, .quietWindow p,
    .retrainDrainEnd p, .graceExpiry p]

/-! What waits at the end of the beat (R76, R103, R149) -/

/-- Beats that a core waited, by what it waits for (Table 15.2). -/
def State.countWaits (s : State) (n : Nat) : State :=
  let ws := (s.coreN n).waits
  let g := ws.any (fun w => match w with
    | .guard .. => true
    | _ => false)
  let q := ws.any (fun w => match w with
    | .queue _ => true
    | _ => false)
  let s := if g then s.bumpCore n 0x08 1 else s
  if q then s.bumpCore n 0x10 1 else s

/-- Programs end, queues accept, guards release, stewards go on. -/
def State.waitPhase (s : State) : State :=
  let l := s.liveCores.map placeRef
  let s := s.runAll ((sortByKey (fun n => (s.coreN n).since) s.liveCores).map (fun n => .queueAccept (placeRef n)))
  let s := s.runAll (l.map Instr.doneComplete)
  let s := s.runAll (l.map Instr.guardRelease)
  let s := s.liveCores.foldl (fun (s : State) n => s.countWaits n) s
  let k := s.liveClusters.map cluFin
  let s := s.runAll (k.map Instr.stewardWaitRelease)
  s.runAll (k.map Instr.stewardQueueAccept)

/-! Counters of busy beats (Tables 15.2, 15.3) -/

def State.busyCores (s : State) : State :=
  s.liveCores.foldl (fun (s : State) n =>
    let k := s.coreN n
    let b := s.clk.beat
    let s := if b < k.arFree then s.bumpCore n 0x28 1 else s
    if b < k.sfFree then s.bumpCore n 0x38 1 else s) s

def State.busyEngines (s : State) : State :=
  let s := s.liveClusters.foldl (fun (s : State) k =>
    let x := s.cluster k
    let s := if x.stw.run = .waiting then s.bump 7 (0x1000 + 16 * k) 1 else s
    if x.samp.isSome then s.bump 7 (0x1800 + 8 * k) 1 else s) s
  let s := s.cel.movers.foldl (fun (s : State) p => if p.2.isSome then s.bump 7 (0x1C00 + 8 * p.1) 1 else s) s
  (List.range 16).foldl (fun (s : State) e =>
    if s.pan.pieces.any (fun x => x.hold == none && x.rid / 2048 == e) then s.bump 7 (0x1D00 + 8 * e) 1 else s) s

/-! Clocks (R323, R326, R328, R335, R336) -/

/-- An epoch is under way, from its start to the next. -/
def State.inEpochs (s : State) : Bool := s.tt.state == 2 || s.tt.state == 3 || s.tt.state == 4

/-- Eighths by which domain `d` stretches its period, by droop requests and then by the cap (R326, R328). -/
def Clk.droops (c : Clk) (d : Nat) : Nat := min 4 (c.domPend.get 0 d)
def Clk.stretch (c : Clk) (d : Nat) : Nat := c.droops d + min c.capStretch (4 - c.droops d)

/-- The domains' stretching of one period: what each has left to do, and how far each comes to lag the link region. -/
def Clk.stretched (c : Clk) : Clk :=
  if c.domPend = [] then c
  else { c with
    offs := (List.range 8).foldl (fun (m : SMap Int) d => m.upd 0 d (· + ((c.stretch d : Int) - c.stretch 8))) c.offs
    domPend := (List.range 9).foldl (fun (m : SMap Nat) d => m.upd 0 d (· - c.droops d)) c.domPend }

/-- A uniform stretch announced comes into force (R328). -/
def Clk.capComes (c : Clk) : Clk :=
  match c.capNext with
  | some (b, n) => if b ≤ c.beat then { c with capStretch := n, capNext := none } else c
  | none => c

/-- The RBC at wall time `wall`, with the rate of the old base point until its change (R335). -/
def Clk.count (c : Clk) (wall : Nat) : Clk :=
  let go (c : Clk) (op t : Nat) : Clk :=
    let n := (t - c.refAt) / halfQuanta op
    { c with rbcHalf := c.rbcHalf + BitVec.ofNat 65 n, refAt := c.refAt + n * halfQuanta op }
  if c.rateAt ≤ c.refAt then go c c.baseOp wall
  else if wall < c.rateAt then go c c.rateOp wall
  else go { go c c.rateOp c.rateAt with refAt := c.rateAt } c.baseOp wall

/-- One period of the link region's clock. -/
def State.passBeat (s : State) : State :=
  let c := s.clk.capComes
  let wall := c.wall + 2 * c.halfBeat * (8 + c.stretch 8) / 8
  let c := c.stretched.count wall
  let fbc := if s.stopped then c.fbc else if s.inEpochs then c.fbc + 1#64 else BitVec.ofNat 64 (c.rbcHalf.toNat / 2)
  let slew := match c.slew with
    | some (q, t) => if t + quUs 10 ≤ wall then none else some (q, t)
    | none => none
  { s with clk := { c with wall := wall, beat := c.beat + 1, fbc := fbc, slew := slew } }

/-- STRETCH_PERIODS counts the link region's periods that droop stretches (Table 12.16). -/
def State.countStretch (s : State) : State := if 0 < s.clk.droops 8 then s.bump 6 0x140 1 else s

/-- A period's time while the link region's clock stands. -/
def State.passTime (s : State) : State :=
  s.modClk (fun c => { c with wall := c.wall + 2 * halfQuanta c.runOp, refAt := c.wall + 2 * halfQuanta c.runOp, slew := none })

/-! Time (R341, R346, R397, R401) -/

/-- The time unit runs: Hearth's domain is powered and not in P3 (Table 12.6). -/
def State.timeOn (s : State) : Bool := 4 ≤ s.sloe.stage && s.hearth.pState != 3

/-- One tick of 2 ns. -/
def State.timeTick (s : State) : State :=
  (s.modTim (fun t => { t.tick with tickAt := t.tickAt + 13440 })).runAll
    [.pulseEdge 0, .pulseEdge 1, .pulseEnd 0, .pulseEnd 1, .timedFreezeTrigger, .traceMarker]

/-- Ticks up to the present. -/
def State.timePhase (s : State) : State :=
  if s.timeOn then iter ((s.clk.wall - s.tim.tickAt) / 13440) s (fun _ s => s.timeTick)
  else s.modTim (fun t => { t with tickAt := s.clk.wall })

/-- Microseconds of holdover (Table 12.16). -/
def State.holdoverPhase (s : State) : State :=
  if !s.tim.holdover then s.modClk (fun c => { c with holdTicks := c.wall })
  else
    let n := (s.clk.wall - s.clk.holdTicks) / quUs 1
    if n = 0 then s else (s.modClk (fun c => { c with holdTicks := c.holdTicks + n * quUs 1 })).bump 6 0x160 n

/-! Hearth -/

/-- A trace frame takes 8.125 ns on 8 lanes of 32 Gb/s (R403). -/
def framePeriod : Nat := 54600

/-- The trace port sends frames without a gap. -/
def State.tracePhase (s : State) : State :=
  if !bitOf s.dbg.ctl 31 || !s.clk.linkRun then s.modDbg (fun d => { d with frameAt := s.clk.wall })
  else if s.clk.wall < s.dbg.frameAt then s
  else (s.run .traceFrame).modDbg (fun d => { d with frameAt := d.frameAt + framePeriod })

/-- State commands that waited behind another go on (R286). -/
def State.waitingCommand (s : State) : State :=
  match s.stateBusy, s.hearth.waitq with
  | false, i :: _ => (s.run i).modHearth (fun h => { h with waitq := h.waitq.drop 1 })
  | _, _ => s

/-- The next entry of a replayed log reads nothing from the host, so that it takes effect by itself; one that reads comes as a command. -/
def State.replayPhase (s : State) : State :=
  if !s.replaying then s
  else match (s.logAt s.hearth.rec_.rdPos).2 with
    | some (hd, _, _, _) => if nfld hd 134 134 = 0 then s.run (.replayEntry none) else s
    | none => s.run (.replayEntry none)

/-- A job is loaded: the module is not idle (R350). -/
def State.idleMark (s : State) : State :=
  if s.job.isSome then s.modHearth (fun h => { h with idleFrom := s.clk.wall }) else s

/-- Hearth's work of this beat. -/
def State.hearthPhase (s : State) : State :=
  let s := s.replayPhase
  let s := match s.hearth.switchSrc with
    | some src => s.run (.ctxSwitch src)
    | none => s
  let s := (s.run .drainTimeout).scanPoll.waitingCommand
  let s := s.runAll ((List.finRange 4).map Instr.mbxResponse)
  (s.idleMark).runAll [.idleEntry, .telemetryReport, .mergeWindowEnd, .stageTimeout]

/-! The beat -/

/-- A cut that falls in this beat (R397). -/
def State.cutPhase (s : State) : State := if s.dbg.cutAt = some s.clk.beat then s.takeCut else s

/-- Stops, changes of point and restarts at the beginning of a beat (R325, R332, R405). -/
def State.regionPhase (s : State) : State :=
  let s := if s.dbg.stopAt = some s.clk.beat then s.takeStop else s
  let s := s.run .operatingPointChange
  let s := s.runTimes s.clk.tokens.length .stretchToken
  if s.clk.slipped then s.run .clockSlip else s

/-- The work of a beat while the link region runs. -/
def State.beatWork (s : State) : State :=
  let s := s.regionPhase.run .epochStart
  let s := if s.stopped || s.pan.fenced then s else s.stewardPhase
  let s := s.corePhase.hallPhase.clusterPhase
  let s := (List.finRange 8).foldl (fun (s : State) p => s.portPhase p) s
  let s := s.liveCores.foldl (fun (s : State) n => s.landPhase n) s
  let s := (s.waitPhase).runAll [.barrierReady, .barrierTimeout]
  s.busyCores.busyEngines.countStretch.cutPhase

/-- One beat (log 1). -/
def State.tick (s : State) : State :=
  let s := if s.clk.linkRun then s.beatWork.passBeat else s.passTime
  { s.timePhase.holdoverPhase.hearthPhase.tracePhase with w1Sets := [] }

end Sys2Proof.Machine
end

