-- ==== Sys2Proof/Safety.lean ====
section
/-! DEFINITION. The terms in which claims are made: a step that goes on, what a command leaves as it was, and when a core instruction
issues without a trap. -/

namespace Sys2Proof.Machine

/-- The step answers a next state. -/
def State.goesOn (s : State) : Prop := ∃ t, step s = .next t

/-- `i` completes at `s`: `exec` answers a next state, of which `P` holds. -/
def Completes (i : Instr) (s : State) (P : State → Prop) : Prop := ∃ t, exec i s = .next t ∧ P t

/-! Frames -/

/-- `t` differs from `s` at most in the core at table place `n`. -/
def OnlyCoreN (n : Nat) (s t : State) : Prop := { t with cores := s.cores } = s ∧ ∀ m, m ≠ n → t.coreN m = s.coreN m

/-- `t` differs from `s` at most in core `c`. -/
def OnlyCore (c : CoreRef) (s t : State) : Prop := OnlyCoreN c.ix s t

/-- `t` differs from `s` at most in cluster `k`. -/
def OnlyCluster (k : Nat) (s t : State) : Prop :=
  { t with clusters := s.clusters } = s ∧ ∀ j, j ≠ k → t.cluster j = s.cluster j

/-- `t` differs from `s` at most in port `p`. -/
def OnlyPort (p : Nat) (s t : State) : Prop := { t with ports := s.ports } = s ∧ ∀ q, q ≠ p → t.port q = s.port q

/-- `t` differs from `s` at most in core `c` and its cluster. -/
def OnlyCoreCluster (c : CoreRef) (s t : State) : Prop :=
  { t with cores := s.cores, clusters := s.clusters } = s ∧ (∀ m, m ≠ c.ix → t.coreN m = s.coreN m) ∧
    ∀ j, j ≠ c.k.val → t.cluster j = s.cluster j

/-! Core instructions -/

/-- Core `c` takes an instruction in `slot` that reads `reads`, none of which a write in flight will change (R58). -/
def State.canIssue (s : State) (c : CoreRef) (slot : Nat) (reads : List Res) : Prop :=
  s.issues c = true ∧ ∀ r ∈ reads, (s.core c).inFlight s.clk.beat slot r = false

/-- No write in flight lands in register `n` of a kind (0 scalar, 1 predicate, 2 vector, 3 ACFG) in beat `due`; asked in guarded mode
only, where two writes of one beat trap (Table 3.5). -/
def State.noCollision (s : State) (c : CoreRef) (kind n due : Nat) : Prop :=
  s.guarded = true → ∀ a ∈ (s.core c).acts, a.dest ≠ some (kind, n, due)

/-- None of `banks` is taken in beat `due` by an access in flight; asked in guarded mode only (Table 3.5). -/
def State.noBankMeet (s : State) (c : CoreRef) (due : Nat) (banks : List Nat) : Prop :=
  s.guarded = true → banks.Nodup ∧ ∀ a ∈ (s.core c).acts, a.due = due → ∀ b ∈ a.eff.banks, b ∉ banks

/-- The actions `l` of the bundle that issues now meet no uncorrectable word in this beat and, in guarded mode, no write collision and no
bank conflict (Tables 3.5 and 9.2). -/
def State.clear (s : State) (c : CoreRef) (slot : Nat) (l : List Post) : Prop :=
  (∀ p ∈ l, p.due ≤ s.clk.beat → s.badWords c.ix p.eff = []) ∧
    (s.guarded = true → collide (s.core c).acts (s.mkActs c slot l) = none ∧ bankMeet (s.core c).acts (s.mkActs c slot l) = none)

/-- `t` is `s` with the actions `l` of the bundle that issues now put in flight in core `c`. -/
def Leaves (c : CoreRef) (slot : Nat) (l : List Post) (s t : State) : Prop :=
  OnlyCore c s t ∧ t.core c = { s.core c with acts := (s.core c).acts ++ s.mkActs c slot l }

/-- `i` completes at `s` and leaves the actions `l` in flight, and nothing else. -/
def Posts (i : Instr) (c : CoreRef) (slot : Nat) (l : List Post) (s : State) : Prop :=
  ∃ t, exec i s = .next t ∧ Leaves c slot l s t

/-- As `Posts`, where the instruction also changes its core by `f` and may count its operations (R396) while OPS_EN is 1. -/
def PostsAlso (i : Instr) (c : CoreRef) (slot : Nat) (l : List Post) (f : Core → Core) (s : State) : Prop :=
  ∃ t, exec i s = .next t ∧ { t with cores := s.cores, counters := s.counters } = s ∧ (∀ m, m ≠ c.ix → t.coreN m = s.coreN m) ∧
    (bitOf s.dbg.ctl 27 = false → t.counters = s.counters) ∧
    t.core c = f { s.core c with acts := (s.core c).acts ++ s.mkActs c slot l }

/-- `i` completes at `s` and leaves a scalar result `x` in flight that is readable after `lat` beats (R58). -/
def GivesS (i : Instr) (c : CoreRef) (lat : Nat) (d : BitVec 6) (x : W64) (s : State) : Prop :=
  Posts i c 3 [⟨s.clk.beat + lat - 1, .sreg d.toNat x, none, 0#4⟩] s

/-! Vector results -/

/-- Field `e` of `w` bits of a register. -/
def fieldAt (x : VecReg) (w e : Nat) : Nat := x.toNat / 2 ^ (w * e) % 2 ^ w

/-- `x`, `mask` and `fl` are the results of `op` on every element of format `f` in the lanes that `p` selects: the code of each element,
the bits written, and the flags of those elements together (R63, R122, R123). -/
def Elementwise (p : Pred) (f : Fmt) (op : Nat → Nat × Flags) (x mask : VecReg) (fl : Flags) : Prop :=
  (∀ l, l < 256 → lane mask l = if p.getLsbD l then 2 ^ 32 - 1 else 0) ∧
  (∀ e, e < 8192 / f.wid → p.getLsbD (e * f.wid / 32) = true → fieldAt x f.wid e = (op e).1 % 2 ^ f.wid) ∧
  ∀ b, b < 4 → (fl.getLsbD b = true ↔
    ∃ e, e < 8192 / f.wid ∧ p.getLsbD (e * f.wid / 32) = true ∧ (op e).2.getLsbD b = true)

/-- `i` completes at `s` and leaves such a vector result in flight, readable after `lat` beats, with its flags for set `fset`. -/
def GivesV (i : Instr) (c : CoreRef) (lat : Nat) (vd : BitVec 6) (p : BitVec 4) (f : Fmt) (op : Nat → Nat × Flags) (fset : Option Nat)
    (also : Core → Core) (s : State) : Prop :=
  ∃ x mask fl, Elementwise ((s.core c).p p) f op x mask fl ∧
    PostsAlso i c 2 [⟨s.clk.beat + lat - 1, .vreg vd.toNat x mask, fset, fl⟩] also s

/-- The rounding sequence of group `g` advances where the instruction rounds stochastically (R124). -/
def drawn (g : BitVec 4) (rm : BitVec 2) (k : Core) : Core :=
  if rm = 2#2 then { k with rseq := k.rseq.upd 0#41 g.toNat (· + 1#41) } else k

/-- A vector instruction of group `g` under predicate `p` may issue: its registers lie in the group's window and nothing that it reads
is in flight (R62, R122). -/
def State.vReady (s : State) (c : CoreRef) (g p : BitVec 4) (named : List (BitVec 6)) (reads : List Res) : Prop :=
  s.canIssue c 2 (.p p :: reads) ∧ (s.core c).groupOk g named = true

end Sys2Proof.Machine
end

