-- ==== Sys2Proof/Certificates/Slice0/Obligations.lean ====
section
/-! DEFINITION. The statements for the provers. `GivesS`, `Posts` and the frames are those of Safety. -/

open Sys2Proof Sys2Proof.Machine

/-! The queue -/

/-- A step takes the command at the front of the queue and answers what `exec` answers on the rest; on an empty queue one beat of the clock
passes (this model's choice, log 1); no step faults or refuses. -/
def Obligations.StepRunsTheFront : Prop :=
  ∀ (s : State),
    (∀ (c : Instr) (cs : List Instr), s.pending = c :: cs → step s = exec c { s with pending := cs }) ∧
    (s.pending = [] → step s = .next s.tick) ∧ s.goesOn
/-! The S slot -/

/-- ADD to MAXU (R92): the value of the rule in s[d] after one beat, and nothing else. -/
def Sys2Proof.Claims.ScalarArithmetic : Prop :=
  ∀ (s : State) (c : CoreRef) (d a b : BitVec 6),
    s.canIssue c 3 [.s a, .s b] → s.noCollision c 0 d.toNat s.clk.beat →
    let x := (s.core c).s a
    let y := (s.core c).s b
    GivesS (.add c d a b) c 1 d (BitVec.ofNat 64 (x.toNat + y.toNat)) s ∧
    GivesS (.sub c d a b) c 1 d (BitVec.ofInt 64 (x.toNat - y.toNat)) s ∧
    GivesS (.and c d a b) c 1 d (BitVec.ofNat 64 (x.toNat &&& y.toNat)) s ∧
    GivesS (.or c d a b) c 1 d (BitVec.ofNat 64 (x.toNat ||| y.toNat)) s ∧
    GivesS (.xor c d a b) c 1 d (BitVec.ofNat 64 (x.toNat ^^^ y.toNat)) s ∧
    GivesS (.shl c d a b) c 1 d (BitVec.ofNat 64 (x.toNat * 2 ^ (y.toNat % 64))) s ∧
    GivesS (.shr c d a b) c 1 d (BitVec.ofNat 64 (x.toNat / 2 ^ (y.toNat % 64))) s ∧
    GivesS (.sra c d a b) c 1 d (BitVec.ofInt 64 (x.toInt / 2 ^ (y.toNat % 64))) s ∧
    GivesS (.slt c d a b) c 1 d (if x.toInt < y.toInt then 1#64 else 0#64) s ∧
    GivesS (.sltu c d a b) c 1 d (if x.toNat < y.toNat then 1#64 else 0#64) s ∧
    GivesS (.min c d a b) c 1 d (BitVec.ofInt 64 (Min.min x.toInt y.toInt)) s ∧
    GivesS (.max c d a b) c 1 d (BitVec.ofInt 64 (Max.max x.toInt y.toInt)) s ∧
    GivesS (.minu c d a b) c 1 d (BitVec.ofNat 64 (Min.min x.toNat y.toNat)) s ∧
    GivesS (.maxu c d a b) c 1 d (BitVec.ofNat 64 (Max.max x.toNat y.toNat)) s

/-- MUL, MULH and MULHU (R93): the named half of the product in s[d] after three beats, and nothing else. -/
def Sys2Proof.Claims.ScalarMultiply : Prop :=
  ∀ (s : State) (c : CoreRef) (d a b : BitVec 6),
    s.canIssue c 3 [.s a, .s b] → s.noCollision c 0 d.toNat (s.clk.beat + 2) →
    let x := (s.core c).s a
    let y := (s.core c).s b
    GivesS (.mul c d a b) c 3 d (BitVec.ofNat 64 (x.toNat * y.toNat)) s ∧
    GivesS (.mulh c d a b) c 3 d (BitVec.ofInt 64 (x.toInt * y.toInt / 2 ^ 64)) s ∧
    GivesS (.mulhu c d a b) c 3 d (BitVec.ofNat 64 (x.toNat * y.toNat / 2 ^ 64)) s

/-- ADDI to SLTI (R92) and LIMM (R94): the immediate extended as the rule's table says, shifts with bits 13:6 zero; the value in s[d]
after one beat, and nothing else. -/
def Sys2Proof.Claims.ScalarImmediate : Prop :=
  ∀ (s : State) (c : CoreRef) (d a : BitVec 6) (imm : BitVec 14) (q : BitVec 2) (imm16 : BitVec 16),
    s.noCollision c 0 d.toNat s.clk.beat →
    (s.canIssue c 3 [.s a] →
      let x := (s.core c).s a
      GivesS (.addi c d a imm) c 1 d (BitVec.ofInt 64 (x.toInt + imm.toInt)) s ∧
      GivesS (.andi c d a imm) c 1 d (BitVec.ofNat 64 (x.toNat &&& imm.toNat)) s ∧
      GivesS (.ori c d a imm) c 1 d (BitVec.ofNat 64 (x.toNat ||| imm.toNat)) s ∧
      GivesS (.xori c d a imm) c 1 d (BitVec.ofNat 64 (x.toNat ^^^ imm.toNat)) s ∧
      GivesS (.slti c d a imm) c 1 d (if x.toInt < imm.toInt then 1#64 else 0#64) s ∧
      (imm.toNat < 64 →
        GivesS (.shli c d a imm) c 1 d (BitVec.ofNat 64 (x.toNat * 2 ^ imm.toNat)) s ∧
        GivesS (.shri c d a imm) c 1 d (BitVec.ofNat 64 (x.toNat / 2 ^ imm.toNat)) s ∧
        GivesS (.srai c d a imm) c 1 d (BitVec.ofInt 64 (x.toInt / 2 ^ imm.toNat)) s)) ∧
    (s.canIssue c 3 [.s d] →
      ∃ v : W64, GivesS (.limm c d q imm16) c 1 d v s ∧
        ∀ i, i < 64 → v.getLsbD i =
          if 16 * q.toNat ≤ i ∧ i < 16 * q.toNat + 16 then imm16.getLsbD (i - 16 * q.toNat) else ((s.core c).s d).getLsbD i)

/-- A nonzero reserved field or selector traps with fault kind 1 whatever the mode (R88): shift immediates above 63, condition 7, a
named register under condition 0, flag sets above 16, selectors above 5. -/
def Obligations.IllegalEncodingsTrap : Prop :=
  ∀ (s : State) (c : CoreRef), s.issues c = true →
    let bad (i : Instr) : Prop := exec i s = .next (s.trap c 3 1 0)
    (∀ (d a : BitVec 6) (imm : BitVec 14), 64 ≤ imm.toNat →
      bad (.shli c d a imm) ∧ bad (.shri c d a imm) ∧ bad (.srai c d a imm)) ∧
    (∀ (a : BitVec 6) (target : BitVec 13), bad (.br c 7#3 a target) ∧ (a ≠ 0#6 → bad (.br c 0#3 a target))) ∧
    (∀ (d : BitVec 6) (g : BitVec 5) (m : BitVec 4), 16 < g.toNat → bad (.flrd c d g) ∧ bad (.flclr c g m)) ∧
    (∀ (d : BitVec 6) (sel : BitVec 4), 5 < sel.toNat → bad (.sysrd c d sel)) ∧
    ((s.core c).run ≠ .faulted →
      let t := s.trap c 3 1 0
      (t.core c).run = .faulted ∧ (t.core c).waits = [] ∧ fld (t.core c).fault 3 0 = 1 ∧
      fld (t.core c).fault 39 27 = (s.core c).pc % 2 ^ 13 ∧ fld (t.core c).fault 26 25 = 0 ∧
      (t.core c).sreg = (s.core c).sreg ∧ (t.core c).acts = (s.core c).acts ∧
      (t.cluster c.k.val).stw.ended = true ∧
      ((s.cluster c.k.val).stw.run ≠ .finished → (t.cluster c.k.val).stw.run = .stopped) ∧
      ∀ n, n ≠ c.ix → t.coreN n = s.coreN n)

/-- The conditions of Table 4.4. -/
def Sys2Proof.Machine.BrCond (cond : BitVec 3) (x : W64) : Prop :=
  (cond = 0#3) ∨ (cond = 1#3 ∧ x.toNat = 0) ∨ (cond = 2#3 ∧ x.toNat ≠ 0) ∨ (cond = 3#3 ∧ x.toInt < 0) ∨
    (cond = 4#3 ∧ 0 ≤ x.toInt) ∨ (cond = 5#3 ∧ x.toInt ≤ 0) ∨ (cond = 6#3 ∧ 0 < x.toInt)

/-- `t` is `s` with the branch of core `c` to `target` waiting for its delay bundle, and the loops whose bodies do not contain the
target popped (R74, R95). -/
def Sys2Proof.Machine.Branched (c : CoreRef) (target : Nat) (s t : State) : Prop :=
  OnlyCore c s t ∧ t.core c = { s.core c with
    branch := some target, loops := (s.core c).loops.filter (fun e => e.start ≤ target && target ≤ e.stop) }

/-- BR, JAL and JR (R95, R96) where R97 admits them: taken under the condition of Table 4.4, no effect otherwise; JAL links the
address after its delay bundle; JR with an address above 13 bits traps. -/
def Sys2Proof.Claims.Branches : Prop :=
  ∀ (s : State) (c : CoreRef) (d a : BitVec 6) (cond : BitVec 3) (target : BitVec 13),
    let k := s.core c
    k.branch = none → (∀ e ∈ k.loops, e.stop ≠ k.pc) → (∀ e ∈ k.loops, e.stop ≠ k.pc + 1) →
    (s.canIssue c 3 [.s a] → cond ≠ 7#3 → (cond = 0#3 → a = 0#6) →
      (BrCond cond (k.s a) → ∃ t, exec (.br c cond a target) s = .next t ∧ Branched c target.toNat s t) ∧
      (¬ BrCond cond (k.s a) → exec (.br c cond a target) s = .next s)) ∧
    (s.canIssue c 3 [] → s.noCollision c 0 d.toNat s.clk.beat →
      ∃ u t, Leaves c 3 [⟨s.clk.beat, .sreg d.toNat (BitVec.ofNat 64 (k.pc + 2)), none, 0#4⟩] s u ∧
        Branched c target.toNat u t ∧ exec (.jal c d target) s = .next t) ∧
    (s.canIssue c 3 [.s a] →
      ((k.s a).toNat < 2 ^ 13 → ∃ t, exec (.jr c a) s = .next t ∧ Branched c (k.s a).toNat s t) ∧
      (2 ^ 13 ≤ (k.s a).toNat → exec (.jr c a) s = .next (s.trap c 3 1 0)))

/-- LOOP and LOOPI (R98): a legal body goes on the loop stack with its count, a count of 0 goes on after the end, a fifth level traps
with kind 8, a count above 2^24 or an end outside the innermost body traps with kind 1. -/
def Sys2Proof.Claims.Loops : Prop :=
  ∀ (s : State) (c : CoreRef) (a : BitVec 6) (stop count : BitVec 13),
    let k := s.core c
    s.canIssue c 3 [.s a] → k.branch = none →
    let n := (k.s a).toNat
    let inner := ∀ e es, k.loops = e :: es → e.start ≤ stop.toNat ∧ stop.toNat ≤ e.stop
    (k.pc < stop.toNat → inner → k.loops.length < 4 →
      (∃ t, exec (.loopi c count stop) s = .next t ∧ OnlyCore c s t ∧
        t.core c = { k with loops := ⟨k.pc + 1, stop.toNat, count.toNat + 1⟩ :: k.loops }) ∧
      (0 < n → n ≤ 2 ^ 24 → ∃ t, exec (.loop c a stop) s = .next t ∧ OnlyCore c s t ∧
        t.core c = { k with loops := ⟨k.pc + 1, stop.toNat, n⟩ :: k.loops })) ∧
    (k.pc < stop.toNat → inner → n = 0 → ∃ t, exec (.loop c a stop) s = .next t ∧ OnlyCore c s t ∧
      t.core c = { k with skip := some (stop.toNat + 1) }) ∧
    (k.pc < stop.toNat → inner → 4 ≤ k.loops.length → exec (.loopi c count stop) s = .next (s.trap c 3 8 0)) ∧
    (2 ^ 24 < n → exec (.loop c a stop) s = .next (s.trap c 3 1 0)) ∧
    (stop.toNat ≤ k.pc ∨ ¬ inner → exec (.loopi c count stop) s = .next (s.trap c 3 1 0))

/-- The loop stack at the end of a body (R99): entries that end here with one pass left are popped, the first with more is
decremented and its body starts again; entries of other bodies stay. -/
def Sys2Proof.Claims.LoopBack : Prop :=
  ∀ (pc : Nat) (before after : List LoopEntry),
    (∀ e ∈ before, e.stop = pc → e.count ≤ 1) →
    loopNext pc before = (before.filter (fun e => e.stop != pc), none) ∧
    ∀ e : LoopEntry, e.stop = pc → 1 < e.count →
      loopNext pc (before ++ e :: after) =
        (before.filter (fun e => e.stop != pc) ++ { e with count := e.count - 1 } :: after, some e.start)

/-- Where issue goes on after the bundle at `pc` (R95, R99): at the target after a delay bundle, at the delay bundle after a taken
branch, at a body's start where a pass is left, else at the next address. -/
def Sys2Proof.Claims.NextBundle : Prop :=
  ∀ (k : Core) (pc t : Nat),
    (k.advancePc pc (some t) = { k with pc := t, branch := none }) ∧
    (k.branch ≠ none → k.advancePc pc none = { k with pc := pc + 1 }) ∧
    (k.branch = none → k.skip = none → (∀ e ∈ k.loops, e.stop ≠ pc) → k.advancePc pc none = { k with pc := pc + 1 }) ∧
    (k.branch = none → k.skip = none → ∀ e es, k.loops = e :: es → e.stop = pc → 1 < e.count →
      k.advancePc pc none = { k with pc := e.start, loops := { e with count := e.count - 1 } :: es })

/-- FLRD, FLCLR and SYSRD (R100, R101): a flag set in s[d], its flags cleared by a mask after one beat, the job's identity values. -/
def Sys2Proof.Claims.FlagsAndIdentity : Prop :=
  ∀ (s : State) (c : CoreRef) (d : BitVec 6) (g : BitVec 5) (mask : BitVec 4) (sel : BitVec 4),
    let k := s.core c
    (s.canIssue c 3 [.flags g.toNat] → g.toNat ≤ 16 →
      (s.noCollision c 0 d.toNat s.clk.beat → GivesS (.flrd c d g) c 1 d (BitVec.ofNat 64 (k.flags.get 0#4 g.toNat).toNat) s) ∧
      Posts (.flclr c g mask) c 3 [⟨s.clk.beat, .flclr g.toNat mask, none, 0#4⟩] s) ∧
    (s.canIssue c 3 [] → s.noCollision c 0 d.toNat s.clk.beat → sel.toNat ≤ 5 →
      ∃ v : W64, GivesS (.sysrd c d sel) c 1 d v s ∧
        (sel = 0#4 → v.toNat = k.vcore.toNat) ∧ (sel = 1#4 → v.toNat = k.vrank.toNat) ∧
        (∀ j, s.job = some j → (sel = 2#4 → v = BitVec.ofNat 64 (20 * j.vrows)) ∧ (sel = 3#4 → v = BitVec.ofNat 64 j.ranks)) ∧
        (sel = 4#4 → s.tt.agreed = none → v.toNat = s.tt.index.toNat) ∧
        (sel = 5#4 → v = BitVec.ofNat 64 s.tt.length))

/-- The four no-operations change nothing (R87). -/
def Sys2Proof.Claims.NoOperations : Prop :=
  ∀ (s : State) (c : CoreRef),
    exec (.nop c) s = .next s ∧ exec (.mnop c) s = .next s ∧ exec (.anop c) s = .next s ∧ exec (.vnop c) s = .next s

/-- WAITBEAT (R102): a target past the next beat holds issue, a target already reached counts step slip, one past the epoch traps; the
wait ends in the beat it names. DONE stops issue, and the counter advances once everything has completed (R103). -/
def Sys2Proof.Claims.BeatsAndDone : Prop :=
  ∀ (s : State) (c : CoreRef) (a : BitVec 6) (imm : BitVec 14) (n : BitVec 8),
    let k := s.core c
    (s.canIssue c 3 [.s a] → k.branch = none →
      let b := ((k.s a).toNat + imm.toNat) % 2 ^ 64
      let w := s.epochBeat
      (s.tt.length ≤ b → exec (.waitbeat c a imm) s = .next (s.trap c 3 1 0)) ∧
      (b < s.tt.length →
        (w + 1 < b → ∃ t, exec (.waitbeat c a imm) s = .next t ∧ OnlyCore c s t ∧
          t.core c = { k with waits := .beat b :: k.waits, since := s.clk.beat }) ∧
        (b = w + 1 → exec (.waitbeat c a imm) s = .next s) ∧
        (b ≤ w → ∃ t, exec (.waitbeat c a imm) s = .next t ∧ { t with counters := s.counters } = s ∧
          t.counters.get 0#64 (ctrKey 7 (coreCtr c.ix 0x18)) =
            s.counters.get 0#64 (ctrKey 7 (coreCtr c.ix 0x18)) + BitVec.ofNat 64 (w + 1 - b)))) ∧
    (∃ t, exec (.waitbeatRelease c) s = .next t ∧ OnlyCore c s t ∧
      { t.core c with waits := k.waits } = k ∧
      ∀ x, x ∈ (t.core c).waits ↔ x ∈ k.waits ∧ ∀ b, x = .beat b → s.epochBeat < b) ∧
    (s.canIssue c 3 [] → k.branch = none → ∃ t, exec (.done c n) s = .next t ∧ OnlyCore c s t ∧
      t.core c = { k with run := .draining n.toNat, since := s.clk.beat }) ∧
    (∀ m, k.run = .draining m → k.acts = [] → k.open_ = 0 → k.waits = [] → (∀ u ∈ s.hall, u.src ≠ c.ix) →
      ∃ t, exec (.doneComplete c) s = .next t ∧ OnlyCore c s t ∧ { t.core c with run := k.run, cc := k.cc } = k ∧
        (t.core c).run = .done ∧ (t.core c).ccv m = k.ccv m + 1#32 ∧ ∀ j, j ≠ m → (t.core c).ccv j = k.ccv j)

/-! The M slot -/

/-- LDS and STS (R105): an aligned access inside SRAM of the width of the instruction takes its banks in the issue beat; any other
address is an address fault; a load from an uncorrectable word faults with kind 9 (Table 9.2). -/
def Sys2Proof.Claims.ScalarMoves : Prop :=
  ∀ (s : State) (c : CoreRef) (r a : BitVec 6) (sz : BitVec 2) (sx : BitVec 1) (off : BitVec 12),
    let k := s.core c
    let n := 2 ^ sz.toNat
    let x := (((k.s a).toInt + off.toInt) % 2 ^ 64).toNat
    s.canIssue c 0 [.s a] →
    (x % n = 0 ∧ x < 0x180000 → k.sramErr = [] → s.noBankMeet c s.clk.beat [x / 64 % 24] →
      (s.noCollision c 0 r.toNat (s.clk.beat + 5) →
        Posts (.lds c r a sz sx off) c 0 [⟨s.clk.beat, .loadS r.toNat x n (sx == 1#1), none, 0#4⟩] s) ∧
      (s.canIssue c 0 [.s r] →
        Posts (.sts c r a sz off) c 0 [⟨s.clk.beat, .storeA x (leBytes n (k.s r).toNat), none, 0#4⟩] s)) ∧
    (x % n = 0 ∧ x < 0x180000 → ∀ w, s.badWords c.ix (.loadS r.toNat x n (sx == 1#1)) = [w] →
      ∃ t, exec (.lds c r a sz sx off) s = .next t ∧ t = s.memFault c.ix s.clk.beat k.pc 0 [w] ∧
        (t.core c).run = .faulted ∧ fld (t.core c).fault 3 0 = 9 ∧ (t.core c).sreg = k.sreg ∧ (t.core c).acts = k.acts) ∧
    (¬ (x % n = 0 ∧ x < 0x180000) →
      exec (.lds c r a sz sx off) s = .next (s.trap c 0 2 0) ∧
      (s.canIssue c 0 [.s r] → exec (.sts c r a sz off) s = .next (s.trap c 0 2 0)))

/-- VLD and VST (R106): the 1,024 bytes at an aligned address inside SRAM, sixteen bank slots in the issue beat. -/
def Sys2Proof.Claims.VectorMoves : Prop :=
  ∀ (s : State) (c : CoreRef) (v a : BitVec 6) (off : BitVec 15),
    let k := s.core c
    let x := (((k.s a).toInt + 64 * off.toInt) % 2 ^ 64).toNat
    s.canIssue c 0 [.s a] →
    (x % 64 = 0 ∧ x + 1023 < 0x180000 → k.sramErr = [] →
      s.noBankMeet c s.clk.beat ((List.range 16).map (fun i => (x / 64 + i) % 24)) →
      (s.noCollision c 2 v.toNat (s.clk.beat + 5) → Posts (.vld c v a off) c 0 [⟨s.clk.beat, .loadV v.toNat x, none, 0#4⟩] s) ∧
      (s.canIssue c 0 [.v v] →
        Posts (.vst c v a off) c 0 [⟨s.clk.beat, .storeA x (leBytes 1024 (k.v v).toNat), none, 0#4⟩] s)) ∧
    (¬ (x % 64 = 0 ∧ x + 1023 < 0x180000) →
      exec (.vld c v a off) s = .next (s.trap c 0 2 0) ∧
      (s.canIssue c 0 [.v v] → exec (.vst c v a off) s = .next (s.trap c 0 2 0)))

/-- What an access does in its beat and when it lands (R58, R105, R106): a load gives its register the little-endian value of the
bytes, extended as SX says, six beats after issue; a store's bytes stand in SRAM from two beats after issue, and no other byte
changes. -/
def Sys2Proof.Claims.AccessesLand : Prop :=
  ∀ (s : State) (n : Nat) (a : Act), (s.coreN n).sramErr = [] →
    let k := s.coreN n
    (∀ d addr len sx, a.eff = .loadS d addr len sx → len ≤ 8 →
      let t := s.doAccess n a
      OnlyCoreN n s t ∧ ∃ v : W64,
        t.coreN n = { k with acts := k.acts ++ [{ a with due := s.clk.beat + 5, late := false, eff := .sreg d v }] } ∧
        (sx = false → v.toNat = leNat (k.sram.read addr len)) ∧
        (sx = true → 0 < len → v.toInt = toSigned (8 * len) (leNat (k.sram.read addr len)))) ∧
    (∀ d addr, a.eff = .loadV d addr →
      let t := s.doAccess n a
      OnlyCoreN n s t ∧ ∃ v : VecReg,
        t.coreN n = { k with acts := k.acts ++ [{ a with due := s.clk.beat + 5, late := false, eff := .vreg d v allLanes }] } ∧
        ∀ l, l < 256 → lane v l = leNat (k.sram.read (addr + 4 * l) 4)) ∧
    (∀ addr bs, a.eff = .storeA addr bs →
      let t := s.doAccess n a
      OnlyCoreN n s t ∧ t.coreN n = { k with acts := k.acts ++ [{ a with due := s.clk.beat + 1, late := false, eff := .store addr bs }] }) ∧
    (∀ addr bs, a.eff = .store addr bs → a.fset = none → s.cel.wbSram = [] →
      let t := s.landAct n a
      OnlyCoreN n s t ∧ { t.coreN n with sram := k.sram } = k ∧
        ∀ b, (t.coreN n).sram.get 0#8 b = if addr ≤ b ∧ b < addr + bs.length then bs.getD (b - addr) 0#8 else k.sram.get 0#8 b)

/-- The core that a Hallway move reaches, on the grid of 20 columns and 40 rows (R107). -/
def Sys2Proof.Machine.Reaches (c : CoreRef) (dir : BitVec 2) (hops : BitVec 6) (n : Nat) : Prop :=
  n < 800 ∧
    match dir.toNat with
    | 0 => coreCol n = coreCol c.ix ∧ coreRow n + hops.toNat = coreRow c.ix
    | 1 => coreRow n = coreRow c.ix ∧ coreCol n = coreCol c.ix + hops.toNat
    | 2 => coreCol n = coreCol c.ix ∧ coreRow n = coreRow c.ix + hops.toNat
    | _ => coreRow n = coreRow c.ix ∧ coreCol n + hops.toNat = coreCol c.ix

/-- HMOV and HALLWAY_ARRIVAL (R107, R108): one unit a beat from the source on; an arriving unit is written, counted where CCEN says
so, and gone from the links. -/
def Obligations.HallwayMoves : Prop :=
  (∀ (s : State) (c : CoreRef) (dir : BitVec 2) (hops a : BitVec 6) (n : Nat),
    let x := (s.core c).s a
    let cnt := fld x 48 42 + 1
    let dst := fld x 41 21
    let src := fld x 20 0
    s.canIssue c 0 [.s a] → hops ≠ 0#6 → Reaches c dir hops n → s.clusterUsed (n / 8) = true → fld x 63 58 = 0 →
    (src % 64 = 0 ∧ dst % 64 = 0 ∧ src + 128 * cnt ≤ 0x180000 ∧ dst + 128 * cnt ≤ 0x180000 →
      (s.core c).sramErr = [] → (s.guarded = true → s.linkMeet c.ix dir.toNat hops.toNat cnt = false) →
      (∀ u, u < cnt → s.noBankMeet c (s.clk.beat + u) [(src + 128 * u) / 64 % 24, ((src + 128 * u) / 64 + 1) % 24]) →
      Posts (.hmov c dir hops a) c 0 ((List.range cnt).map (fun u => ⟨s.clk.beat + u,
        .hread u (src + 128 * u) dir.toNat hops.toNat (dst + 128 * u)
          (if x.getLsbD 57 then some (fld x 56 49) else none), none, 0#4⟩)) s) ∧
    (¬ (src % 64 = 0 ∧ dst % 64 = 0 ∧ src + 128 * cnt ≤ 0x180000 ∧ dst + 128 * cnt ≤ 0x180000) →
      exec (.hmov c dir hops a) s = .next (s.trap c 0 2 0))) ∧
  (∀ (s : State) (c : CoreRef) (u : HallUnit),
    let k := s.core c
    s.arrival c.ix = some u → k.bankAt ≠ s.clk.beat → k.sramErr = [] → s.cel.wbSram = [] →
    ∃ t, exec (.hallwayArrival c) s = .next t ∧ t.hall = s.hall.erase u ∧ { t with cores := s.cores, hall := s.hall } = s ∧
      (∀ m, m ≠ c.ix → t.coreN m = s.coreN m) ∧
      (t.core c).sram = k.sram.write u.dst (leBytes 128 u.data.toNat) ∧
      (t.core c).acts = k.acts ++ (match u.cc with
        | some n => [⟨s.clk.beat, s.clk.beat, 4, 0, false, .ccAdd n 1#32, none, 0#4⟩]
        | none => []) ∧
      { t.core c with sram := k.sram, acts := k.acts, banks := k.banks, bankAt := k.bankAt } = k)

/-- FSEND and FSENDM (R139): a route of the right role, cells inside the index space, a departure inside the epoch: the entry is in the
cluster's list with the fields of Table 5.6, and the core counts it as open; where the list is full, the core waits. -/
def Sys2Proof.Claims.Departures : Prop :=
  ∀ (s : State) (c : CoreRef) (a b : BitVec 6) (cc : BitVec 8) (ccen : BitVec 1),
    let x := (s.core c).s a
    let y := (s.core c).s b
    let e := s.route (fld x 63 48)
    let n := fld x 14 0 + 1
    s.canIssue c 0 [.s a, .s b] → fld x 27 15 = 0 → fld y 39 21 = 0 → fld x 47 28 + n ≤ 2 ^ 20 → fld y 63 40 < s.tt.length →
    rtValid e = true → fld y 20 0 % 64 = 0 → fld y 20 0 + 64 * n ≤ 0x180000 →
    let entry (multi : Bool) : Departure :=
      ⟨c.i.val, ccen == 1#1, cc.toNat, fld x 63 48, fld x 47 28, n, s.tt.beat0 + fld y 63 40, fld y 20 0, 0, s.clk.beat, multi⟩
    let enters : Prop := (s.cluster c.k.val).deps.length < 32 ∧ ∀ i, i < 8 → i ≠ c.i.val → s.waitsFor c.k.val i 0 = false
    let sent (i : Instr) (multi : Bool) : Prop :=
      (enters → ∃ t, exec i s = .next t ∧ OnlyCoreCluster c s t ∧
        t.core c = { s.core c with open_ := (s.core c).open_ + 1 } ∧
        t.cluster c.k.val = { s.cluster c.k.val with deps := (s.cluster c.k.val).deps ++ [entry multi] }) ∧
      (32 ≤ (s.cluster c.k.val).deps.length → ∃ t, exec i s = .next t ∧ OnlyCore c s t ∧
        t.core c = { s.core c with waits := (s.core c).waits ++ [.queue (.send (entry multi))], since := s.clk.beat })
    (rtRole e = 1 → (rtOut e).length = 1 → rtLand e = false → sent (.fsend c a b cc ccen) false) ∧
    (rtRole e = 2 → sent (.fsendm c a b cc ccen) true)

/-- PGET, PPUT, PATOM and PCOPY (R141 to R144): operands inside the limits of their rules give the cluster's Pantry queue one operation
with the fields of Tables 5.6 and 5.7, and the core counts it as open. -/
def Sys2Proof.Claims.PantryOperations : Prop :=
  ∀ (s : State) (c : CoreRef) (a b r : BitVec 6),
    let k := s.core c
    let p := (k.s a).toNat
    let y := k.s b
    let here (q : Nat) : Prop := q / 2 ^ 56 = 0 ∧ q / 2 ^ 52 % 16 = s.hallId
    s.ownWork = true → (s.cluster c.k.val).panQ.length < 16 → (∀ i, i < 8 → i ≠ c.i.val → s.waitsFor c.k.val i 1 = false) → here p →
    let queued (i : Instr) (f : PanOp → Prop) : Prop := ∃ t o, exec i s = .next t ∧ OnlyCoreCluster c s t ∧
      t.core c = { k with open_ := k.open_ + 1 } ∧
      t.cluster c.k.val = { s.cluster c.k.val with panQ := (s.cluster c.k.val).panQ ++ [o] } ∧
      o.cluster = c.k.val ∧ o.core = c.i.val ∧ o.steward = false ∧ o.pc = k.pc ∧ o.p = p ∧ f o
    (s.canIssue c 0 [.s a, .s b] →
      (let n := fld y 55 43 + 1
       let l := fld y 20 0
       fld y 42 21 = 0 → 8 ≤ n → n ≤ 4096 → n % 8 = 0 → p % 8 = 0 → l % 8 = 0 → l + n ≤ 0x180000 →
       queued (.pget c a b) (fun o => o.opcode = 0x10 ∧ o.n = n ∧ o.l = l ∧ o.cc = fld y 63 56) ∧
       queued (.pput c a b) (fun o => o.opcode = 0x11 ∧ o.n = n ∧ o.l = l ∧ o.cc = fld y 63 56)) ∧
      (let l := fld y 20 0
       let op := fld y 55 53
       fld y 42 21 = 0 → fld y 52 43 = 0 → op ≤ 3 → p % 8 = 0 → l % 8 = 0 → l + (if op = 0 then 8 else 24) ≤ 0x180000 →
       queued (.patom c a b) (fun o => o.opcode = 0x12 ∧ o.aop = op ∧ o.l = l ∧ o.cc = fld y 63 56))) ∧
    (s.canIssue c 0 [.s a, .s b, .s r] →
      let q := y.toNat
      let z := k.s r
      let n := fld z 29 0 + 1
      fld z 55 30 = 0 → here q → p % 64 = 0 → q % 64 = 0 → n % 64 = 0 →
      queued (.pcopy c a b r) (fun o => o.opcode = 0x13 ∧ o.dst = q ∧ o.n = n ∧ o.cc = fld z 63 56))

/-- LDG and STG (R138): an aligned access to a node of the board goes to a board slot at once, for STG after its bytes are read in
the issue beat. QUEUE_ACCEPT (R149): a queue that has room takes the entry that the core waits to enter, and the core issues again. -/
def Sys2Proof.Claims.BoardAccessesAndQueues : Prop :=
  ∀ (s : State) (c : CoreRef) (a b : BitVec 6) (sz : BitVec 2),
    let k := s.core c
    let p := (k.s a).toNat
    let y := k.s b
    let n := 8 * 2 ^ sz.toNat
    let l := fld y 20 0
    (s.canIssue c 0 [.s a, .s b] → fld y 55 21 = 0 → p % n = 0 → l % n = 0 → l + n ≤ 0x180000 → p / 2 ^ 56 = 0 →
      p / 2 ^ 52 % 16 = s.hallId → s.onBoard (p / 2 ^ 40 % 4096) = true →
      (s.ownWork = true → s.freeTag c.ix ≠ none → ∃ t o, exec (.ldg c a b sz) s = .next t ∧
        t = (s.openBoard o).modCore c (fun k => { k with open_ := k.open_ + 1 }) ∧
        o.cluster = c.k.val ∧ o.core = c.i.val ∧ o.opcode = 0x06 ∧ o.p = p ∧ o.l = l ∧ o.n = n ∧ o.cc = fld y 63 56) ∧
      (k.sramErr = [] → s.noBankMeet c s.clk.beat [l / 64 % 24] → ∃ o, Posts (.stg c a b sz) c 0 [⟨s.clk.beat, .stg o, none, 0#4⟩] s ∧
        o.cluster = c.k.val ∧ o.core = c.i.val ∧ o.opcode = 0x07 ∧ o.p = p ∧ o.l = l ∧ o.n = n ∧ o.cc = fld y 63 56)) ∧
    (∀ d : Departure, k.waits = [.queue (.send d)] → (s.cluster c.k.val).deps.length < 32 → s.queueTurn c k.since (.send d) = true →
      ∃ t, exec (.queueAccept c) s = .next t ∧ OnlyCoreCluster c s t ∧
        t.core c = { k with waits := [], open_ := k.open_ + 1 } ∧
        t.cluster c.k.val = { s.cluster c.k.val with deps := (s.cluster c.k.val).deps ++ [d] })

/-- WAITCC and GUARD_RELEASE (R76, R146), CCSET, CCADD and CCRD (R147): the guard holds issue until its counter is at or past the target
in the half-range order; writes and increments of a counter land at the end of the issue beat. -/
def Obligations.CompletionCounters : Prop :=
  ∀ (s : State) (c : CoreRef) (n : BitVec 8) (a d : BitVec 6) (imm : BitVec 13),
    let k := s.core c
    (s.canIssue c 0 [.s a] →
      (∃ t, exec (.waitcc c n a imm) s = .next t ∧ OnlyCore c s t ∧ t.core c = { k with
        waits := .guard n.toNat (BitVec.ofNat 32 ((k.s a).toNat + imm.toNat)) :: k.waits, since := s.clk.beat }) ∧
      Posts (.ccset c n a imm) c 0 [⟨s.clk.beat, .ccSet n.toNat (BitVec.ofNat 32 ((k.s a).toNat + imm.toNat)), none, 0#4⟩] s ∧
      Posts (.ccadd c n a imm) c 0 [⟨s.clk.beat, .ccAdd n.toNat (BitVec.ofInt 32 ((k.s a).toInt + imm.toInt)), none, 0#4⟩] s) ∧
    (s.canIssue c 0 [] → s.noCollision c 0 d.toNat s.clk.beat →
      Posts (.ccrd c n d) c 0 [⟨s.clk.beat, .sreg d.toNat (BitVec.ofNat 64 (k.ccv n.toNat).toNat), none, 0#4⟩] s) ∧
    (∃ t, exec (.guardRelease c) s = .next t ∧ OnlyCore c s t ∧ { t.core c with waits := k.waits } = k ∧
      ∀ w, w ∈ (t.core c).waits ↔ w ∈ k.waits ∧
        ∀ m g, w = .guard m g → 2 ^ 31 ≤ ((k.ccv m).toNat + 2 ^ 32 - g.toNat) % 2 ^ 32)

/-- What lands in a register (R58, R63, R75, R447): the whole register for a scalar, the masked bits for predicates and vectors, s0 and
p0 discard it; counters are set or added to modulo 2^32. -/
def Sys2Proof.Claims.ResultsLand : Prop :=
  ∀ (k : Core) (n : BitVec 6) (p : BitVec 4) (m : Nat),
    (∀ x, n ≠ 0#6 → let t := k.landReg (.sreg n.toNat x)
      t.s n = x ∧ (∀ j, j ≠ n → t.s j = k.s j) ∧ { t with sreg := k.sreg } = k) ∧
    (∀ x, k.landReg (.sreg 0 x) = k ∧ k.s 0#6 = 0#64 ∧ k.p 0#4 = BitVec.allOnes 256) ∧
    (∀ x mask, k.landReg (.preg 0 x mask) = k) ∧
    (∀ x mask, p ≠ 0#4 → let t := k.landReg (.preg p.toNat x mask)
      (∀ l, l < 256 → (t.p p).getLsbD l = if mask.getLsbD l then x.getLsbD l else (k.p p).getLsbD l) ∧
      (∀ j, j ≠ p → t.p j = k.p j) ∧ { t with preg := k.preg } = k) ∧
    (∀ x mask, let t := k.landReg (.vreg n.toNat x mask)
      (∀ l, l < 8192 → (t.v n).getLsbD l = if mask.getLsbD l then x.getLsbD l else (k.v n).getLsbD l) ∧
      (∀ j, j ≠ n → t.v j = k.v j) ∧ { t with vreg := k.vreg } = k) ∧
    (∀ x, let t := k.landReg (.ccSet m x)
      t.ccv m = x ∧ (∀ j, j ≠ m → t.ccv j = k.ccv j) ∧ { t with cc := k.cc } = k) ∧
    (∀ x, let t := k.landReg (.ccAdd m x)
      (t.ccv m).toNat = ((k.ccv m).toNat + x.toNat) % 2 ^ 32 ∧ (∀ j, j ≠ m → t.ccv j = k.ccv j) ∧ { t with cc := k.cc } = k)

/-! The A slot -/

/-- ACFG, WLOAD and WSWAP (R111 to R113): the low 20 bits of s[a] become the array configuration; a load with permitted formats and
addresses fills the inactive buffer 512 bytes a beat, then its scales, and records its configuration; a swap exchanges the buffers. -/
def Obligations.WeightBuffers : Prop :=
  ∀ (s : State) (c : CoreRef) (a b : BitVec 6),
    let k := s.core c
    let x := (k.s a).toNat
    let y := (k.s b).toNat
    let cfg := k.acfg
    let bytes := 64 * cfgK cfg * codeBits (cfgB cfg) / 8
    let nb := bytes / 512
    let occ := nb + b2n (cfgBsc cfg)
    (s.canIssue c 1 [.s a] → s.noCollision c 3 0 s.clk.beat →
      Posts (.acfg c a) c 1 [⟨s.clk.beat, .acfg (BitVec.ofNat 20 x), none, 0#4⟩] s) ∧
    (s.canIssue c 1 [.s a, .acfg] → (cfgBsc cfg = true → s.canIssue c 1 [.s b]) → cfgOk cfg = true → k.wbFree ≤ s.clk.beat →
      (x % 64 = 0 → x + bytes ≤ 0x180000 → (cfgBsc cfg = true → y % 64 = 0 ∧ y + 2 * cfgK cfg ≤ 0x180000) →
        let l : List Post := (List.range nb).map (fun i => ⟨s.clk.beat + i, .wload (x + 512 * i) i k.fills1, none, 0#4⟩)
          ++ (if cfgBsc cfg then [⟨s.clk.beat + nb, .wscale y (2 * cfgK cfg) k.fills1, none, 0#4⟩] else [])
          ++ [⟨s.clk.beat + occ - 1, .wcfg (BitVec.ofNat 9 cfg.toNat) k.fills1, none, 0#4⟩]
        s.clear c 1 l → PostsAlso (.wload c a b) c 1 l (fun k => { k with wbFree := s.clk.beat + occ }) s) ∧
      (¬ (x % 64 = 0 ∧ x + bytes ≤ 0x180000) → exec (.wload c a b) s = .next (s.trap c 1 2 0))) ∧
    (s.canIssue c 1 [] → cfgOk cfg = false → s.canIssue c 1 [.s a, .acfg] → exec (.wload c a b) s = .next (s.trap c 1 1 0)) ∧
    (s.canIssue c 1 [] → k.wbFree ≤ s.clk.beat →
      PostsAlso (.wswap c) c 1 [⟨s.clk.beat, .swap, none, 0#4⟩] (fun k => { k with wbFree := s.clk.beat + 1 }) s) ∧
    (s.canIssue c 1 [] → s.clk.beat < k.wbFree → s.guarded = true → exec (.wswap c) s = .next (s.trap c 1 7 0))

/-- MMA (R114): with the active buffer's configuration and the tile's mode, row m of A enters b beats after row m - 1, its scales in its
first beat; ASTRIDE separates the rows; the array is taken for M times b beats. A row that reaches the end of SRAM is an address
fault, an operand that the rule forbids an illegal instruction.
Where the rules leave a point open, the choice is the model's: log 13 (which weight buffer is active at issue). -/
def Obligations.MatrixMultiply : Prop :=
  ∀ (s : State) (c : CoreRef) (tile : BitVec 2) (m a b : BitVec 6),
    let k := s.core c
    let x := (k.s a).toNat
    let y := (k.s b).toNat
    let cfg := k.acfg
    let n := m.toNat + 1
    let at_ (i : Nat) : Nat := x + 32 * fld cfg 19 9 * i
    let rb := cfgK cfg * codeBits (fld cfg 2 0) / 8
    s.canIssue c 1 [.s a, .acfg, .mode tile.toNat] → (bitOf cfg 6 = true → s.canIssue c 1 [.s b]) →
    let wide := fld cfg 2 0 = 5 ∨ fld cfg 2 0 = 6
    let legal := fld cfg 8 0 = k.active.cfg.toNat ∧ (k.tile tile.toNat).int32 = bitOf cfg 8 ∧ ¬ (bitOf cfg 6 = true ∧ 5 ≤ fld cfg 2 0) ∧
      ¬ (bitOf cfg 7 = true ∧ 5 ≤ fld cfg 5 3) ∧ x % 32 = 0
    (¬ legal → exec (.mma c tile m a b) s = .next (s.trap c 1 1 0)) ∧
    (legal → 0x180000 < at_ (n - 1) + rb → exec (.mma c tile m a b) s = .next (s.trap c 1 2 0)) ∧
    (legal → at_ (n - 1) + rb ≤ 0x180000 → (bitOf cfg 6 = true → y + n * (cfgK cfg / 32) ≤ 0x180000) → k.arFree ≤ s.clk.beat →
      (¬ wide →
        let l : List Post := (List.range n).map (fun i => ⟨s.clk.beat + i, .mmaRow tile.toNat i (at_ i) rb
          (if bitOf cfg 6 then some (y + i * (cfgK cfg / 32)) else none) k.active cfg, some 16, 0#4⟩)
        s.clear c 1 l → PostsAlso (.mma c tile m a b) c 1 l (fun k => { k with arFree := s.clk.beat + n }) s) ∧
      (wide →
        let l : List Post := (List.range n).flatMap (fun i =>
          [⟨s.clk.beat + 2 * i, .mmaHalf tile.toNat i (at_ i) false none k.active cfg, some 16, 0#4⟩,
           ⟨s.clk.beat + 2 * i + 1, .mmaHalf tile.toNat i (at_ i + 64) true none k.active cfg, some 16, 0#4⟩])
        s.clear c 1 l → PostsAlso (.mma c tile m a b) c 1 l (fun k => { k with arFree := s.clk.beat + 2 * n }) s))

/-- TCLR and DRAIN (R115, R116): a clear sets mode and zeros two beats on; a drain gives rows 4j to 4j + 3 to a vector register after three
beats, raw or converted, advances the tile's drain sequence, and clears the rows at the end of the issue beat where CLR is 1. -/
def Obligations.TileClearAndDrain : Prop :=
  ∀ (s : State) (c : CoreRef) (tile : BitVec 2) (mode : BitVec 1) (j : BitVec 4) (v : BitVec 6) (rm : BitVec 2) (sat : BitVec 1)
    (dfmt : BitVec 2) (clr : BitVec 1),
    let k := s.core c
    let t := tile.toNat
    let tl := k.tile t
    k.acFree ≤ s.clk.beat →
    (s.canIssue c 1 [.tile t] →
      PostsAlso (.tclr c tile mode) c 1 [⟨s.clk.beat + 1, .tclr t (mode == 1#1), none, 0#4⟩]
        (fun k => { k with acFree := s.clk.beat + 1 }) s) ∧
    (s.canIssue c 1 [.mode t, .row t (4 * j.toNat), .row t (4 * j.toNat + 1), .row t (4 * j.toNat + 2), .row t (4 * j.toNat + 3)] →
      s.noCollision c 2 v.toNat (s.clk.beat + 2) →
      (rm = 3#2 ∨ (tl.int32 = false ∧ dfmt = 3#2) → exec (.drain c tile j v rm sat dfmt clr) s = .next (s.trap c 1 1 0)) ∧
      (rm ≠ 3#2 → tl.int32 = true ∨ dfmt ≠ 3#2 →
        ∃ (x : VecReg) (fl : Flags),
          PostsAlso (.drain c tile j v rm sat dfmt clr) c 1
            ([⟨s.clk.beat + 2, .vreg v.toNat x allLanes, some 16, fl⟩]
              ++ if clr = 1#1 then [⟨s.clk.beat, .rowClr t j.toNat, none, 0#4⟩] else [])
            (fun k => { k with acFree := s.clk.beat + 1, dseq := k.dseq.upd 0#42 t (· + 1#42) }) s ∧
          ∀ l, l < 256 →
            let e := (tl.rows.get 0#2048 (4 * j.toNat + l / 64)).toNat / 2 ^ (32 * (l % 64)) % 2 ^ 32
            let u := if rm = 2#2 then s.coreDraw24 k (0xA000 + t) ((k.dseq.get 0#42 t).toNat * 256 + l) else 0
            (tl.int32 = false ∧ dfmt = 0#2 ∨ tl.int32 = true ∧ dfmt = 3#2 → lane x l = e) ∧
            (tl.int32 = false → dfmt = 1#2 → lane x l = (roundTo .bf16 (rmOf rm) (sat == 1#1) u (Fmt.fp32.decode e)).1 % 2 ^ 32) ∧
            (tl.int32 = false → dfmt = 2#2 → lane x l = (roundTo .fp16 (rmOf rm) (sat == 1#1) u (Fmt.fp32.decode e)).1 % 2 ^ 32) ∧
            (tl.int32 = true → dfmt = 0#2 → lane x l = (roundTo .fp32 (rmOf rm) (sat == 1#1) u (Fmt.int32.decode e)).1 % 2 ^ 32)))

/-- What the array's results do when they land (R50, R64, R66, R111, R115): the buffers exchange, the configuration and a tile's mode are
set, a cleared tile reads zero, an integer contribution is added to its row with clamping, and nothing else of the core changes. -/
def Sys2Proof.Claims.ArrayLands : Prop :=
  ∀ (k : Core) (t row : Nat) (mode : Bool) (x : BitVec 20) (g : List Int), g.length = 64 →
    ((k.landReg .swap).active = (if k.act1 then k.wb0 else k.wb1) ∧ { k.landReg .swap with act1 := k.act1 } = k) ∧
    k.landReg (.acfg x) = { k with acfg := x } ∧
    (let u := k.landReg (.tclr t mode)
     (u.tile t).int32 = mode ∧ (∀ r, (u.tile t).rows.get 0#2048 r = 0#2048) ∧ (∀ j, j ≠ t → u.tile j = k.tile j) ∧
       { u with tiles := k.tiles } = k) ∧
    (let u := k.landReg (.rowAdd t row true [g])
     (∀ n, n < 64 →
       let old := ((k.tile t).rows.get 0#2048 row).toNat / 2 ^ (32 * n) % 2 ^ 32
       let new := ((u.tile t).rows.get 0#2048 row).toNat / 2 ^ (32 * n) % 2 ^ 32
       toSigned 32 new = Max.max (-(2 ^ 31)) (Min.min (toSigned 32 old + g.getD n 0) (2 ^ 31 - 1))) ∧
     (∀ r, r ≠ row → (u.tile t).rows.get 0#2048 r = (k.tile t).rows.get 0#2048 r) ∧ (u.tile t).int32 = (k.tile t).int32 ∧
     (∀ j, j ≠ t → u.tile j = k.tile j) ∧ { u with tiles := k.tiles, flags := k.flags } = k)

/-! The V slot -/

/-- VADD, VSUB and VMUL on floating-point types (R125): each selected element of the two sources combined exactly and rounded once, its
flags recorded in the group's set, readable after four beats. -/
def Sys2Proof.Claims.VectorFloatArithmetic : Prop :=
  ∀ (s : State) (c : CoreRef) (g p : BitVec 4) (vd va vb : BitVec 6) (t rm : BitVec 2),
    let k := s.core c
    let f := tFmt t
    let a (e : Nat) : Val := f.decode (fieldAt (k.v va) f.wid e)
    let b (e : Nat) : Val := f.decode (fieldAt (k.v vb) f.wid e)
    let once (r : Val × Flags) (e : Nat) : Nat × Flags :=
      let q := roundTo f (rmOf rm) false (s.vDraw k g (rmOf rm) e) r.1
      (q.1, r.2 ||| q.2)
    s.vReady c g p [vd, va, vb] [.v va, .v vb] → s.noCollision c 2 vd.toNat (s.clk.beat + 3) → t ≠ 3#2 →
    (rm = 3#2 → exec (.vadd c g p vd va vb t rm) s = .next (s.trap c 2 1 0)) ∧
    (rm ≠ 3#2 →
      GivesV (.vadd c g p vd va vb t rm) c 4 vd p f (fun e => once ((a e).add (b e)) e) (some g.toNat) (drawn g rm) s ∧
      GivesV (.vsub c g p vd va vb t rm) c 4 vd p f (fun e => once ((a e).add (b e).neg) e) (some g.toNat) (drawn g rm) s ∧
      GivesV (.vmul c g p vd va vb t rm) c 4 vd p f (fun e => once ((a e).mul (b e)) e) (some g.toNat) (drawn g rm) s)

/-- VADD to VNEG on INT32 and VMIN, VMAX, VABS and VNEG on every type (R125): wrapping integer results, signed comparison, the sign bit
cleared or inverted, the canonical NaN for a NaN, and no flag. -/
def Sys2Proof.Claims.VectorIntegerAndSign : Prop :=
  ∀ (s : State) (c : CoreRef) (g p : BitVec 4) (vd va vb : BitVec 6) (t : BitVec 2),
    let k := s.core c
    let f := tFmt t
    let x (e : Nat) : Nat := fieldAt (k.v va) f.wid e
    let y (e : Nat) : Nat := fieldAt (k.v vb) f.wid e
    let top := 2 ^ (f.wid - 1)
    (s.vReady c g p [vd, va, vb] [.v va, .v vb] → s.noCollision c 2 vd.toNat (s.clk.beat + 1) →
      (t = 3#2 →
        GivesV (.vadd c g p vd va vb t 0#2) c 2 vd p f (fun e => (x e + y e, 0#4)) none id s ∧
        GivesV (.vsub c g p vd va vb t 0#2) c 2 vd p f (fun e => (x e + 2 ^ 32 - y e, 0#4)) none id s ∧
        (s.noCollision c 2 vd.toNat (s.clk.beat + 3) →
          GivesV (.vmul c g p vd va vb t 0#2) c 4 vd p f (fun e => (x e * y e, 0#4)) none id s) ∧
        GivesV (.vmin c g p vd va vb t 0#2) c 2 vd p f
          (fun e => (if toSigned 32 (y e) < toSigned 32 (x e) then y e else x e, 0#4)) none id s ∧
        GivesV (.vmax c g p vd va vb t 0#2) c 2 vd p f
          (fun e => (if toSigned 32 (x e) < toSigned 32 (y e) then y e else x e, 0#4)) none id s) ∧
      (t ≠ 3#2 →
        GivesV (.vmin c g p vd va vb t 0#2) c 2 vd p f (fun e => (maxMinCode f false (x e) (y e), 0#4)) none id s ∧
        GivesV (.vmax c g p vd va vb t 0#2) c 2 vd p f (fun e => (maxMinCode f true (x e) (y e), 0#4)) none id s)) ∧
    (s.vReady c g p [vd, va] [.v va] → s.noCollision c 2 vd.toNat (s.clk.beat + 1) →
      GivesV (.vabs c g p vd va t 0#2) c 2 vd p f (fun e =>
        (if t = 3#2 then (if x e < top then x e else 2 ^ 32 - x e)
         else if (f.decode (x e)).isNan then f.nan else x e % top, 0#4)) none id s ∧
      GivesV (.vneg c g p vd va t 0#2) c 2 vd p f (fun e =>
        (if t = 3#2 then 2 ^ 32 - x e
         else if (f.decode (x e)).isNan then f.nan else (x e + top) % (2 * top), 0#4)) none id s)

/-- The fused forms (R126): product and sum with one rounding, in FP32, in BF16 and in FP16. -/
def Sys2Proof.Claims.VectorFused : Prop :=
  ∀ (s : State) (c : CoreRef) (g p : BitVec 4) (vd va vb vc : BitVec 6) (rm : BitVec 2),
    let k := s.core c
    s.vReady c g p [vd, va, vb, vc] [.v va, .v vb, .v vc] → s.noCollision c 2 vd.toNat (s.clk.beat + 3) → rm ≠ 3#2 →
    let fused (i : Instr) (f : Fmt) (negP negC : Bool) : Prop :=
      GivesV i c 4 vd p f (fun e =>
        let a := f.decode (fieldAt (k.v va) f.wid e)
        let b := f.decode (fieldAt (k.v vb) f.wid e)
        let d := f.decode (fieldAt (k.v vc) f.wid e)
        let pr := a.mul b
        let sum := if pr.2 ≠ 0#4 then (Val.nan, pr.2) else (if negP then pr.1.neg else pr.1).add (if negC then d.neg else d)
        let q := roundTo f (rmOf rm) false (s.vDraw k g (rmOf rm) e) sum.1
        (q.1, sum.2 ||| q.2)) (some g.toNat) (drawn g rm) s
    fused (.vfma c g p vd va vb vc rm) .fp32 false false ∧ fused (.vfms c g p vd va vb vc rm) .fp32 false true ∧
    fused (.vfnma c g p vd va vb vc rm) .fp32 true false ∧ fused (.vfmaB c g p vd va vb vc rm) .bf16 false false ∧
    fused (.vfmsB c g p vd va vb vc rm) .bf16 false true ∧ fused (.vfnmaB c g p vd va vb vc rm) .bf16 true false ∧
    fused (.vfmaH c g p vd va vb vc rm) .fp16 false false ∧ fused (.vfmsH c g p vd va vb vc rm) .fp16 false true ∧
    fused (.vfnmaH c g p vd va vb vc rm) .fp16 true false

/-- The logic and shift forms on whole lanes, counts modulo 32 (R127), and the lane movements VSEL, VBCAST, VGETL, VIOTA and VSHUF (R129). -/
def Sys2Proof.Claims.VectorLogicAndLanes : Prop :=
  ∀ (s : State) (c : CoreRef) (g p : BitVec 4) (vd va vb a d : BitVec 6) (ln : BitVec 8),
    let k := s.core c
    let x (l : Nat) : Nat := lane (k.v va) l
    let y (l : Nat) : Nat := lane (k.v vb) l
    s.noCollision c 2 vd.toNat (s.clk.beat + 1) →
    (s.vReady c g p [vd, va, vb] [.v va, .v vb] →
      GivesV (.vand c g p vd va vb 3#2 0#2) c 2 vd p .int32 (fun l => (x l &&& y l, 0#4)) none id s ∧
      GivesV (.vor c g p vd va vb 3#2 0#2) c 2 vd p .int32 (fun l => (x l ||| y l, 0#4)) none id s ∧
      GivesV (.vxor c g p vd va vb 3#2 0#2) c 2 vd p .int32 (fun l => (x l ^^^ y l, 0#4)) none id s ∧
      GivesV (.vshl c g p vd va vb 3#2 0#2) c 2 vd p .int32 (fun l => (x l * 2 ^ (y l % 32), 0#4)) none id s ∧
      GivesV (.vshr c g p vd va vb 3#2 0#2) c 2 vd p .int32 (fun l => (x l / 2 ^ (y l % 32), 0#4)) none id s ∧
      GivesV (.vsra c g p vd va vb 3#2 0#2) c 2 vd p .int32
        (fun l => ((toSigned 32 (x l) / 2 ^ (y l % 32) % 2 ^ 32).toNat, 0#4)) none id s ∧
      (∃ r, PostsAlso (.vsel c g p vd va vb 0#2 0#2) c 2 [⟨s.clk.beat + 1, .vreg vd.toNat r allLanes, none, 0#4⟩] id s ∧
        ∀ l, l < 256 → lane r l = if (k.p p).getLsbD l then x l else y l) ∧
      (s.noCollision c 2 vd.toNat (s.clk.beat + 2) →
        GivesV (.vshuf c g p vd va vb) c 3 vd p .int32 (fun l => (x (y l % 256), 0#4)) none id s)) ∧
    (s.vReady c g p [vd] [.s a] →
      GivesV (.vbcast c g p vd a) c 2 vd p .int32 (fun _ => ((k.s a).toNat % 2 ^ 32, 0#4)) none id s) ∧
    (s.vReady c g p [vd] [] → GivesV (.viota c g p vd) c 2 vd p .int32 (fun l => (l, 0#4)) none id s) ∧
    (s.vReady c g 0#4 [va] [.v va] → s.noCollision c 0 d.toNat (s.clk.beat + 1) →
      Posts (.vgetl c g 0#4 d va ln) c 2 [⟨s.clk.beat + 1, .sreg d.toNat (BitVec.ofNat 64 (x ln.toNat)), none, 0#4⟩] s)

/-- VCMP and PLOGIC (R128, R130): the condition of the rule in the bits of pd that p selects; a NaN makes every condition false but
"not equal" and "unordered". -/
def Sys2Proof.Claims.VectorPredicates : Prop :=
  ∀ (s : State) (c : CoreRef) (g p pd pa pb : BitVec 4) (va vb : BitVec 6) (t : BitVec 2) (cond fn : BitVec 3) (h : BitVec 1),
    let k := s.core c
    let f := tFmt t
    s.noCollision c 1 pd.toNat (s.clk.beat + 1) →
    (s.vReady c g p [va, vb] [.v va, .v vb] → cond ≠ 7#3 → (t = 3#2 → cond ≠ 6#3) → (f.wid ≠ 16 → h = 0#1) →
      ∃ x : Pred, Posts (.vcmp c g p pd va vb t cond h) c 2 [⟨s.clk.beat + 1, .preg pd.toNat x (k.p p), none, 0#4⟩] s ∧
        ∀ l, l < 256 →
          let e := if f.wid = 16 then 2 * l + h.toNat else l
          let a := f.decode (fieldAt (k.v va) f.wid e)
          let b := f.decode (fieldAt (k.v vb) f.wid e)
          let nan := a.isNan || b.isNan
          x.getLsbD l = match cond.toNat with
            | 0 => !nan && !(a.lt b) && !(b.lt a)
            | 1 => nan || a.lt b || b.lt a
            | 2 => !nan && a.lt b
            | 3 => !nan && !(b.lt a)
            | 4 => !nan && b.lt a
            | 5 => !nan && !(a.lt b)
            | _ => nan) ∧
    (s.vReady c g p [] [.p pa] → (fn ≠ 4#3 → s.canIssue c 2 [.p pb]) → fn.toNat ≤ 4 →
      ∃ x : Pred, Posts (.plogic c g p pd pa pb fn) c 2 [⟨s.clk.beat + 1, .preg pd.toNat x (k.p p), none, 0#4⟩] s ∧
        (fn = 0#3 → x = k.p pa &&& k.p pb) ∧ (fn = 1#3 → x = k.p pa ||| k.p pb) ∧ (fn = 2#3 → x = k.p pa ^^^ k.p pb) ∧
        (fn = 3#3 → x = k.p pa &&& ~~~(k.p pb)) ∧ (fn = 4#3 → x = ~~~(k.p pa)))

/-- VCVT (R131): into a narrow format the elements of part Q, from one the lanes exactly, between FP32 and INT32 lane by lane; one
rounding, and the flags of the selected lanes. -/
def Sys2Proof.Claims.VectorConversions : Prop :=
  ∀ (s : State) (c : CoreRef) (g p : BitVec 4) (vd va : BitVec 6) (sf df : BitVec 4) (q : BitVec 3) (sat : BitVec 1) (rm : BitVec 2)
    (f : Fmt),
    let k := s.core c
    let x (l : Nat) : Nat := lane (k.v va) l
    let u (l : Nat) : Nat := s.vDraw k g (rmOf rm) l
    s.vReady c g p [vd, va] [.v va] → s.noCollision c 2 vd.toNat (s.clk.beat + 2) → rm ≠ 3#2 →
    (sf = 7#4 → Fmt.ofCode df.toNat = some f → f.wid < 32 → q.toNat < 32 / f.wid → (f.alwaysSat = true → sat = 0#1) →
      ∃ r mask fl, PostsAlso (.vcvt c g p vd va sf df q sat rm) c 2 [⟨s.clk.beat + 2, .vreg vd.toNat r mask, some g.toNat, fl⟩]
          (drawn g rm) s ∧
        ∀ l, l < 256 →
          let res := roundTo f (rmOf rm) (sat == 1#1) (u l) (Fmt.fp32.decode (x l))
          fieldAt mask f.wid (256 * q.toNat + l) = (if (k.p p).getLsbD l then 2 ^ f.wid - 1 else 0) ∧
          ((k.p p).getLsbD l = true → fieldAt r f.wid (256 * q.toNat + l) = res.1 % 2 ^ f.wid ∧ res.2 &&& ~~~fl = 0#4)) ∧
    (df = 7#4 → Fmt.ofCode sf.toNat = some f → f.wid < 32 → q.toNat < 32 / f.wid → rm = 0#2 → sat = 0#1 →
      GivesV (.vcvt c g p vd va sf df q sat rm) c 3 vd p .fp32
        (fun l => roundTo .fp32 .rne false 0 (f.decode (elem (k.v va) f (256 * q.toNat + l)))) none id s) ∧
    (sf = 7#4 → df = 8#4 → q = 0#3 → sat = 0#1 →
      GivesV (.vcvt c g p vd va sf df q sat rm) c 3 vd p .int32
        (fun l => toInt32 (rmOf rm) (u l) (Fmt.fp32.decode (x l))) (some g.toNat) (drawn g rm) s) ∧
    (sf = 8#4 → df = 7#4 → q = 0#3 → sat = 0#1 →
      GivesV (.vcvt c g p vd va sf df q sat rm) c 3 vd p .fp32
        (fun l => roundTo .fp32 (rmOf rm) false (u l) (Fmt.int32.decode (x l))) (some g.toNat) (drawn g rm) s) ∧
    (sf = df → exec (.vcvt c g p vd va sf df q sat rm) s = .next (s.trap c 2 1 0))

/-- VMXQ, VPK6 and VUP6 (R132, R133): block b of 32 lanes quantised by R36, its elements in part Q of vd and its scale in byte 8Q + b of
vc; FP6 containers packed six bits apart and unpacked again. -/
def Sys2Proof.Claims.VectorQuantiseAndPack : Prop :=
  ∀ (s : State) (c : CoreRef) (g : BitVec 4) (vd va vc : BitVec 6) (df q : BitVec 3) (rm : BitVec 2) (f : Fmt),
    let k := s.core c
    (s.vReady c g 0#4 [vd, va, vc] [.v va] → vd ≠ vc → Fmt.ofCode df.toNat = some f → df.toNat ≤ 4 → q.toNat < 32 / f.wid →
      rm ≠ 3#2 → s.noCollision c 2 vd.toNat (s.clk.beat + 5) → s.noCollision c 2 vc.toNat (s.clk.beat + 5) →
      ∃ e me fl sc ms, PostsAlso (.vmxq c g 0#4 vd va vc df q rm) c 2
          [⟨s.clk.beat + 5, .vreg vd.toNat e me, some g.toNat, fl⟩, ⟨s.clk.beat + 5, .vreg vc.toNat sc ms, none, 0#4⟩] (drawn g rm) s ∧
        ∀ b, b < 8 →
          let r := mxQuantise f (rmOf rm) ((List.range 32).map (fun i => lane (k.v va) (32 * b + i)))
            (fun i => s.vDraw k g (rmOf rm) (32 * b + i))
          fieldAt sc 8 (8 * q.toNat + b) = r.1 % 256 ∧ fieldAt ms 8 (8 * q.toNat + b) = 255 ∧ r.2.2 &&& ~~~fl = 0#4 ∧
          ∀ i, i < 32 → fieldAt e f.wid (256 * q.toNat + 32 * b + i) = r.2.1.getD i 0 % 2 ^ f.wid ∧
            fieldAt me f.wid (256 * q.toNat + 32 * b + i) = 2 ^ f.wid - 1) ∧
    (s.vReady c g 0#4 [vd, va] [.v va] → s.noCollision c 2 vd.toNat (s.clk.beat + 2) →
      (∃ r, PostsAlso (.vpk6 c g 0#4 vd va) c 2 [⟨s.clk.beat + 2, .vreg vd.toNat r allLanes, none, 0#4⟩] id s ∧
        (∀ e, e < 1024 → fieldAt r 6 e = fieldAt (k.v va) 8 e % 64) ∧ ∀ l, 192 ≤ l → l < 256 → lane r l = 0) ∧
      (∃ r, PostsAlso (.vup6 c g 0#4 vd va) c 2 [⟨s.clk.beat + 2, .vreg vd.toNat r allLanes, none, 0#4⟩] id s ∧
        ∀ e, e < 1024 → fieldAt r 8 e = fieldAt (k.v va) 6 e))

/-- VSF (R134) and the lane reductions (R135): a special function of every selected lane after the unit's latency, its special cases as
Table 2.5 gives them; the tree reduction of the selected elements in every element of vd. -/
def Sys2Proof.Claims.SpecialAndReductions : Prop :=
  ∀ (s : State) (c : CoreRef) (g p : BitVec 4) (vd va : BitVec 6) (fn : BitVec 3) (t : BitVec 2),
    let k := s.core c
    let f := tFmt t
    s.vReady c g p [vd, va] [.v va] →
    (s.hearth.sfuTables = true → fn.toNat ≤ 5 → k.sfFree ≤ s.clk.beat → s.noCollision c 2 vd.toNat (s.clk.beat + s.sfuLat - 1) →
      GivesV (.vsf c g p vd va fn) c s.sfuLat vd p .fp32 (fun l => sfu fn.toNat (lane (k.v va) l)) (some g.toNat)
        (fun k => { k with sfFree := s.clk.beat + 4 }) s) ∧
    (s.sfuLat = if s.latA1 then 12 else 10) ∧
    (∀ n, sfu n 0x7FC00000 = (0x7FC00000, 0#4)) ∧ sfu 0 0 = (0x3F800000, 0#4) ∧ sfu 0 0xFF800000 = (0, 0#4) ∧
    sfu 1 0 = (0xFF800000, fOverflow) ∧ sfu 1 0xBF800000 = (0x7FC00000, fInvalid) ∧ sfu 2 0 = (0x7F800000, fOverflow) ∧
    sfu 3 0xBF800000 = (0x7FC00000, fInvalid) ∧ sfu 4 0xFF800000 = (0xBF800000, 0#4) ∧ sfu 5 0 = (0x3F000000, 0#4) ∧
    (k.rdFree ≤ s.clk.beat →
      let lat := if f.wid = 16 then 11 else 10
      s.noCollision c 2 vd.toNat (s.clk.beat + lat - 1) →
      let reduces (i : Instr) (op : RedOp) (fset : Option Nat) : Prop :=
        let res := reduceList f op (selected f (k.p p) (k.v va))
        ∃ x, PostsAlso i c 2 [⟨s.clk.beat + lat - 1, .vreg vd.toNat x allLanes, fset, res.2⟩]
            (fun k => { k with rdFree := s.clk.beat + 2 }) s ∧
          ∀ e, e < 8192 / f.wid → fieldAt x f.wid e = res.1 % 2 ^ f.wid
      reduces (.vrsum c g p vd va t 0#2) .sum (some g.toNat) ∧ reduces (.vrmax c g p vd va t 0#2) .max none ∧
      reduces (.vrmin c g p vd va t 0#2) .min none)

/-- The value of a lane reduction (R48, R56, R135): nothing selected gives the operation's empty value, one element gives itself with NaNs
made canonical, several their pairwise tree, neighbours first. -/
def Sys2Proof.Claims.ReductionTree : Prop :=
  ∀ (f : Fmt) (op : RedOp),
    (reduceList f .sum [] = (0, 0#4) ∧ reduceList .int32 .max [] = (2 ^ 31, 0#4) ∧ reduceList .int32 .min [] = (2 ^ 31 - 1, 0#4) ∧
      (f ≠ .int32 → reduceList f .max [] = (f.infCode true, 0#4) ∧ reduceList f .min [] = (f.infCode false, 0#4))) ∧
    (∀ x, reduceList f op [x] = (if (f.decode x).isNan then f.nan else x, 0#4)) ∧
    ∀ (n : Nat) (a b : List Nat), a.length = 2 ^ n → b.length = 2 ^ n →
      (treeSum (redOp f op) (a ++ b)).1 = (redOp f op (treeSum (redOp f op) a).1 (treeSum (redOp f op) b).1).1


/-! Samplers and taps -/

/-- What a sampler chooses for the codes `l` of its logits under a descriptor and a draw `u` (R83): token, STATUS, KEPT. -/
def Sys2Proof.Machine.SampChoice (d : SampDesc) (l : List Nat) (u : Nat) : Nat × Nat × Nat :=
  let cand := candidates (if d.bf16 then .bf16 else .fp32) d.scale d.topK l
  if cand = [] then (0xFFFFFFFF, 1, 0) else ((sampPick cand d.topP u).1, 0, (sampPick cand d.topP u).2)

/-- VSAMP (R136): a request inside SRAM enters the sampler's queue. SAMPLER_START (R81, R85): the first request goes into service and
marks its stream; its descriptor and logits are read chunk by chunk where their banks are free (R71). SAMPLER_COMPLETE (R83, R84): once all is
read, the record of Table 3.9 stands at RESULT, the stream advances, the counter is posted. -/
def Sys2Proof.Claims.SampleRequests : Prop :=
  (∀ (s : State) (c : CoreRef) (g : BitVec 4) (slot : BitVec 3) (a : BitVec 6),
    let k := s.core c
    let x := (k.s a).toNat
    let q := (s.cluster c.k.val).sampQ
    s.canIssue c 2 [.s a] → k.groupOk g [] = true →
    (x % 16 = 0 ∧ x + 16 ≤ 0x180000 ∧ x + 16 + 8 * (k.sram.readNat x 16 / 2 ^ 84 % 16) ≤ 0x180000 → q.length < 4 →
      (∀ i, i < 8 → i ≠ c.i.val → s.waitsFor c.k.val i 2 = false) →
      Completes (.vsamp c g 0#4 slot a) s (fun t => OnlyCoreCluster c s t ∧ t.core c = { k with open_ := k.open_ + 1 } ∧
        ∃ r : SampleReq, r.core = c.i.val ∧ r.slot = slot.toNat ∧ r.addr = x ∧
          t.cluster c.k.val = { s.cluster c.k.val with sampQ := q ++ [r] })) ∧
    (¬ (x % 16 = 0 ∧ x + 16 ≤ 0x180000 ∧ x + 16 + 8 * (k.sram.readNat x 16 / 2 ^ 84 % 16) ≤ 0x180000) →
      exec (.vsamp c g 0#4 slot a) s = .next (s.trap c 2 2 0))) ∧
  (∀ (s : State) (k : Fin 100) (r : SampleReq) (rest : List SampleReq),
    let x := s.cluster k.val
    let st := s.strm r.slot
    x.samp = none → x.sampQ = r :: rest → bitOf st 127 = true → bitOf st 126 = false →
    Completes (.samplerStart k) s (fun t =>
      { t with clusters := s.clusters, streams := s.streams, dbg := s.dbg, counters := s.counters } = s ∧
      (∀ j, j ≠ k.val → t.cluster j = s.cluster j) ∧ (∀ j, j ≠ r.slot → t.strm j = s.strm j) ∧
      bitOf (t.strm r.slot) 126 = true ∧ putFld (t.strm r.slot) 126 126 0 = st ∧
      ∃ v : Serving, t.cluster k.val = { x with sampQ := rest, samp := some v } ∧ { v.req with seq := r.seq } = r ∧
        v.start = s.clk.beat ∧ v.busy = true ∧ v.desc = [] ∧ v.data = [] ∧ v.got = 0 ∧ v.bad = false)) ∧
  (∀ (s : State) (k : Nat) (v : Serving) (n a len : Nat), s.sampNext k v = some (n, a, len) → (s.coreN n).sramErr = [] →
    let x := s.coreN n
    let r := s.sampReads k 1 v
    (s.banksFree n a len = false → r = (s, v)) ∧
    (s.banksFree n a len = true → OnlyCoreN n s r.1 ∧ { r.1.coreN n with banks := x.banks, bankAt := x.bankAt } = x ∧
      r.2 = if v.desc.length < descBytes v.desc then { v with desc := v.desc ++ x.sram.read a len }
        else { v with data := x.sram.read a len :: v.data, got := v.got + (x.sram.read a len).length })) ∧
  (∀ (s : State) (k : Fin 100) (v : Serving) (l : List Nat),
    let n := 8 * k.val + v.req.core
    let x := s.coreN n
    let d := v.d
    let bs := v.data.reverse.flatten
    let size := if d.bf16 then 2 else 4
    let st := s.strm v.req.slot
    let u := Sys2Proof.draw ((s.job.map (fun j => j.seed.toNat)).getD 0) 2 (fld st 95 80) (fld st 79 64) (fld st 111 96) (fld st 47 0)
    let (token, status, kept) := SampChoice d l u
    (s.cluster k.val).samp = some v → v.start + (d.total + 255) / 256 + 96 ≤ s.clk.beat → s.sampNext k.val v = none → v.bad = false →
    v.busy = true → d.ok = true → d.result + 16 ≤ 0x180000 → s.banksFree n d.result 16 = true → x.sramErr = [] → s.cel.wbSram = [] →
    bitOf st 127 = true → fld st 95 80 = x.vrank.toNat → fld st 79 64 = x.vcore.toNat →
    l = (List.range (bs.length / size)).map (fun i => leNat ((bs.drop (i * size)).take size)) →
    Completes (.samplerComplete k) s (fun t =>
      { t with cores := s.cores, clusters := s.clusters, streams := s.streams, dbg := s.dbg, counters := s.counters } = s ∧
      (∀ m, m ≠ n → t.coreN m = s.coreN m) ∧ (∀ j, j ≠ v.req.slot → t.strm j = s.strm j) ∧
      (∀ j, j ≠ k.val → t.cluster j = s.cluster j) ∧ t.cluster k.val = { s.cluster k.val with samp := none } ∧
      t.strm v.req.slot = putFld (putFld st 47 0 (fld st 47 0 + 1)) 126 126 0 ∧
      (t.coreN n).sram = x.sram.write d.result (leBytes 16 (token % 2 ^ 32 + status * 2 ^ 32 + kept % 512 * 2 ^ 48 + fld st 47 0 * 2 ^ 64
        + fld st 111 96 * 2 ^ 112)) ∧
      (t.coreN n).acts = x.acts ++ [⟨s.clk.beat, s.clk.beat, 4, 0, false, .ccAdd d.cc 1#32, none, 0#4⟩] ∧
      { t.coreN n with sram := x.sram, acts := x.acts, banks := x.banks, bankAt := x.bankAt, open_ := x.open_ } = x ∧
      (t.coreN n).open_ = x.open_ - 1))

/-- TAP_DEPARTURE_READ (R158, R159, R161): the cell of a unicast departure that is due is read from SRAM and goes toward its port; after
the last cell the departure leaves the list and its counter is posted for the next beat. LANDING_WRITE (R22, R166): payload and counter
of a landing cell in one beat; a fenced module lands no cell (R175). Each takes one of the tap's eight places of the beat (R21). -/
def Sys2Proof.Claims.TapWork : Prop :=
  (∀ (s : State) (k : Fin 100) (d : Departure) (q : Nat),
    let n := 8 * k.val + d.core
    let x := s.coreN n
    let e := s.route d.route
    let b := s.clk.beat
    let a := d.src + 64 * d.done
    (s.cluster k.val).deps = [d] → d.done < d.n → rtShare e ≤ 1 → d.dep + d.done = b → d.issue ≤ b → rtOut e = [q] → rtLand e = false →
    (s.port q).slip.length < 64 → (s.port q).holdsNone = false → s.banksFree n a 64 = true → x.sramErr = [] →
    (s.cluster k.val).tapOut < 8 * (b + 1) →
    Completes (.tapDepartureRead k) s (fun t =>
      { t with cores := s.cores, clusters := s.clusters, ports := s.ports } = s ∧ (∀ m, m ≠ n → t.coreN m = s.coreN m) ∧
      (∀ j, j ≠ k.val → t.cluster j = s.cluster j) ∧ (∀ p, p ≠ q → t.port p = s.port p) ∧
      t.port q = { s.port q with inbound := (s.port q).inbound ++ [⟨⟨0#2,
        BitVec.ofNat 40 ((d.cidx + d.done) % 2 ^ 20 * 2 ^ 20 + d.route % 2 ^ 16 * 2 ^ 4), BitVec.ofNat 512 (x.sram.readNat a 64)⟩,
        b, b + 85, b + 85, ownSource, false⟩] } ∧
      t.cluster k.val = { s.cluster k.val with
        deps := if d.done + 1 = d.n then [] else [{ d with done := d.done + 1 }], tapOut := max (s.cluster k.val).tapOut (8 * b) + 1 } ∧
      (t.coreN n).open_ = (if d.done + 1 = d.n then x.open_ - 1 else x.open_) ∧
      (t.coreN n).acts = (if d.done + 1 = d.n then
        x.acts ++ [⟨b + 1, b, 4, 0, false, if d.ccen then .ccAdd d.cc 1#32 else .flagsOnly, none, 0#4⟩] else x.acts) ∧
      { t.coreN n with banks := x.banks, bankAt := x.bankAt, open_ := x.open_, acts := x.acts } = x)) ∧
  (∀ (s : State) (k : Fin 100),
    s.pan.fenced = true → (∀ l ∈ (s.cluster k.val).landQ, l.kind.rank = 0) → exec (.landingWrite k) s = .next s) ∧
  (∀ (s : State) (k : Fin 100) (l : Landing) (o : Option Nat) (key : Nat),
    let x := s.coreN l.core
    let y := s.cluster k.val
    s.pan.fenced = false → y.landQ = [l] → l.kind = .cell o key → l.due ≤ s.clk.beat → s.banksFree l.core l.addr l.len = true →
    x.sramErr = [] → s.cel.wbSram = [] → y.tapIn < 8 * (s.clk.beat + 1) →
      Completes (.landingWrite k) s (fun t =>
        { t with cores := s.cores, clusters := s.clusters, ports := s.ports } = s ∧ (∀ m, m ≠ l.core → t.coreN m = s.coreN m) ∧
        (∀ j, j ≠ k.val → t.cluster j = s.cluster j) ∧
        t.cluster k.val = { y with landQ := [], landed := y.landed.upd 0 l.entry (· + 1), tapIn := max y.tapIn (8 * s.clk.beat) + 1 } ∧
        (t.coreN l.core).sram = x.sram.write l.addr (leBytes l.len l.payload.toNat) ∧
        (t.coreN l.core).acts = x.acts ++ [⟨s.clk.beat, s.clk.beat, 4, 0, false, .ccAdd l.cc 1#32, none, 0#4⟩] ∧
        { t.coreN l.core with sram := x.sram, acts := x.acts, banks := x.banks, bankAt := x.bankAt } = x ∧
        ∀ p, (o ≠ some p → t.port p = s.port p) ∧
          { t.port p with holding := (s.port p).holding, xoffReqTx := (s.port p).xoffReqTx,
                          xoffRplTx := (s.port p).xoffRplTx, map := (s.port p).map } = s.port p))


/-! Ports -/

/-- SLOT_FILL (R27, R162, R198, R202, R203): in a beat with one slot, in the middle of a frame, a cell marked for retransmission goes
first, then the first scheduled cell, which takes the next sequence number and a place in the replay buffer; with nothing to send a null
cell. A port that neither carries traffic nor trains sends nothing.
Where the rules leave a point open, the choice is the model's: log 13 (slots of a frame by the width, slot offsets). -/
def Obligations.TransmitSlots : Prop :=
  ∀ (s : State) (p : Fin 8),
    let q := s.port p.val
    let b := s.clk.beat
    let others (t : State) : Prop := { t with ports := s.ports, counters := s.counters } = s ∧ ∀ j, j ≠ p.val → t.port j = s.port j
    let due (r : Replay) : Bool := match r.marked with
      | some m => m ≤ b
      | none => false
    (q.state < 3 ∨ 8 < q.state → Completes (.slotFill p) s (fun t => others t ∧ t.counters = s.counters ∧ (t.port p.val).frame = q.frame ∧
      (t.port p.val).replay = q.replay ∧ (t.port p.val).nextSeq = q.nextSeq)) ∧
    (q.state = 7 ∨ q.state = 8 → q.inbound = [] → slotsOf q.width (b - q.upBeat) = 1 → 1 ≤ q.frame.length → q.frame.length < 15 →
      Completes (.slotFill p) s (fun t => others t ∧
        (∀ r, q.replay.find? due = some r →
          (t.port p.val).frame = q.frame ++ [slotWord (q.header r.cell.cls r.seq r.cell.form false) r.cell.payload] ∧
          (t.port p.val).replay = q.replay.map (fun x =>
            if x.seq = r.seq then { x with last := b, count := x.count + 1, marked := none } else x) ∧
          (t.port p.val).slip = q.slip ∧ (t.port p.val).nextSeq = q.nextSeq) ∧
        (∀ e rest, (∀ r ∈ q.replay, due r = false) → q.slip = e :: rest → q.held = false → q.state = 7 → q.excluded = false →
          q.replay.length < 1024 → s.clk.aligned = true →
          (t.port p.val).frame = q.frame ++ [slotWord (q.header e.cell.cls q.nextSeq e.cell.form false) e.cell.payload] ∧
          (t.port p.val).replay = q.replay ++ [⟨q.nextSeq, e.cell, b, 1, none⟩] ∧ (t.port p.val).slip = rest ∧
          (t.port p.val).nextSeq = (q.nextSeq + 1) % 2048) ∧
        ((∀ r ∈ q.replay, due r = false) → q.slip = [] → q.rplQ = [] → q.reqQ = [] → q.idleAt = [] →
          (t.port p.val).frame = q.frame ++ [slotWord (q.header 3#2 0 0#40 true) 0#512] ∧ (t.port p.val).replay = q.replay ∧
          (t.port p.val).nextSeq = q.nextSeq)))

/-- RX_FRAME (R186, R187, R195): the frame that the lanes bring; one whose tag verifies gives its sixteen slots, each held until its release
beat, and its side band; one whose tag fails gives sixteen failed slots. Where HOP_BEATS exceeds this end's half of the trip it is
padded (R215). A port that neither carries traffic nor trains takes nothing. -/
def Sys2Proof.Claims.ReceivedFrames : Prop :=
  ∀ (s : State) (p : Fin 8) (lanes : List (BitVec 2560)),
    let q := s.port p.val
    let w := q.width
    let bits := laneJoin w lanes
    let f := rxDecode bits
    let n := q.rxFrames
    let cells (ok : Bool) (text : Nat → Nat) : List RxCell := (List.range 16).map (fun j =>
      ⟨ok, false, s.clk.beat + (slotBeat w (16 * n + j) - slotBeat w (16 * n)), BitVec.ofNat 80 (text j), BitVec.ofNat 512 (text j / 2 ^ 80)⟩)
    let plain := gcmOpen q.rxKey.toNat (leBytes 4 q.rxSid.toNat ++ leBytes 8 q.rxCtr) f.aad f.ct
    (∀ k, k < 1024 → nfld bits.toNat (10 * k + 9) (10 * k) =
      nfld (lanes.getD (k % 2 ^ (w + 1)) 0#2560).toNat (10 * (k / 2 ^ (w + 1)) + 9) (10 * (k / 2 ^ (w + 1)))) ∧
    (q.state < 3 ∨ 8 < q.state → exec (.rxFrame p lanes) s = .next s) ∧
    (q.state = 7 ∨ q.state = 8 → q.half < q.hop → Completes (.rxFrame p lanes) s (fun t => OnlyPort p.val s t ∧
      t.port p.val = { q with rxWait := q.rxWait ++ [(s.clk.beat + (q.hop - q.half), bits)] })) ∧
    (q.state = 7 ∨ q.state = 8 → q.hop ≤ q.half → q.rxWait = [] → q.rxCtr < 2 ^ 40 → f.corr = true →
      f.sb / 2 ^ 45 % 256 = q.rxCtr % 256 →
      (plain.2 = f.tag → f.sb.testBit 3 = false → f.sb.testBit 4 = false →
        Completes (.rxFrame p lanes) s (fun t =>
          { t with ports := s.ports, counters := s.counters, tim := s.tim } = s ∧ (∀ j, j ≠ p.val → t.port j = s.port j) ∧
          (t.port p.val).rxCtr = q.rxCtr + 1 ∧ (t.port p.val).rxFrames = n + 1 ∧ (t.port p.val).fcMiss = 0 ∧
          (t.port p.val).rx = q.rx ++ cells true (fun j => leNat ((plain.1.drop (74 * j)).take 74)) ∧
          (t.port p.val).outst = q.outst.drop (f.sb / 2 ^ 9 % 16) ∧ (t.port p.val).held = (decide (p.val < 6) && f.sb.testBit 0) ∧
          (t.port p.val).xoffReqRx = f.sb.testBit 1 ∧ (t.port p.val).xoffRplRx = f.sb.testBit 2)) ∧
      (plain.2 ≠ f.tag → (q.tagFails.filter (fun x => s.clk.wall < x + quMs 1000)).length < 3 →
        Completes (.rxFrame p lanes) s (fun t =>
          { t with ports := s.ports, counters := s.counters, hearth := s.hearth, flash := s.flash, sloe := s.sloe, out := s.out,
                   w1Sets := s.w1Sets } = s ∧
          (∀ j, j ≠ p.val → t.port j = s.port j) ∧ (t.port p.val).rxCtr = q.rxCtr + 1 ∧
          (t.port p.val).rx = q.rx ++ cells false (fun _ => 0) ∧ (t.port p.val).outst = q.outst)))

/-- CELL_RELEASE (R189, R195, R199, R200, R206): a failed slot reserves a place in every store and owes an idle cell; a null cell does
nothing; a duplicate is counted and acknowledged again; the next cell in sequence advances CUM, and a relayed scheduled cell goes to its
out-port. -/
def Sys2Proof.Claims.ReleasedCells : Prop :=
  ∀ (s : State) (p : Fin 8) (r : RxCell) (rest : List RxCell),
    let q := s.port p.val
    let seq := fld r.hdr 77 67
    let e := s.route (fld r.hdr 19 4)
    let others (t : State) : Prop := { t with ports := s.ports } = s ∧ ∀ j, j ≠ p.val → t.port j = s.port j
    (q.rx = [] → exec (.cellRelease p) s = .next s) ∧
    (q.rx = r :: rest → r.rel ≤ s.clk.beat → r.old = false →
      (r.ok = false → Completes (.cellRelease p) s (fun t => others t ∧ (t.port p.val).rx = rest ∧ (t.port p.val).noFail = false ∧
        (t.port p.val).resSched = q.resSched + 1 ∧ (t.port p.val).resReq = q.resReq + 1 ∧ (t.port p.val).resRpl = q.resRpl + 1 ∧
        (∀ x, x ∈ (t.port p.val).idleAt ↔ x ∈ q.idleAt ∨ x = r.rel + 2) ∧ (t.port p.val).rxCum = q.rxCum)) ∧
      (r.ok = true → fld r.hdr 79 78 = 3 → fld r.hdr 39 36 ≠ 1 →
        Completes (.cellRelease p) s (fun t => others t ∧ t.port p.val = { q with rx := rest })) ∧
      (r.ok = true → fld r.hdr 79 78 ≠ 3 → q.replay = [] → fld r.hdr 66 56 = q.ackCum →
        ((precedes seq q.rxCum = true ∨ seq ∈ q.rxMarks) →
          Completes (.cellRelease p) s (fun t => { t with ports := s.ports, counters := s.counters } = s ∧
            (∀ j, j ≠ p.val → t.port j = s.port j) ∧ t.counters = (s.bumpPort p.val 0x0B8 1).counters ∧
            (∀ x, x ∈ (t.port p.val).idleAt ↔ x ∈ q.idleAt ∨ x = r.rel + 2) ∧
            { t.port p.val with idleAt := q.idleAt } = { q with rx := rest })) ∧
        (seq = q.rxCum → q.expect = seq → q.rxMarks = [] → fld r.hdr 79 78 = 0 → rtValid e = true → rtRole e = 0 → rtIn e = p.val →
          rtLand e = false → ∀ o, rtOut e = [o] → o ≠ p.val → (s.port o).holdsNone = false →
          Completes (.cellRelease p) s (fun t => { t with ports := s.ports } = s ∧ (∀ j, j ≠ p.val → j ≠ o → t.port j = s.port j) ∧
            (t.port p.val).rx = rest ∧ (t.port p.val).rxCum = (seq + 1) % 2048 ∧ (t.port p.val).expect = (seq + 1) % 2048 ∧
            (t.port p.val).rxMarks = [] ∧ (t.port p.val).store = q.store ++ [r.rel] ∧
            t.port o = { s.port o with inbound := (s.port o).inbound ++ [⟨⟨0#2, BitVec.ofNat 40 (fld r.hdr 39 0), r.data⟩,
              r.rel + 88, r.rel + 88, r.rel + 88, p.val, false⟩] }))))

/-- IDLE_CELL_TIMER (R200), REPLAY_TIMER_EXPIRY (R202), BYPASS_CREDIT_TIMEOUT (R211), REKEY (R194).
Where the rules leave a point open, the choice is the model's: log 13 (when a replay mark counts, when an idle cell is owed). -/
def Obligations.PortTimers : Prop :=
  ∀ (s : State) (p : Fin 8),
    let q := s.port p.val
    let b := s.clk.beat
    (q.state = 7 ∨ q.state = 8 → q.lastNonNull + 512 ≤ b → q.lastNonNull + 512 ∉ q.idleAt →
      Completes (.idleCellTimer p) s (fun t => OnlyPort p.val s t ∧
        t.port p.val = { q with idleAt := q.idleAt ++ [q.lastNonNull + 512] })) ∧
    (b < q.lastNonNull + 512 → Completes (.idleCellTimer p) s (fun t => OnlyPort p.val s t ∧ t.port p.val = q)) ∧
    (∀ r rest, q.replay = r :: rest → q.state = 7 ∨ q.state = 8 → q.timerBase + 1024 ≤ b → r.marked = none → r.count < 16 →
      Completes (.replayTimerExpiry p) s (fun t => { t with ports := s.ports, counters := s.counters } = s ∧
        (∀ j, j ≠ p.val → t.port j = s.port j) ∧ t.counters = (s.bumpPort p.val 0x0B0 1).counters ∧
        t.port p.val = { q with timerBase := b, replay := q.replay.map (fun x =>
          if x.seq = r.seq then { x with marked := some (b + 2) } else x) })) ∧
    (∀ x rest, q.outst = x :: rest → x + 4096 ≤ b → 3 < q.window →
      Completes (.bypassCreditTimeout p) s (fun t => { t with ports := s.ports, counters := s.counters } = s ∧
        (∀ j, j ≠ p.val → t.port j = s.port j) ∧ t.counters = (s.bumpPort p.val 0x0E0 1).counters ∧
        t.port p.val = { q with outst := rest, window := q.window - 1 })) ∧
    (q.keyed = true → 2 ^ 40 ≤ q.txCtr → Completes (.rekey p true) s (fun t => OnlyPort p.val s t ∧
      t.port p.val = { q with
        txSid := q.txSid + 1#32, txCtr := 0, txKey := linkKey q.z q.salt s.nodeId p.val (q.txSid + 1#32) })) ∧
    (q.keyed = true → 2 ^ 40 ≤ q.rxCtr → Completes (.rekey p false) s (fun t => OnlyPort p.val s t ∧
      t.port p.val = { q with
        rxSid := q.rxSid + 1#32, rxCtr := 0, rxKey := linkKey q.z q.salt q.partNode q.partPort (q.rxSid + 1#32) })) ∧
    (q.txCtr < 2 ^ 40 → exec (.rekey p true) s = .next s)

/-- The bypass cell of a module (R209, Table 7.7), its STAMP still to be filled in; CTX is the running context where it has a running job. -/
def Sys2Proof.Machine.OwnCell (s : State) (type : Nat) (body : BitVec 192) : BitVec 256 :=
  BitVec.ofNat 256 (type * 2 ^ 248 + s.nodeId * 2 ^ 236 + (match s.hearth.running with
    | some x => if (s.ctx x).job = 1 then x else 0
    | none => 0) % 16 * 2 ^ 232 + body.toNat)

/-- BARRIER_CELL, FREEZE_CELL, STOP_CELL, BEACON_CELL and FBC_CELL (R177, R338, R397, R398, R405, R408): a cell in hand leaves the
port. A barrier value for this epoch is noted; a freeze or stop of the hall cuts 12 beats later, one that was seen before is counted and
dropped; an FBC cell of another root or operating point is counted, else an invalid count adopts it; a beacon is recorded with its own
stamp. -/
def Sys2Proof.Claims.BypassCells : Prop :=
  ∀ (s : State) (p : Fin 8) (x : BypRx),
    let q := s.port p.val
    let w := bypBody x.cell
    let b := s.clk.beat
    let origin := fld w 191 180
    let seq := fld w 179 160
    let taken (t : State) : Prop := (∀ j, j ≠ p.val → t.port j = s.port j) ∧ t.port p.val = { q with bypRx := [] }
    let sends (t : State) : Prop := ∀ j, { t.port j with bypTx := (s.port j).bypTx, bypRx := (s.port j).bypRx } = s.port j
    q.bypRx = [x] →
    (x.rel + 98 ≤ b → bypType x.cell = 1 →
      (p.val < 6 → fld w 11 8 = 1 → fld w 3 2 ≠ 3 → fld w 27 12 = s.tt.index.toNat % 2 ^ 16 → fld w 39 28 = s.tt.desc →
        s.pan.fenced = false → s.tt.state ≠ 3 →
        Completes (.barrierCell p) s (fun t => { t with ports := s.ports, tt := s.tt } = s ∧ taken t ∧
          t.tt = { s.tt with heard := s.tt.heard ++ [(fld w 3 2, fld w 7 4, fld w 63 40)] })) ∧
      (fld w 11 8 = 0 → Completes (.barrierCell p) s (fun t => taken t ∧ t.tt.heard = s.tt.heard ∧
        0x0713 * 16 + p.val ∈ t.tt.seenEvents))) ∧
    (x.rel + 98 ≤ b → bypType x.cell = 2 →
      ((origin, seq) ∈ s.dbg.seenFreeze → Completes (.freezeCell p) s (fun t =>
        { t with ports := s.ports, dbg := s.dbg, counters := s.counters } = s ∧ taken t ∧ t.counters = (s.bump 7 0x118 1).counters ∧
        { t.dbg with seenFreeze := s.dbg.seenFreeze } = s.dbg)) ∧
      ((origin, seq) ∉ s.dbg.seenFreeze → fld w 159 156 = 8 → s.frozen = none → s.dbg.cutAt = none →
        Completes (.freezeCell p) s (fun t => { t with ports := s.ports, dbg := s.dbg, counters := s.counters } = s ∧ sends t ∧
          t.dbg.cutAt = some (b + 12) ∧ (origin, seq) ∈ t.dbg.seenFreeze ∧
          t.dbg.freeze = BitVec.ofNat 64 (b2n (bitOf s.dbg.freeze 62) * 2 ^ 62 + 2 * 2 ^ 60 + origin * 2 ^ 20 + seq)))) ∧
    (x.rel + 98 ≤ b → bypType x.cell = 4 → (origin, seq) ∉ s.dbg.seenStop → fld w 159 156 = 8 → s.stopped = false →
      s.dbg.stopAt = none →
      Completes (.stopCell p) s (fun t => { t with ports := s.ports, dbg := s.dbg } = s ∧ sends t ∧
        t.dbg.stopAt = some (b + 12) ∧ t.dbg.stop = BitVec.ofNat 64 (2 * 2 ^ 60 + origin * 2 ^ 20 + seq))) ∧
    (x.rel ≤ b → bypType x.cell = 3 → bitOf s.dbg.ctl 31 = true → bitOf s.dbg.ctl 24 = true → s.dbg.trace.length < 4096 →
      Completes (.beaconCell p) s (fun t => { t with ports := s.ports, dbg := s.dbg } = s ∧ taken t ∧
        t.dbg = { s.dbg with trace := s.dbg.trace ++ [BitVec.ofNat 128 (x.fbc.toNat % 2 ^ 48 * 2 ^ 80 + (112 + p.val) * 2 ^ 68
          + 0xC * 2 ^ 64 + bypSrc x.cell * 2 ^ 48 + fld w 159 156 * 2 ^ 32 + fld w 191 160)] })) ∧
    (x.rel ≤ b → bypType x.cell = 5 →
      (¬ (bitOf w 104 = true ∧ fld w 127 116 = s.tim.root ∧ fld w 107 105 = s.clk.baseOp) →
        Completes (.fbcCell p) s (fun t => { t with ports := s.ports, counters := s.counters } = s ∧ taken t ∧
          t.counters = (s.bump 6 0x178 1).counters)) ∧
      (bitOf w 104 = true ∧ fld w 127 116 = s.tim.root ∧ fld w 107 105 = s.clk.baseOp → fld w 115 108 < 254 → q.state = 7 →
        q.excluded = false → p.val < 6 → s.clk.valid = false → bitOf s.tim.fbcCtl 30 = false → s.job = none →
        Completes (.fbcCell p) s (fun t => { t with ports := s.ports, clk := s.clk } = s ∧ taken t ∧
          let now := BitVec.ofNat 65 (2 * (fld w 191 128 + q.hop) + fld w 103 103 + (s.clk.rbcHalf - x.rbch).toNat)
          t.clk = { s.clk with
            rbcHalf := now, fbc := BitVec.ofNat 64 (now.toNat / 2), valid := true, port := p.val, dist := fld w 115 108 + 1 })))

/-- BEACON_SEND (R408) and FBC_CELL_SEND (R337): a mesh port that is up queues its beacon in a beat that is a multiple of
2^BEACON_LOG, and an FBC cell when the RBC enters a new period. -/
def Sys2Proof.Claims.SentBypassCells : Prop :=
  ∀ (s : State) (p : Fin 8),
    let q := s.port p.val
    let n := (s.dbg.beaconSeq.get 0 p.val + 1) % 2 ^ 32
    let queued (t : State) (type : Nat) (body : BitVec 192) : Prop := (∀ j, j ≠ p.val → t.port j = s.port j) ∧
      t.port p.val = { q with bypTx := insertBy (fun x => x.1) (s.clk.beat, OwnCell s type body) q.bypTx }
    p.val < 6 → q.state = 7 → q.excluded = false → q.holdsNone = false →
    (bitOf s.dbg.ctl 29 = true → bitOf s.dbg.ctl 31 = true → s.clk.beat % 2 ^ fld s.dbg.ctl 18 14 = 0 →
      Completes (.beaconSend p) s (fun t => { t with ports := s.ports, dbg := s.dbg } = s ∧
        queued t 3 (BitVec.ofNat 192 (n * 2 ^ 160 + p.val * 2 ^ 156)) ∧
        t.dbg = { s.dbg with beaconSeq := s.dbg.beaconSeq.set 0 p.val n })) ∧
    (bitOf s.dbg.ctl 29 = false → exec (.beaconSend p) s = .next s) ∧
    (s.tim.fbcSent.get 0 p.val ≠ s.rbc / 2 ^ s.tim.period + 1 →
      Completes (.fbcCellSend p) s (fun t => { t with ports := s.ports, tim := s.tim } = s ∧
        queued t 5 (BitVec.ofNat 192 (s.tim.root * 2 ^ 116 + (if s.clk.valid then s.clk.dist % 256 else 255) * 2 ^ 108
          + s.clk.baseOp * 2 ^ 105 + b2n s.clk.valid * 2 ^ 104)) ∧
        t.tim.fbcSent.get 0 p.val = s.rbc / 2 ^ s.tim.period + 1 ∧ { t.tim with fbcSent := s.tim.fbcSent } = s.tim))

/-- REPAIR_REQ, REPAIR_RSP and REPAIR_TIMEOUT (R196): the sender answers with the contribution of the parts named, or MASK 0; a right
contribution verifies the frame; after 1,024 beats the request is sent again.
Where the rules leave a point open, the choice is the model's: log 13. -/
def Obligations.FrameRepair : Prop :=
  ∀ (s : State) (p : Fin 8) (x : BypRx),
    let q := s.port p.val
    let w := bypBody x.cell
    let f := fld w 191 152
    let mask := fld w 151 134
    let b := s.clk.beat
    let others (t : State) : Prop := ∀ j, j ≠ p.val → t.port j = s.port j
    let asked (q : Machine.Port) (type : Nat) (body : BitVec 192) : Machine.Port :=
      { q with bypTx := insertBy (fun x => x.1) (b, OwnCell s type body) q.bypTx }
    (q.bypRx = [x] → x.rel ≤ b → bypType x.cell = 6 → q.holdsNone = false → q.state = 7 ∨ q.state = 8 →
      ((∀ k ∈ q.sent, k.fctr % 2 ^ 40 ≠ f) → Completes (.repairReq p) s (fun t => { t with ports := s.ports } = s ∧ others t ∧
        t.port p.val = asked { q with bypRx := [] } 7 (BitVec.ofNat 192 (f * 2 ^ 152)))) ∧
      (∀ k, q.sent = [k] → k.fctr % 2 ^ 40 = f → Completes (.repairReq p) s (fun t => { t with ports := s.ports } = s ∧ others t ∧
        t.port p.val = asked { q with bypRx := [] } 7 (BitVec.ofNat 192 (f * 2 ^ 152 + mask * 2 ^ 134
          + partHash k.h.toNat (BitVec.ofNat 18 mask) (leBytes 9 k.aad.toNat) (leBytes 1200 k.ct.toNat) false))))) ∧
    (∀ e, q.bypRx = [x] → x.rel ≤ b → bypType x.cell = 7 → x.ok = true → q.pend = [e] → e.fctr % 2 ^ 40 = f → mask = e.mask.toNat →
      mask ≠ 0 → e.tag = e.ekj0 ^^^ e.part ^^^ BitVec.ofNat 128 (fld w 127 0) →
      Completes (.repairRsp p) s (fun t => { t with ports := s.ports, counters := s.counters } = s ∧ others t ∧
        t.counters = (s.bumpPort p.val 0x0D0 1).counters ∧ t.port p.val = { q with bypRx := [], pend := [] })) ∧
    (∀ e, q.pend = [e] → e.asked + 1024 ≤ b → e.tries < 3 → q.holdsNone = false → q.state = 7 ∨ q.state = 8 →
      Completes (.repairTimeout p) s (fun t => { t with ports := s.ports } = s ∧ others t ∧
        t.port p.val = asked { q with pend := [{ e with asked := b, tries := e.tries + 1 }] } 6
          (BitVec.ofNat 192 (e.fctr % 2 ^ 40 * 2 ^ 152 + e.mask.toNat * 2 ^ 134)))) ∧
    ((∀ e ∈ q.pend, b < e.asked + 1024) → exec (.repairTimeout p) s = .next s)

/-! Training -/

/-- `t` is `s` with port `p`, otherwise `q`, in state `st` of Table 7.9 since now, sending that state's pattern (R212). -/
def Sys2Proof.Machine.Enters (p st : Nat) (q : Machine.Port) (s t : State) : Prop :=
  { t with ports := s.ports, out := s.out } = s ∧ (∀ j, j ≠ p → t.port j = s.port j) ∧
    t.port p = { q with state := st, stateAt := s.clk.wall, stateBeat := s.clk.beat } ∧
    t.out = s.out ++ (if 1 ≤ st ∧ st ≤ 6 then [.training p st] else [])

/-- `t` is `s` with port `p` in BACKOFF for `reason`, its other fields those of `q`, and with what the event of R221 writes. -/
def Sys2Proof.Machine.BacksOff (p reason : Nat) (q : Machine.Port) (s t : State) : Prop :=
  { t with ports := s.ports, out := s.out, hearth := s.hearth, flash := s.flash } = s ∧
    (∀ j, j ≠ p → t.port j = s.port j) ∧ (t.port p).state = 10 ∧ (t.port p).reason = reason ∧
    { t.port p with state := q.state, stateAt := q.stateAt, stateBeat := q.stateBeat, reason := q.reason, backoff := q.backoff,
                    lastTrainEvent := q.lastTrainEvent, trainHeld := q.trainHeld } = q

/-- Group `g` of width `w` (Table 7.1) of port `p` exists and has all its lanes in `ok`. -/
def Sys2Proof.Machine.WholeGroup (p : Nat) (ok : W16) (w g : Nat) : Prop :=
  2 ^ (w + 1) * (g + 1) ≤ (if p < 6 then 16 else 8) ∧ ∀ i, i < 2 ^ (w + 1) → ok.getLsbD (2 ^ (w + 1) * g + i) = true

/-- A partner's capability message passes the checks of R213 at port `p`. -/
def Sys2Proof.Machine.CapsFit (s : State) (p : Nat) (m : BitVec 128) : Prop :=
  fld m 53 50 ≤ 1 ∧ 1 ≤ fld m 57 54 ∧ fld m 61 58 ≤ 1 ∧ 1 ≤ fld m 65 62 ∧ bitOf m 66 = true ∧
    (p < 6 → fld m 49 46 = 1 ∧ fld m 45 42 = p ^^^ 1 ∧ fld m 37 26 ≠ s.nodeId) ∧ (6 ≤ p → fld m 49 46 = 2)

/-- SIGNAL_DETECTED, EQUALISE_DONE, ALIGN_DONE, TRAIN_TIMEOUT and BACKOFF_END (R212, R215): DETECT, EQUALISE, ALIGN, CAPS in turn; the
widest permitted width whose lowest whole group is good; a state past its limit gives way to BACKOFF, and BACKOFF to DETECT. -/
def Sys2Proof.Claims.TrainingStates : Prop :=
  ∀ (s : State) (p : Fin 8) (lanes : W16) (width : Fin 4),
    let q := s.port p.val
    let ok := q.lanesOk &&& lanes
    (q.state = 1 → s.clk.linkRun = true → Completes (.signalDetected p) s (Enters p.val 2 q s)) ∧
    (q.state ≠ 1 → exec (.signalDetected p) s = .next s) ∧
    (q.state = 2 → Completes (.equaliseDone p lanes) s (Enters p.val 3 { q with lanesOk := lanes } s)) ∧
    (∀ w g, q.state = 3 → q.reqWidth < 4 → 1 ≤ w → w ≤ 3 → w ≤ q.widthLimit q.reqWidth width.val → WholeGroup p.val ok w g →
      (∀ g', g' < g → ¬ WholeGroup p.val ok w g') → (∀ w' g', w < w' → w' ≤ 3 → w' ≤ q.widthLimit q.reqWidth width.val →
        ¬ WholeGroup p.val ok w' g') →
      Completes (.alignDone p lanes width) s (fun t => { t with ports := s.ports, out := s.out } = s ∧
        (∀ j, j ≠ p.val → t.port j = s.port j) ∧
        ∃ m : BitVec 128, t.out = s.out ++ [.training p.val 4, .capability p.val m] ∧
          t.port p.val = { q with
            width := w, group := g, partLanes := lanes, partWidth := width.val, state := 4, stateAt := s.clk.wall
            stateBeat := s.clk.beat, capOwn := m, trainTx := fragments (leBytes 16 m.toNat) } ∧
          fld m 127 96 = q.inst.toNat ∧ fld m 95 80 = q.lanesOk.toNat ∧ fld m 53 50 = 1 ∧ fld m 57 54 = 1 ∧ fld m 49 46 = 1 ∧
          fld m 45 42 = p.val ∧ fld m 41 38 = s.hallId ∧ fld m 37 26 = s.nodeId)) ∧
    ((∀ w g, 1 ≤ w → w ≤ 3 → w ≤ q.widthLimit q.reqWidth width.val → ¬ WholeGroup p.val ok w g) →
      exec (.alignDone p lanes width) s = .next s) ∧
    (∀ limit, (q.state, limit) ∈ [(2, quMs 40), (3, quUs 200), (4, quUs 50), (5, quUs 500), (6, quUs 50)] →
      (q.stateAt + limit ≤ s.clk.wall → Completes (.trainTimeout p) s (BacksOff p.val 0x0726 q.eraseKeys s)) ∧
      (s.clk.wall < q.stateAt + limit → exec (.trainTimeout p) s = .next s)) ∧
    (q.state = 10 → q.backoff ≤ s.clk.wall → Completes (.backoffEnd p) s (Enters p.val 1 q s)) ∧
    (s.clk.wall < q.backoff → exec (.backoffEnd p) s = .next s)

/-- CAPABILITY_MESSAGE, KEYS_MESSAGE and MEASURE_DONE (R193, R213 to R215): a fitting partner is answered with a fresh ephemeral key
and session id and this module's certificates; a partner whose chain leads to its root and whose signature verifies gives the keys of both
directions; a measured latency inside LAT_LIMIT brings the link up. A partner without such a chain, or a longer link, backs off.
Where the rules leave a point open, the choice is the model's: log 15. -/
def Obligations.TrainingMessages : Prop :=
  ∀ (s : State) (p : Fin 8) (msg : BitVec 128) (pub : BitVec 512) (sid : W32) (chain : List Cert) (sig : BitVec 512)
    (trip partner : Nat),
    let q := s.port p.val
    let others (t : State) : Prop := ∀ j, j ≠ p.val → t.port j = s.port j
    let rooted : Bool := if p.val < 6 then s.chainRooted chain else switchRooted chain
    (q.state = 4 → CapsFit s p.val msg → s.hearth.entropyOk = true → q.trained = false →
      Completes (.capabilityMessage p msg) s (fun t => { t with ports := s.ports, out := s.out, draws := s.draws } = s ∧ others t ∧
        let d := privOf (Config.random s.draws).toNat
        let id : W32 := (Config.random (s.draws + 1)).truncate 32
        t.draws = s.draws + 2 ∧ t.out = s.out ++ [.training p.val 5, .keys p.val (pubOf d) id s.flash.certs] ∧
        t.port p.val = { q with
          capPart := msg, partInst := BitVec.ofNat 32 (fld msg 127 96), protoVer := 1, cellVer := 1, suite := 1
          partClass := fld msg 49 46, partPort := fld msg 45 42, partHall := fld msg 41 38, partNode := fld msg 37 26
          ephKey := BitVec.ofNat 256 d, txSid := id, state := 5, stateAt := s.clk.wall, stateBeat := s.clk.beat
          trainTx := q.trainTx ++ fragments (beBytes 64 (pubOf d).toNat ++ leBytes 4 id.toNat
            ++ s.flash.certs.flatMap (fun c => c.der)) })) ∧
    (q.state = 4 → 1 < fld msg 53 50 → Completes (.capabilityMessage p msg) s (BacksOff p.val 0x0201 q s)) ∧
    (∀ c rest, q.state = 5 → s.nodeId < q.partNode → chain = c :: rest → rooted = true → pubOk (pubX pub) (pubY pub) = true →
      ecdsaVerify c.key (keysDigest q.capOwn q.capPart (pubOf q.ephKey.toNat) pub q.txSid sid) sig = true →
      Completes (.keysMessage p pub sid chain sig) s (fun t => { t with ports := s.ports, out := s.out } = s ∧ others t ∧
        let z : BitVec 256 := BitVec.ofNat 256 (ecdh q.ephKey.toNat pub)
        let salt : BitVec 64 := BitVec.ofNat 64 (q.txSid.toNat * 2 ^ 32 + sid.toNat)
        t.port p.val = { q with
          z := z, salt := salt, rxSid := sid, keyed := true, txKey := linkKey z salt s.nodeId p.val q.txSid
          rxKey := linkKey z salt q.partNode q.partPort sid, txCtr := 0, rxCtr := 0
          trainTx := (List.range 64).map (fun i => Config.trainMsg 2 i 0)
          state := 6, stateAt := s.clk.wall, stateBeat := s.clk.beat } ∧
        ∃ x, t.out = s.out ++ [.keySig p.val x, .training p.val 6])) ∧
    (q.state = 5 → chain = [] ∨ rooted = false → Completes (.keysMessage p pub sid chain sig) s (fun t => others t ∧ (t.port p.val).state = 10 ∧
      (t.port p.val).reason = 0x0501 ∧ (t.port p.val).keyed = false ∧ (t.port p.val).txKey = 0#256 ∧ (t.port p.val).rxKey = 0#256)) ∧
    (q.state = 6 →
      (fld q.limits 8 0 < max ((trip + 1) / 2) partner →
        Completes (.measureDone p trip partner) s (BacksOff p.val 0x0723 { q with half := (trip + 1) / 2 }.eraseKeys s)) ∧
      (max ((trip + 1) / 2) partner ≤ fld q.limits 8 0 →
        Completes (.measureDone p trip partner) s (fun t =>
          { t with ports := s.ports, counters := s.counters, hearth := s.hearth, flash := s.flash, out := s.out } = s ∧ others t ∧
          let u := t.port p.val
          u.state = 7 ∧ u.hop = max ((trip + 1) / 2) partner ∧ u.half = (trip + 1) / 2 ∧ u.reason = 0x0721 ∧ u.rxFrames = 0 ∧ u.window = 8 ∧ u.outst = [] ∧ u.credit = 0 ∧ u.grace = none ∧
          u.holdsNone = false ∧ u.trained = true ∧ u.nextSeq = q.nextSeq ∧ u.rxCum = q.rxCum ∧ u.slip = q.slip ∧
          u.replay.map (fun r => r.seq) = q.replay.map (fun r => r.seq) ∧ (∀ r ∈ u.replay, r.count < 16 → r.marked = some (s.clk.beat + 1)) ∧
          (p.val < 6 → u.excluded = !s.neighbourOk p.val))))

/-- `t` is `s` with port `p` down (R218, R219): in GRACE, its keys erased, its frame dropped, its cells held for the grace period, to go on
to the state `st`. -/
def Sys2Proof.Machine.GoesDown (p st : Nat) (s t : State) : Prop :=
  let q := s.port p
  let u := t.port p
  { t with ports := s.ports, counters := s.counters, hearth := s.hearth, flash := s.flash, out := s.out } = s ∧
    (∀ j, j ≠ p → t.port j = s.port j) ∧ t.counters = (s.bumpPort p 0x0E8 1).counters ∧
    u.state = 9 ∧ u.graceTo = st ∧ u.reason = 0x0720 ∧ u.keyed = false ∧ u.txKey = 0#256 ∧ u.rxKey = 0#256 ∧ u.frame = [] ∧
    u.grace = some (s.clk.wall + quUs (fld q.ctl 16 0)) ∧
    u.slip = q.slip ∧ u.inbound = q.inbound ∧ u.reqQ = q.reqQ ∧ u.rplQ = q.rplQ ∧ u.replay = q.replay ∧ u.nextSeq = q.nextSeq ∧ u.rxCum = q.rxCum

/-- `t` is `s` with the DRAIN of port `p` over (R217): ALIGN, its keys erased, its cells held as in GRACE, its requested width the smaller
of both ends' requests. -/
def Sys2Proof.Machine.DrainEnds (p : Nat) (s t : State) : Prop :=
  let q := s.port p
  let u := t.port p
  { t with ports := s.ports, out := s.out } = s ∧ (∀ j, j ≠ p → t.port j = s.port j) ∧ t.out = s.out ++ [.training p 3] ∧
    u.state = 3 ∧ u.keyed = false ∧ u.txKey = 0#256 ∧ u.rxKey = 0#256 ∧ u.replay = q.replay ∧ u.slip = q.slip ∧
    u.grace = some (s.clk.wall + quUs (fld q.ctl 16 0)) ∧
    (q.partWidth = 0 → u.reqWidth = q.reqWidth) ∧ (q.reqWidth = 0 → u.reqWidth = q.partWidth) ∧
    (q.partWidth ≠ 0 → q.reqWidth ≠ 0 → u.reqWidth = min q.reqWidth q.partWidth)

/-- RETRAIN, FULL_TRAIN, QUIET_WINDOW, RETRAIN_DRAIN_END, LOSS_OF_SIGNAL, TRAINING_PATTERN_SEEN and GRACE_EXPIRY (R216 to R219).
Where the rules leave a point open, the choice is the model's: log 15. -/
def Obligations.RetrainAndLinkDown : Prop :=
  ∀ (s : State) (p : Fin 8) (all : Bool) (width : Fin 4),
    let q := s.port p.val
    (bitOf q.ctl 31 = true → Completes (.retrain p width) s (fun t => OnlyPort p.val s t ∧
      t.port p.val = { q with retrain := true, reqWidth := if width.val = 0 then q.reqWidth else width.val })) ∧
    (bitOf q.ctl 31 = false → exec (.retrain p width) s = .next s) ∧
    (q.state = 7 → q.retrain = true →
      (s.quiet p.val = true → Completes (.quietWindow p) s (fun t => OnlyPort p.val s t ∧
        t.port p.val = { q with retrain := false, rtReq := true })) ∧
      (s.quiet p.val = false → exec (.quietWindow p) s = .next s)) ∧
    (q.state = 8 →
      (q.replay = [] ∨ q.stateBeat + 2048 ≤ s.clk.beat → Completes (.retrainDrainEnd p) s (DrainEnds p.val s)) ∧
      Completes (.trainingPatternSeen p) s (DrainEnds p.val s) ∧
      (q.replay ≠ [] → s.clk.beat < q.stateBeat + 2048 → exec (.retrainDrainEnd p) s = .next s)) ∧
    (q.grace = none →
      (q.state = 7 ∨ q.state = 8 → Completes (.lossOfSignal p all) s (GoesDown p.val (if all then 3 else 1) s) ∧
        Completes (.fullTrain p) s (GoesDown p.val 1 s)) ∧
      (q.state = 7 → Completes (.trainingPatternSeen p) s (GoesDown p.val 3 s))) ∧
    (q.state = 0 → Completes (.fullTrain p) s (fun t => OnlyPort p.val s t ∧ t.port p.val = { q with fullTrain := false, retrain := false })) ∧
    (∀ w, q.grace = some w → q.state ≠ 7 → q.state ≠ 8 →
      (s.clk.wall < w → exec (.graceExpiry p) s = .next s) ∧
      (w ≤ s.clk.wall → q.reqQ = [] → q.rplQ = [] → q.replay = [] → q.pend = [] →
        Completes (.graceExpiry p) s (fun t => { t with ports := s.ports, counters := s.counters, tt := s.tt, hearth := s.hearth,
                                                        flash := s.flash, out := s.out, draws := s.draws
                                                        w1Sets := s.w1Sets } = s ∧
          (∀ j, j ≠ p.val → t.port j = s.port j) ∧
          let u := t.port p.val
          u.inbound = [] ∧ u.slip = [] ∧ u.nextSeq = 0 ∧ u.rxCum = 0 ∧ u.rxMarks = [] ∧ u.bypTx = [] ∧ u.rx = keepAccepted q.rx q.rxCum q.rxMarks ∧ u.grace = none ∧
          u.holdsNone = true ∧ u.inst = (Config.random s.draws).truncate 32 ∧ t.draws = s.draws + 1 ∧
          t.w1Sets = w1Key 3 (0x200 * p.val + 0x008) 24 :: s.w1Sets)))

/-- LNK_CTL_ENABLE (R222): fields are taken while ENABLE is 0; setting ENABLE checks them in the order of the rule and starts at DETECT,
or leaves the port off with the reason; clearing it turns the port off with its keys erased. -/
def Sys2Proof.Claims.PortEnable : Prop :=
  ∀ (s : State) (p : Fin 8) (v : W32),
    let q := s.port p.val
    let w := fld v 28 27
    let g := fld v 16 0
    let need := (if w = 3 then 12 else if w = 2 then 6 else 3) * (2 * fld q.limits 8 0 + 8)
    let cap := fld q.panCtl 27 23
    let fields : W32 := BitVec.ofNat 32 (w * 2 ^ 27 + fld v 24 0)
    let bad : Prop := w = 0 ∨ (w = 3 ∧ 6 ≤ p.val) ∨ g < 10 ∨ 100000 < g ∨ fld v 24 17 = 0 ∨ fld q.limits 8 0 = 0 ∨ cap = 0 ∨ 16 < cap ∨
      2048 < fld q.panCtl 22 12 + fld q.panCtl 11 0 ∨ (p.val < 6 ∧ 2048 < fld q.schedCtl 11 0 + fld q.schedCtl 23 12)
    let small : Prop := (p.val < 6 ∧ 4 * fld q.schedCtl 11 0 < need) ∨ 64 * fld q.panCtl 22 12 < cap * need
    (bitOf q.ctl 31 = false →
      (bitOf v 31 = false → Completes (.lnkCtlEnable p v) s (fun t => OnlyPort p.val s t ∧ t.port p.val = { q with ctl := fields })) ∧
      (bitOf v 31 = true → bitOf v 30 = false → bitOf v 29 = false →
        (¬ bad → ¬ small → Completes (.lnkCtlEnable p v) s (Enters p.val 1 { q with ctl := fields ||| 0x80000000#32 } s)) ∧
        (∀ code, (bad ∧ code = 0x0406) ∨ (¬ bad ∧ small ∧ code = 0x0405) → Completes (.lnkCtlEnable p v) s (fun t =>
          { t with ports := s.ports, hearth := s.hearth, flash := s.flash, out := s.out } = s ∧ (∀ j, j ≠ p.val → t.port j = s.port j) ∧
          t.port p.val = { q with ctl := fields, reason := code })))) ∧
    (bitOf q.ctl 31 = true → bitOf v 31 = false → q.state ≠ 7 → q.state ≠ 8 → q.grace = none →
      Completes (.lnkCtlEnable p v) s (fun t => OnlyPort p.val s t ∧ t.port p.val = { q.eraseKeys with
        ctl := putFld q.ctl 31 31 0, state := 0, retrain := false, rtReq := false, rtAck := false, grace := none }))

/-! Epochs and stewards -/

/-- EPOCH_START (R154, R178, R336): in the first beat in which the RBC is at or above the agreed start, S for a first epoch and S + L + Δ
for a following one, the epoch starts, its FBC set to the RBC, a steward whose section a fault stopped left stopped; before it nothing happens, and while the FBC is invalid the job is held as
paused (R423). -/
def Sys2Proof.Claims.EpochsStart : Prop :=
  ∀ (s : State),
    let at_ := s.tt.start.toNat + (if s.tt.state = 4 then s.tt.length + s.tt.lateness else 0)
    let rbc := s.clk.rbcHalf.toNat / 2
    let late := rbc - at_
    s.tt.state = 1 ∨ s.tt.state = 4 → s.pan.fenced = false →
    (s.clk.valid = true → at_ ≤ rbc → Completes .epochStart s (fun t =>
      { t with clk := s.clk, tt := s.tt, clusters := s.clusters, dbg := s.dbg, counters := s.counters, hearth := s.hearth
               flash := s.flash, out := s.out, w1Sets := s.w1Sets } = s ∧
      t.clk = { s.clk with fbc := BitVec.ofNat 64 rbc } ∧
      t.tt.state = 2 ∧ t.tt.start = BitVec.ofNat 64 at_ ∧ t.tt.beat0 = s.clk.beat - late ∧
      t.tt.length = fld (s.tt.epochs.get 0#64 s.tt.desc) 23 0 + 1 ∧ t.tt.agreed = none ∧ t.tt.ready = none ∧ t.tt.index = s.tt.index ∧
      t.tt.desc = s.tt.desc ∧ t.tt.overrun = (s.tt.overrun || (decide (s.tt.state = 4) && decide (0 < late))) ∧
      (∀ k, k ∉ s.jobClusters → t.cluster k = s.cluster k) ∧
      ∀ k, k ∈ s.jobClusters → (t.cluster k).landed = [] ∧
        (t.cluster k).stw.run =
          (if (s.cluster k).stw.len = 0 then .finished else if (s.cluster k).stw.ended then .stopped else .ready) ∧
        ((s.cluster k).stw.len ≠ 0 → (s.cluster k).stw.ended = false → (t.cluster k).stw.pos = (s.cluster k).stw.sectionAt s.tt.desc ∧ (t.cluster k).stw.halted = false))) ∧
    (s.clk.valid = true → rbc < at_ → exec .epochStart s = .next s) ∧
    (s.clk.valid = false → ∀ x, s.hearth.running = some x → Completes .epochStart s (fun t =>
      { t with tt := s.tt, hearth := s.hearth, flash := s.flash, out := s.out } = s ∧ t.tt = { s.tt with state := 6, pauseNext := false } ∧
      (t.ctx x).job = 2))

/-- BARRIER_READY (R176 to R178, R181): once every section is finished and no scheduled cell is left the module is ready, its lateness
that of its ready beat over the barrier beat; where its block has one module this is Δ, the slip maps close, the index advances and the
next descriptor comes up, or the job ends at a STOP descriptor; else the values of the first phase go out and it waits.
BARRIER_TIMEOUT (R180). -/
def Sys2Proof.Claims.BarrierReadiness : Prop :=
  ∀ (s : State),
    let d := s.tt.epochs.get 0#64 s.tt.desc
    let r := s.clk.beat - s.tt.beat0
    let late := min (r - fld d 47 24) (2 ^ 24 - 1)
    (s.tt.state ≠ 2 → exec .barrierReady s = .next s) ∧
    (s.tt.state = 2 → s.pan.fenced = false → (∀ k, k ∈ s.jobClusters → (s.cluster k).stw.run = .finished) →
      (∀ p, p < 6 → (s.port p).slip = [] ∧ (s.port p).inbound = [] ∧ s.storeUsed p = (s.port p).resSched ∧
        ∀ x ∈ (s.port p).replay, x.cell.cls ≠ 0#2) →
      s.clk.capTarget = none →
      ((∀ a, a < 3 → (s.line a).1 = 1 ∧ (s.line a).2.1 = 0) → s.tt.stopNext = false → s.tt.pauseNext = false → s.clk.valid = true →
        Completes .barrierReady s (fun t =>
          { t with ports := s.ports, tt := s.tt, dbg := s.dbg, counters := s.counters, hearth := s.hearth, flash := s.flash, out := s.out } = s ∧
          t.tt.lateness = late ∧ t.tt.agreed = some late ∧ t.tt.index = s.tt.index + 1#32 ∧ t.tt.desc = fld d 59 48 ∧
          t.tt.state = (if bitOf d 63 then 5 else 4) ∧ t.tt.start = s.tt.start ∧ t.tt.length = s.tt.length ∧
          (∀ p, { t.port p with map := (s.port p).map, maps := (s.port p).maps } = s.port p) ∧
          ∀ p, p < 6 → (t.port p).map.cells = 0 ∧ (t.port p).maps.getLast? =
            some ((s.port p).map.pack p s.nodeId s.tt.start.toNat s.tt.index.toNat))) ∧
      (∀ o, o < (s.line 0).1 → o ≠ (s.line 0).2.1 → (∀ h ∈ s.tt.heard, h.1 = 0 → h.2.1 ≠ o) →
        Completes .barrierReady s (fun t =>
          { t with ports := s.ports, tt := s.tt, dbg := s.dbg, counters := s.counters } = s ∧
          t.tt = { s.tt with
            state := 3, ready := some r, readyAt := s.clk.wall, myLate := late, value := late, phase := 0 } ∧
          ∀ p, { t.port p with bypTx := (s.port p).bypTx } = s.port p))) ∧
    (s.tt.state = 3 → 0x0712 * 16 + 8 ∉ s.tt.seenEvents → s.stopped = false →
      (s.tt.readyAt + quUs (min (max (fld s.tt.ctl 16 0) 10) 100000) ≤ s.clk.wall → Completes .barrierTimeout s (fun t =>
        { t with tt := s.tt, hearth := s.hearth, flash := s.flash, out := s.out, w1Sets := s.w1Sets } = s ∧
        t.w1Sets = w1Key 1 0x00 27 :: s.w1Sets ∧ t.tt = { s.tt with timeout := true, seenEvents := (0x0712 * 16 + 8) :: s.tt.seenEvents })) ∧
      (s.clk.wall < s.tt.readyAt + quUs (min (max (fld s.tt.ctl 16 0) 10) 100000) → exec .barrierTimeout s = .next s))

/-- Steward `k` is about to begin a command of a kind, and no breakpoint halts it (R24, R300, R404). -/
def Sys2Proof.Machine.StwBegins (s : State) (k kind : Nat) : Prop :=
  let t := (s.cluster k).stw
  t.run = .ready ∧ t.halted = false ∧ cmdKind t.cmd = kind ∧ k ∈ s.clk.cluRun ∧ s.pan.fenced = false ∧ s.breakHit k = none

/-- A steward that has begun its command in beat `b`, and stands at run state `run`, `n` commands on. -/
def Sys2Proof.Machine.StwAfter (x : Steward) (b n : Nat) (run : StewardRun) : Steward :=
  { x with run := run, pass := false, seq := (x.seq + 1) % 2 ^ 32, since := b, cur := x.cmd, pos := x.pos + n }

/-- LOAD_PROGRAM, START and CORE_START (R73, R444): the program's groups and bundles, every other item of the core at its load value, SRAM
and identity as they stood; the masked cores start at the epoch beat, or at once where it has passed; one that may not is a fault. -/
def Sys2Proof.Claims.StewardCores : Prop :=
  ∀ (s : State) (k : Fin 100),
    let x := (s.cluster k.val).stw
    let w := cmdArgs x.cmd
    let cores := maskCores k.val w
    let b := s.clk.beat
    let at_ := s.tt.beat0 + fld w 183 160
    let others (t : State) : Prop := (∀ j, j ≠ k.val → t.cluster j = s.cluster j) ∧
      { t.cluster k.val with stw := x } = s.cluster k.val
    let quiet (t : State) : Prop := { t with cores := s.cores, clusters := s.clusters, dbg := s.dbg, counters := s.counters } = s
    let running (c : Core) : Core := { c with
      start := none, run := .running, pc := 0, waits := [], branch := none, skip := none, since := b }
    (StwBegins s k.val 1 →
      (∀ n p bs, cores = [n] → (s.coreN n).mayLoad = true →
        ((s.job.map (fun j => j.progs)).getD []).find? (fun p => p.core == n && p.num == fld w 183 176) = some p → s.cel.symErr = [] →
        (s.hbmRead (s.hearth.running.getD 0) p.off p.len).2 = (bs, 0) →
        Completes (.loadProgram k) s (fun t => quiet t ∧ others t ∧ (t.cluster k.val).stw = StwAfter x b 1 .ready ∧
          (∀ m, m ≠ n → t.coreN m = s.coreN m) ∧
          { t.coreN n with groups := [], istore := [] } = { Core.zero with
            open_ := (s.coreN n).open_, vcore := (s.coreN n).vcore, vrank := (s.coreN n).vrank, sram := (s.coreN n).sram
            sramErr := (s.coreN n).sramErr } ∧
          (∀ g, g < 16 → (t.coreN n).groups.get 0#16 g = BitVec.ofNat 16 (leNat ((bs.drop (2 * g)).take 2))) ∧
          ∀ i, i < (bs.length - 32) / 16 → (t.coreN n).istore.get 0#128 i = BitVec.ofNat 128 (leNat ((bs.drop (32 + 16 * i)).take 16)))) ∧
      (∀ n, n ∈ cores → (s.coreN n).mayLoad = false → Completes (.loadProgram k) s (fun t =>
        { t with clusters := s.clusters, dbg := s.dbg, counters := s.counters, hearth := s.hearth, flash := s.flash, out := s.out } = s ∧
        others t ∧ (t.cluster k.val).stw = { StwAfter x b 0 .stopped with ended := true }))) ∧
    (StwBegins s k.val 2 → cores ≠ [] → (∀ n, n ∈ cores → (s.coreN n).mayStart = true) →
      (b < at_ → Completes (.start k) s (fun t => quiet t ∧ others t ∧ (t.cluster k.val).stw = StwAfter x b 0 .waiting ∧
        ∀ n, t.coreN n = if n ∈ cores then { s.coreN n with start := some at_ } else s.coreN n)) ∧
      (at_ ≤ b → Completes (.start k) s (fun t => quiet t ∧ others t ∧ (t.cluster k.val).stw = StwAfter x b 1 .ready ∧
        ∀ n, t.coreN n = if n ∈ cores then running (s.coreN n) else s.coreN n))) ∧
    (∀ (c : CoreRef) (v : Nat), (s.core c).start = some v →
      (b < v → exec (.coreStart c) s = .next s) ∧
      (v ≤ b → c.k.val ∈ s.clk.cluRun → s.stwIn c.k.val 2 = false → Completes (.coreStart c) s (fun t => OnlyCore c s t ∧
        t.core c = running (s.core c))))

/-- WAIT, STEWARD_WAIT_RELEASE, MOVER, PANTRY, STEWARD_QUEUE_ACCEPT, STREAM and SECTION_END (R76, R80, R141, R267, R300): each begins,
does its work and goes on to the next command; a WAIT, and a command whose queue is full, holds the steward. -/
def Sys2Proof.Claims.StewardCommands : Prop :=
  ∀ (s : State) (k : Fin 100),
    let y := s.cluster k.val
    let x := y.stw
    let w := cmdArgs x.cmd
    let b := s.clk.beat
    let only (t : State) : Prop := { t with clusters := s.clusters, dbg := s.dbg, counters := s.counters } = s ∧
      ∀ j, j ≠ k.val → t.cluster j = s.cluster j
    let mv (seq : Nat) : MoverCmd := ⟨k.val, w, BitVec.ofNat 16 (cmdLayer x.cmd), BitVec.ofNat 16 (cmdOper x.cmd), seq⟩
    (StwBegins s k.val 3 → Completes (.wait k) s (fun t => only t ∧ t.cluster k.val = { y with stw := StwAfter x b 0 .waiting })) ∧
    (x.run = .waiting → cmdKind x.cmd = 3 → k.val ∈ s.clk.cluRun →
      let have_ := ((s.coreN (8 * k.val + fld w 191 189)).ccv (fld w 188 181)).toNat
      ((have_ + 2 ^ 32 - fld w 180 149) % 2 ^ 32 < 2 ^ 31 → Completes (.stewardWaitRelease k) s (fun t => only t ∧
        t.cluster k.val = { y with stw := { x with run := .ready, pos := x.pos + 1 } })) ∧
      (2 ^ 31 ≤ (have_ + 2 ^ 32 - fld w 180 149) % 2 ^ 32 → exec (.stewardWaitRelease k) s = .next s)) ∧
    (StwBegins s k.val 4 → mvFormOk w = true →
      (y.movQ.length < 16 → Completes (.mover k) s (fun t => only t ∧ t.cluster k.val = { y with
        movQ := y.movQ ++ [mv ((x.seq + 1) % 2 ^ 32)], stw := StwAfter x b 1 .ready })) ∧
      (16 ≤ y.movQ.length → Completes (.mover k) s (fun t => only t ∧ t.cluster k.val = { y with stw := StwAfter x b 0 .waiting }))) ∧
    (x.run = .waiting → cmdKind x.cmd = 4 → k.val ∈ s.clk.cluRun → mvFormOk w = true → y.movQ.length < 16 →
      Completes (.stewardQueueAccept k) s (fun t => only t ∧ t.cluster k.val = { y with
        movQ := y.movQ ++ [mv x.seq], stw := { x with run := .ready, pos := x.pos + 1 } })) ∧
    (let e := s.pan.ranks.get 0#32 (fld w 191 176)
     let off := fld e 15 0 * 2 ^ 24 + fld w 175 136
     let n := fld w 99 88 + 1
     let l := fld w 120 100
     StwBegins s k.val 5 → bitOf e 31 = true → off < 2 ^ 40 → s.ownWork = true → y.panQ.length < 16 → fld w 135 132 ≤ 1 →
     8 ≤ n → n ≤ 4096 → n % 8 = 0 → off % 8 = 0 → l % 8 = 0 → l + n ≤ 0x180000 →
     Completes (.pantry k) s (fun t => only t ∧ ∃ o : PanOp,
       t.cluster k.val = { y with panQ := y.panQ ++ [o], stw := StwAfter x b 1 .ready } ∧ o.steward = true ∧ o.cluster = k.val ∧
       o.core = fld w 131 129 ∧ o.opcode = 0x10 + fld w 135 132 ∧
       o.p = s.hallId * 2 ^ 52 + fld e 27 16 * 2 ^ 40 + off ∧ o.l = l ∧ o.n = n ∧ o.cc = fld w 128 121)) ∧
    (let i := fld w 188 186
     let only (t : State) : Prop := { t with clusters := s.clusters, streams := s.streams, dbg := s.dbg, counters := s.counters } = s ∧
       (∀ j, j ≠ k.val → t.cluster j = s.cluster j) ∧ (∀ j, j ≠ i → t.strm j = s.strm j)
     StwBegins s k.val 6 →
     (fld w 191 189 = 0 → (∀ j, j < 8 → j ≠ i → bitOf (s.strm j) 127 = true → fld (s.strm j) 111 96 ≠ fld w 185 170) →
       Completes (.stream k) s (fun t => only t ∧ t.cluster k.val = { y with stw := StwAfter x b 1 .ready } ∧
         bitOf (t.strm i) 127 = true ∧ bitOf (t.strm i) 126 = bitOf (s.strm i) 126 ∧ fld (t.strm i) 111 96 = fld w 185 170 ∧
         fld (t.strm i) 95 80 = fld w 169 154 ∧ fld (t.strm i) 79 64 = fld w 153 138 ∧ fld (t.strm i) 47 0 = fld w 137 90)) ∧
     (fld w 191 189 = 1 → Completes (.stream k) s (fun t => only t ∧ t.cluster k.val = { y with stw := StwAfter x b 1 .ready } ∧
       fld (t.strm i) 47 0 = fld w 137 90 ∧ putFld (t.strm i) 47 0 (fld (s.strm i) 47 0) = s.strm i))) ∧
    (StwBegins s k.val 7 → Completes (.sectionEnd k) s (fun t => only t ∧ t.cluster k.val = { y with stw := StwAfter x b 1 .finished }))

/-! The Pantry class -/

/-- PAN_CTL_ENABLE (R227, R228), PAN_WIN_ENABLE (R246) and CTX_JOB_BLOCK_ENABLE (R230): an enable that passes its checks is set; one that
fails them stays 0, with the reason of the first check that fails. -/
def Obligations.PantryEnables : Prop :=
  ∀ (s : State) (w : Fin 32) (x : Fin 16),
    (s.pan.enable = false →
      (s.nodeMapOk = false → Completes .panCtlEnable s (fun t => t = { s with pan := { s.pan with reason := 0x0408 } })) ∧
      (s.nodeMapOk = true → Completes .panCtlEnable s (fun t =>
        { t with pan := s.pan, ports := s.ports, hearth := s.hearth, flash := s.flash, out := s.out } = s ∧
        t.pan = { s.pan with enable := true } ∧ (∀ p, { t.port p with excluded := (s.port p).excluded } = s.port p) ∧
        ∀ p, p < 6 → (s.port p).state = 7 → (t.port p).excluded = !s.neighbourOk p))) ∧
    (let v := s.pan.win.get 0#128 w.val
     let lo := fld v 39 0
     let hi := fld v 103 64
     let ctx := fld v 126 123
     let bad : Prop := lo % 64 ≠ 0 ∨ (hi + 1) % 64 ≠ 0 ∨ hi < lo ∨ s.rangeMapped lo hi = false
     let meets : Prop := ∃ e ∈ s.pan.win, bitOf e.2 127 = true ∧ fld e.2 126 123 = ctx ∧ fld e.2 39 0 ≤ hi ∧ lo ≤ fld e.2 103 64
     let store : Prop := lo < 0x8B80000000 ∧ (s.inRegions ctx lo (hi + 1 - lo) = false ∨ s.inSave ctx lo hi = true)
     let refused (code : Nat) : Prop := Completes (.panWinEnable w) s (fun t => t = { s with pan := { s.pan with reason := code } })
     bitOf v 127 = false →
     (¬ bad → ¬ meets → ¬ store → Completes (.panWinEnable w) s (fun t => { t with pan := s.pan } = s ∧
       { t.pan with win := s.pan.win } = s.pan ∧ t.pan.win.get 0#128 w.val = putFld v 127 127 1 ∧
       ∀ j, j ≠ w.val → t.pan.win.get 0#128 j = s.pan.win.get 0#128 j)) ∧
     (bad → refused 0x0407) ∧ (¬ bad → meets → refused 0x0401) ∧ (¬ bad → ¬ meets → store → refused 0x040D)) ∧
    (let b := s.pan.jobBlock.get 0#32 x.val
     let org (a : Nat) := fld b (4 * a + 3) (4 * a)
     let ext (a : Nat) := fld b (16 + 4 * a + 3) (16 + 4 * a) + 1
     let none_ : Prop := (s.ctx x.val).state = 0 ∨ (s.ctx x.val).state = 5
     let bad : Prop := (∃ a, a < 3 ∧ (s.ring a ≤ org a ∨ s.ring a < ext a ∨ (s.ring a < org a + ext a ∧ s.wraps a = false))) ∨
       s.inBlock (putFld b 31 31 1) (s.nodeEntry s.nodeId) = false
     let racks : Prop := bitOf s.pan.topoCtl 16 = false ∧ ∃ a i, a < 3 ∧ i < ext a ∧ (org a + i) % s.ring a / 4 ≠ org a / 4
     let refused (code : Nat) : Prop := Completes (.ctxJobBlockEnable x) s (fun t => { t with hearth := s.hearth } = s ∧
       t.ctx x.val = { s.ctx x.val with reason := code } ∧
       (∀ y, y ≠ x.val → t.ctx y = s.ctx y) ∧ { t.hearth with ctxs := s.hearth.ctxs } = s.hearth)
     bitOf b 31 = false →
     (¬ none_ → ¬ bad → ¬ racks → Completes (.ctxJobBlockEnable x) s (fun t => { t with pan := s.pan } = s ∧
       { t.pan with jobBlock := s.pan.jobBlock } = s.pan ∧ t.pan.jobBlock.get 0#32 x.val = putFld b 31 31 1 ∧
       ∀ j, j ≠ x.val → t.pan.jobBlock.get 0#32 j = s.pan.jobBlock.get 0#32 j)) ∧
     (none_ → refused 0x0302) ∧ (¬ none_ → bad → refused 0x040A) ∧ (¬ none_ → ¬ bad → racks → refused 0x0409))

/-- A request passes the check of R245. -/
def Sys2Proof.Machine.Admitted (s : State) (c : Cell) : Prop :=
  let w := c.word
  let off := fld w 39 0
  let ctx := fld w 47 44
  let op := fld w 43 40
  s.pan.fenced = false ∧ s.hearth.running = some ctx ∧ op ≤ 5 ∧ s.rangeMapped off (off + fld w 60 48) = true ∧ ∃ e ∈ s.pan.win, bitOf e.2 127 = true ∧ fld e.2 126 123 = ctx ∧
    fld e.2 39 0 ≤ off ∧ off + fld w 60 48 ≤ fld e.2 103 64 ∧ bitOf e.2 (if op = 0 then 122 else if op = 1 then 121 else 120) = true ∧
    (bitOf e.2 119 = true ∨ s.inBlock (s.pan.jobBlock.get 0#32 ctx) (s.nodeEntry c.src) = true)

/-- The ports of `t` are those of `s`, but for the back-pressure of port `p` (R170, R207). -/
def Sys2Proof.Machine.OnlyPressures (p : Nat) (s t : State) : Prop :=
  (∀ j, j ≠ p → t.port j = s.port j) ∧
    { t.port p with holding := (s.port p).holding, xoffReqTx := (s.port p).xoffReqTx, xoffRplTx := (s.port p).xoffRplTx,
                    map := (s.port p).map } = s.port p

/-- The clusters of `t` are those of `s`, but that the tap of cluster `k` has moved `ins` cells inward and `outs` outward in this beat
(R21). -/
def Sys2Proof.Machine.OnlyTap (k ins outs : Nat) (s t : State) : Prop :=
  let moved (n x : Nat) : Nat := if n = 0 then x else max x (8 * s.clk.beat) + n
  (∀ j, j ≠ k → t.cluster j = s.cluster j) ∧
    t.cluster k = { s.cluster k with tapIn := moved ins (s.cluster k).tapIn, tapOut := moved outs (s.cluster k).tapOut }

/-- PANTRY_REQUEST and PANTRY_ACCESS_DONE (R143, R244, R245): the first request in hand is admitted, or refused with status 1; requests are
served in arrival order; a write or an atomic of SRAM is performed in one beat, when the tap and the bank are free, and its status
gathered for the requester. -/
def Sys2Proof.Claims.PantryTarget : Prop :=
  (∀ (s : State) (x : RxPan) (rest : List RxPan), s.pan.inReq = x :: rest →
    (s.clk.beat < x.elig → exec .pantryRequest s = .next s) ∧
    (x.elig ≤ s.clk.beat →
      (Admitted s x.cell → Completes .pantryRequest s (fun t =>
        t = { s with pan := { s.pan with inReq := rest, serving := s.pan.serving ++ [x] } })) ∧
      (¬ Admitted s x.cell → (∀ g ∈ s.pan.gather, g.node ≠ x.cell.src) → Completes .pantryRequest s (fun t =>
        { t with pan := s.pan, ports := s.ports, counters := s.counters } = s ∧ OnlyPressures x.src s t ∧
        t.counters = (s.bump 4 0x098 1).counters ∧
        t.pan = { s.pan with
          inReq := rest
          gather := s.pan.gather ++ [⟨x.cell.src, s.clk.beat, [statusEntry x.cell.reqId 1 0 0]⟩] })))) ∧
  (∀ (s : State) (n : Nat), n ≠ 0 → exec (.pantryAccessDone n) s = .next s) ∧
  (∀ (s : State) (x : RxPan) (rest : List RxPan) (core a : Nat),
    let w := x.cell.word
    let op := fld w 43 40
    let len := if op = 1 then min (fld w 60 48 + 1) 56 else 8
    let sram := (s.coreN core).sram
    let word := sram.read (32 * (a / 32)) 32
    let old := leNat ((word.drop (a % 32)).take 8)
    let arg (i : Nat) := x.cell.payload.toNat / 2 ^ (64 * i) % 2 ^ 64
    s.pan.serving = x :: rest → s.localOf (fld w 39 0) = .sram core a → (s.coreN core).sramErr = [] → s.cel.wbSram = [] →
    s.banksFree core a (if op = 1 then len else 8) = true → s.tapRoom (core / 8) false ≠ 0 →
    (2 ≤ op → s.tapRoom (core / 8) true ≠ 0) → (∀ g ∈ s.pan.gather, g.node ≠ x.cell.src) → 1 ≤ op → op ≤ 5 →
    let new := match op with
      | 4 => arg 1
      | 5 => if old = arg 2 then arg 1 else old
      | _ => (old + arg 1) % 2 ^ 64
    Completes (.pantryAccessDone 0) s (fun t =>
      { t with cores := s.cores, clusters := s.clusters, pan := s.pan, ports := s.ports, counters := s.counters } = s ∧
      OnlyPressures x.src s t ∧ OnlyTap (core / 8) 1 (if 2 ≤ op then 1 else 0) s t ∧
      (∀ m, m ≠ core → t.coreN m = s.coreN m) ∧ t.counters = (s.bump 4 0x090 1).counters ∧
      { t.coreN core with sram := sram, banks := (s.coreN core).banks, bankAt := (s.coreN core).bankAt } = s.coreN core ∧
      (t.coreN core).sram = (if op = 1 then sram.write a (leBytes len (x.cell.payload.toNat / 2 ^ 64))
        else sram.write (32 * (a / 32)) (word.take (a % 32) ++ leBytes 8 new ++ word.drop (a % 32 + 8))) ∧
      t.pan = { s.pan with
        serving := rest
        gather := s.pan.gather ++ [⟨x.cell.src, s.clk.beat,
          [if op = 1 then statusEntry x.cell.reqId 0 len 0 else statusEntry x.cell.reqId 0 0 (if op = 2 then 0 else old)]⟩] }))

/-- PIECE_OPEN, READ_REPLY_DATA, STATUS_CELL, STATUS_CELL_TIMEOUT, PIECE_TIMEOUT and PIECE_SLOT_HOLD_END (R142, R244, R247, R248): the
next piece of a read takes a slot and sends its request; its data are written at their place, and with the last piece the operation's
counter is posted; a write's piece closes with its status entry; a piece open past the timeout ends its operation as unreachable and
keeps its slot as long again. -/
def Sys2Proof.Claims.PantryRequester : Prop :=
  ∀ (s : State) (x : EngOp) (pc : Piece),
    let o := x.op
    let n := 8 * o.cluster + o.core
    let k := s.coreN n
    let done (t : State) (sram : Mem) : Prop := (∀ m, m ≠ n → t.coreN m = s.coreN m) ∧ (t.coreN n).sram = sram ∧
      (t.coreN n).open_ = k.open_ - 1 ∧
      (t.coreN n).acts = k.acts ++ [⟨s.clk.beat, s.clk.beat, 4, 0, false, .ccAdd o.cc 1#32, none, 0#4⟩] ∧
      { t.coreN n with sram := k.sram, open_ := k.open_, acts := k.acts, banks := k.banks, bankAt := k.bankAt } = k
    (∀ (e : Fin 16) (q rid : Nat), s.pan.ops = [x] → x.engine = e.val → x.err = none → x.next < o.n → o.opcode = 0x10 →
      s.ownWork = false → s.freeSlot e.val = some rid → s.pantryNext (o.p / 2 ^ 40 % 4096) 1 true = .port q → (s.port q).usable = true →
      (∀ y ∈ s.pan.pieces, y.need ≤ y.have_) →
      let len := min 4096 (o.n - x.next)
      Completes (.pieceOpen e) s (fun t => { t with pan := s.pan, ports := s.ports, counters := s.counters } = s ∧
        t.counters = (s.bump 4 0x080 1).counters ∧
        t.pan = { s.pan with
          ops := [{ x with next := x.next + len }], pieces := s.pan.pieces ++ [⟨rid, x.id, .read, x.next, len, [], 0, [], 0, 0, s.clk.wall, none⟩] } ∧
        (∀ j, j ≠ q → t.port j = s.port j) ∧ t.port q = { s.port q with
          reqQ := panInsert ⟨panCell 1 (o.p / 2 ^ 40 % 4096) s.nodeId rid
            (cmdWord len (s.hearth.running.getD 0) 0 (o.p % 2 ^ 40 + x.next)), s.clk.beat + 85, s.clk.beat + 85, s.clk.beat + 85, ownSource,
            false⟩ (s.port q).reqQ })) ∧
    (∀ r : RxPan, s.pan.inRpl = [r] → r.elig ≤ s.clk.beat → s.pan.ops = [x] → s.pan.pieces = [pc] → pc.op = x.id → pc.hold = none →
      x.err = none → o.n ≤ x.next → x.engine < 16 → o.steward = false →
      (pc.kind = .read → r.cell.reqId = pc.rid → pc.rid < 0x8000 → pc.rid % 64 = 0 → 1 ≤ pc.n → pc.n ≤ 64 → pc.got = [] →
        s.banksFree n (o.l + pc.off) pc.n = true → s.tapRoom o.cluster false ≠ 0 → k.sramErr = [] → s.cel.wbSram = [] →
        Completes .readReplyData s (fun t =>
          { t with cores := s.cores, clusters := s.clusters, pan := s.pan, ports := s.ports, dbg := s.dbg, counters := s.counters } = s ∧
          OnlyPressures r.src s t ∧ OnlyTap o.cluster 1 0 s t ∧ t.pan = { s.pan with inRpl := [], ops := [], pieces := [] } ∧
          done t (k.sram.write (o.l + pc.off) (leBytes pc.n r.cell.payload.toNat)))) ∧
      (pc.kind = .write → r.got = [] → r.cell.reqId = 0xFFFF → r.cell.payload.toNat / 2 ^ 128 = 0 →
        bitOf r.cell.payload 31 = true → fld r.cell.payload 15 0 = pc.rid → pc.rid % 64 = 0 → pc.rid < 0x8000 →
        fld r.cell.payload 23 16 = 0 → pc.n ≤ pc.bytes + fld r.cell.payload 47 32 →
        Completes .statusCell s (fun t =>
          { t with cores := s.cores, pan := s.pan, ports := s.ports, dbg := s.dbg, counters := s.counters } = s ∧ OnlyPressures r.src s t ∧
          t.pan = { s.pan with inRpl := [], ops := [], pieces := [] } ∧ done t k.sram))) ∧
    (∀ r : RxPan, s.pan.inRpl = [r] → r.elig ≤ s.clk.beat → s.pan.pieces = [] → r.cell.reqId ≠ 0xFFFF →
      Completes .readReplyData s (fun t => { t with pan := s.pan, ports := s.ports, counters := s.counters } = s ∧
        OnlyPressures r.src s t ∧ t.pan = { s.pan with inRpl := [] } ∧ t.counters = (s.bump 4 0x0B8 1).counters)) ∧
    (∀ (g : StatusGather) (q : Nat), s.pan.gather = [g] →
      (s.clk.beat < g.first + 64 → exec .statusCellTimeout s = .next s) ∧
      (g.first + 64 ≤ s.clk.beat → g.node < 4096 → s.pantryNext g.node 2 true = .port q → (s.port q).usable = true →
        Completes .statusCellTimeout s (fun t => { t with pan := s.pan, ports := s.ports } = s ∧ t.pan = { s.pan with gather := [] } ∧
          (∀ j, j ≠ q → t.port j = s.port j) ∧ t.port q = { s.port q with
            rplQ := panInsert ⟨panCell 2 g.node s.nodeId 0xFFFF (packBits 128 (g.entries.map BitVec.toNat)), s.clk.beat + 85,
              s.clk.beat + 85, s.clk.beat + 85, ownSource, false⟩ (s.port q).rplQ }))) ∧
    (let lim := quUs (min (max s.pan.timeout.toNat 1000) 10000000)
     s.pan.pieces = [pc] →
     (pc.hold = none → s.clk.wall < pc.opened + lim → exec .pieceTimeout s = .next s) ∧
     (s.stopped = true → exec .pieceTimeout s = .next s) ∧
     (s.stopped = false → pc.hold = none → pc.opened + lim ≤ s.clk.wall → s.pan.ops = [x] → pc.op = x.id → x.err = none → o.steward = false →
       bitOf (s.pan.panErr.get 0#64 o.cluster) 63 = false →
       Completes .pieceTimeout s (fun t =>
         { t with cores := s.cores, pan := s.pan, dbg := s.dbg, counters := s.counters, hearth := s.hearth, flash := s.flash, out := s.out
                  w1Sets := s.w1Sets } = s ∧ t.w1Sets = w1Key 4 (0x404 + 8 * o.cluster) 31 :: s.w1Sets ∧
         (∀ m, m ≠ n → t.coreN m = s.coreN m) ∧ t.coreN n = { k with open_ := k.open_ - 1 } ∧
         t.pan.pieces = [{ pc with hold := some (s.clk.wall + lim) }] ∧ t.pan.ops = [] ∧ t.pan.dead = s.pan.dead ++ [o] ∧
         fld (t.pan.panErr.get 0#64 o.cluster) 15 0 = 0x0702 ∧ bitOf (t.pan.panErr.get 0#64 o.cluster) 63 = true)) ∧
     (∀ w, pc.hold = some w → Completes .pieceSlotHoldEnd s (fun t =>
       t = { s with pan := { s.pan with pieces := if w ≤ s.clk.wall then [] else [pc] } })))

/-! The Cellar -/

/-- Mover `m` has its last chunk of command `c` moved in `t`: it is free, and its counter is posted (R268, R269). -/
def Sys2Proof.Machine.MoverEnds (m : Nat) (c : MoverCmd) (n : Nat) (s t : State) (sram : Mem) : Prop :=
  let k := s.coreN c.place
  (∀ j, j ≠ c.place → t.coreN j = s.coreN j) ∧ (t.coreN c.place).sram = sram ∧
    (t.coreN c.place).acts = k.acts ++ [⟨s.clk.beat, s.clk.beat, 4, 0, false, .ccAdd (mvCc c.args) (BitVec.ofNat 32 n), none, 0#4⟩] ∧
    { t.coreN c.place with sram := k.sram, acts := k.acts, banks := k.banks, bankAt := k.bankAt } = k ∧
    t.cel.movers = s.cel.movers.set none m none

/-- MOVER_START (R266, R267): a free mover takes the oldest command of the next cluster of its quarter, or refuses one that breaks R266.
READ, WRITE, FILL and MOVER_CHUNK_DONE (R268, R269): a chunk of a READ is decrypted into SRAM, a whole block of a WRITE or FILL is sealed
and stored, each chunk counted; the last one frees the mover.
Where the rules leave a point open, the choice is the model's: log 13 (bytes a beat, order among movers). -/
def Obligations.MoverWork : Prop :=
  ∀ (s : State) (m : Fin 32),
    (∀ j c rest,
      let v := s.cel.lastServed.get 0 m.val
      let at_ (i : Nat) := 25 * (m.val / 8) + (v + i) % 25
      let k := at_ j
      let n := (s.dbg.engSeq.get 0 ((100 + m.val / 8) * 32 + m.val % 8) + 1) % 2 ^ 32
      s.mover m.val = none → s.celOn = true → j < 25 → (∀ i, i < j → (s.cluster (at_ i)).movQ = []) → (s.cluster k).movQ = c :: rest →
      s.mvMayStart c = true → mvFormOk c.args = true → s.slotHeld c = true →
      Completes (.moverStart m) s (fun t =>
        { t with clusters := s.clusters, cel := s.cel, dbg := s.dbg, counters := s.counters } = s ∧
        (∀ i, i ≠ k → t.cluster i = s.cluster i) ∧ t.cluster k = { s.cluster k with movQ := rest } ∧
        t.cel = { s.cel with
          movers := s.cel.movers.set none m.val (some ⟨{ c with seq := n }, s.clk.beat, 0, false, 0⟩)
          lastServed := s.cel.lastServed.set 0 m.val (k % 25 + 1) })) ∧
    (∀ x, s.mover m.val = some x → exec (.moverStart m) s = .next s) ∧
    (∀ (x : Mover),
      let c := x.cmd
      let w := c.args
      let k := s.coreN c.place
      let h := mvHbmAt w x.done
      let a := mvSramAt w x.done
      let ctx := s.hearth.running.getD 0
      let key := s.cel.keys.get KeySet.zero ctx
      let frame (t : State) : Prop := { t with cores := s.cores, clusters := s.clusters, cel := s.cel, dbg := s.dbg, counters := s.counters } = s
      let sealed (t : State) (bs : List Byte) : Prop := { t.cel with movers := s.cel.movers } = { s.cel with
        blocks := s.cel.blocks.set none (h / 256) (some (sealBlock key.z ctx key.epoch (h / 256) bs)) }
      s.mover m.val = some x → s.celOn = true → x.failed = false → mvHash w = false → s.refreshing h = false → s.cel.symErr = [] →
      k.sramErr = [] → s.cel.wbSram = [] → s.cel.wbHbm = [] → s.landsFor c.cluster m.val = false →
      (∀ bs, mvOp w = 0 → s.banksFree c.place a 64 = true → s.tapRoom c.cluster false ≠ 0 → x.start + (if s.fuses.b0 then 38 else 44) ≤ s.clk.beat →
        (s.hbmRead ctx h 64).2 = (bs, 0) →
        (x.done + 1 = mvTotal w → Completes (.read m) s (fun t => frame t ∧ OnlyTap c.cluster 1 0 s t ∧
          MoverEnds m.val c 1 s t (k.sram.write a bs) ∧ { t.cel with movers := s.cel.movers } = s.cel)) ∧
        (x.done + 1 < mvTotal w → Completes (.moverChunkDone m) s (fun t => frame t ∧ OnlyTap c.cluster 1 0 s t ∧
          t.cel = { s.cel with movers := s.cel.movers.set none m.val (some { x with done := x.done + 1 }) } ∧
          (t.coreN c.place).sram = k.sram.write a bs ∧ (∀ j, j ≠ c.place → t.coreN j = s.coreN j) ∧
          (t.coreN c.place).acts = k.acts ++ [⟨s.clk.beat, s.clk.beat, 4, 0, false, .ccAdd (mvCc w) 1#32, none, 0#4⟩]))) ∧
      (x.done + 4 = mvTotal w → h % 256 = 0 → x.done % mvRowChunks w + 4 ≤ mvRowChunks w → s.hbmAllowed ctx h 256 = true →
        (mvOp w = 1 → (∀ j, j < 4 → s.banksFree c.place (a + 64 * j) 64 = true) → 4 ≤ s.tapRoom c.cluster true →
          Completes (.write m) s (fun t => frame t ∧ OnlyTap c.cluster 0 4 s t ∧ MoverEnds m.val c 4 s t k.sram ∧ sealed t (k.sram.read a 256))) ∧
        (mvOp w = 2 → Completes (.fill m) s (fun t => frame t ∧ OnlyTap c.cluster 0 0 s t ∧ MoverEnds m.val c 4 s t k.sram ∧ sealed t (List.replicate 256 0#8)))))

/-- HASH_OPEN, HASH_COMPRESS and HASH_CLOSE (R272, R273): a slot starts a message for its cluster; an engine takes one block of 64 bytes; the
digest is written and the slot freed, or, for a slot that missed a chunk, nothing is written. -/
def Obligations.HashSlots : Prop :=
  (∀ (s : State) (m : Fin 32) (x : Mover),
    let c := x.cmd
    let w := c.args
    let i := mvSlot w
    let h := s.hashSlot i
    let k := s.coreN c.place
    let hashes (t : State) (y : HashSlot) : Prop := t.hashSlot i = y ∧ (∀ j, j ≠ i → t.hashSlot j = s.hashSlot j) ∧
      { t.cel with movers := s.cel.movers, hash := s.cel.hash, err := s.cel.err, reason := s.cel.reason } = s.cel
    s.mover m.val = some x → s.celOn = true →
    (mvOp w = 3 → (h.isOpen = true → h.cluster = c.cluster) → Completes (.hashOpen m) s (fun t =>
      { t with cores := s.cores, cel := s.cel, dbg := s.dbg, counters := s.counters } = s ∧ MoverEnds m.val c 1 s t k.sram ∧
      t.cel.reason = s.cel.reason ∧ ∃ n, hashes t ⟨true, false, c.cluster, 0, BitVec.ofNat 256 shaInit, [], 0, n⟩)) ∧
    (mvOp w = 4 → h.buf.length < 64 →
      (h.failed = false → s.banksFree c.place (mvSram w) 32 = true → k.sramErr = [] → s.cel.wbSram = [] →
        Completes (.hashClose m) s (fun t =>
          { t with cores := s.cores, cel := s.cel, dbg := s.dbg, counters := s.counters } = s ∧
          MoverEnds m.val c 1 s t (k.sram.write (mvSram w) h.digest) ∧ hashes t HashSlot.zero ∧ t.cel.reason = s.cel.reason)) ∧
      (h.failed = true → bitOf (s.cel.err.get 0#64 c.cluster) 63 = false → Completes (.hashClose m) s (fun t =>
        { t with cel := s.cel, dbg := s.dbg, counters := s.counters, hearth := s.hearth, flash := s.flash, out := s.out
                 w1Sets := s.w1Sets } = s ∧
        hashes t HashSlot.zero ∧ t.cel.reason = 0x0616 ∧ t.w1Sets = w1Key 5 (0x404 + 8 * c.cluster) 31 :: s.w1Sets ∧ t.cel.movers = s.cel.movers.set none m.val none ∧
        fld (t.cel.err.get 0#64 c.cluster) 15 0 = 0x0616 ∧ bitOf (t.cel.err.get 0#64 c.cluster) 63 = true)))) ∧
  (∀ (s : State) (h : Fin 16),
    let x := s.hashSlot h.val
    (x.isOpen = true → 64 ≤ x.buf.length → Completes (.hashCompress h) s (fun t =>
      { t with cel := s.cel, counters := s.counters } = s ∧ t.counters = (s.bump 5 0x0C8 1).counters ∧
      { t.cel with hash := s.cel.hash } = s.cel ∧ (∀ j, j ≠ h.val → t.hashSlot j = s.hashSlot j) ∧
      t.hashSlot h.val = { x with chain := BitVec.ofNat 256 (shaCompress x.chain.toNat (x.buf.take 64)), buf := x.buf.drop 64 })) ∧
    (x.buf.length < 64 → exec (.hashCompress h) s = .next s))

/-- REFRESH (R271), CORRECTION_WRITEBACK (R258), PATROL_SCRUB (R261), GENERATE and ERASE (R263), CLR_REGION_ENABLE (R274).
Where the rules leave a point open, the choice is the model's: log 13 (patrol order) and log 8 (random words). -/
def Obligations.CellarUpkeep : Prop :=
  ∀ (s : State) (x : Fin 16) (r : Fin 32) (bank : Nat),
    let keys (t : State) : Prop := { t.cel with keys := s.cel.keys } = s.cel ∧
      ∀ j, j ≠ x.val → t.cel.keys.get KeySet.zero j = s.cel.keys.get KeySet.zero j
    let v := s.cel.regions.get 0#128 r.val
    let bad : Prop := fld v 39 0 % 0x200000 ≠ 0 ∨ (fld v 103 64 + 1) % 0x200000 ≠ 0 ∨ fld v 103 64 < fld v 39 0 ∨ 0x8B80000000 ≤ fld v 103 64 ∨
      ∃ e ∈ s.cel.regions, bitOf e.2 127 = true ∧ fld e.2 39 0 ≤ fld v 103 64 ∧ fld v 39 0 ≤ fld e.2 103 64
    (s.hearth.pState ≤ 1 → s.cel.refreshAt.get 0 (Config.hbmChannel bank) ≤ s.clk.wall →
      Completes (.refresh bank) s (fun t => { t with cel := s.cel } = s ∧
        { t.cel with refresh := s.cel.refresh, refreshAt := s.cel.refreshAt } = s.cel ∧
        t.cel.refresh.get 0 bank = s.clk.wall + quNs 240 ∧
        t.cel.refreshAt.get 0 (Config.hbmChannel bank) = s.clk.wall + quNs (if s.hearth.junction ≤ 85 then 3900 else 1950) ∧
        (∀ j, j ≠ bank → t.cel.refresh.get 0 j = s.cel.refresh.get 0 j) ∧
        ∀ j, j ≠ Config.hbmChannel bank → t.cel.refreshAt.get 0 j = s.cel.refreshAt.get 0 j)) ∧
    (2 ≤ s.hearth.pState ∨ s.clk.wall < s.cel.refreshAt.get 0 (Config.hbmChannel bank) → exec (.refresh bank) s = .next s) ∧
    (s.cel.wbSram = [] → ∀ w rest, s.cel.wbHbm = w :: rest →
      let errs := wordErrs s.cel.symErr w
      let b := s.cel.block (w / 8)
      let i := w % 8
      let old := ((leBytes 256 b.ct.toNat).drop (32 * i)).take 32
      let new := (wordRead errs old).2
      (rsFind errs = .bad → Completes .correctionWriteback s (fun t => t = { s with cel := { s.cel with wbHbm := rest } })) ∧
      (rsFind errs ≠ .bad → w < 2 ^ 40 → Completes .correctionWriteback s (fun t => { t with cel := s.cel } = s ∧
        { t.cel with wbHbm := s.cel.wbHbm, symErr := s.cel.symErr, blocks := s.cel.blocks } = s.cel ∧ t.cel.wbHbm = rest ∧
        (∀ e, e ∈ t.cel.symErr ↔ e ∈ s.cel.symErr ∧ ¬ (35 * w ≤ e.1 ∧ e.1 < 35 * w + 35)) ∧
        (new = old → t.cel.blocks = s.cel.blocks) ∧
        (new ≠ old → t.cel.blocks = s.cel.blocks.set none (w / 8)
          (some { b with ct := putFld b.ct (256 * i + 255) (256 * i) (leNat new) }))))) ∧
    (bitOf s.cel.ctl 31 = true → s.celOn = true → (∀ e ∈ s.cores, e.2.sramErr = []) →
      (s.cel.symErr = [] → Completes .patrolScrub s (fun t => { t with cel := s.cel, counters := s.counters } = s ∧
        t.counters = (s.bump 5 0x0D8 1).counters ∧
        t.cel = { s.cel with patrolAt := 0, hbmGone := 0, passCe := [], passOver := [], sramPatrolAt := 0, sramGone := 0 })) ∧
      (∀ w p e, s.cel.symErr = [(35 * w + p, e)] → p < 35 → w < 2 ^ 40 → s.cel.patrolAt ≤ w → s.cel.wbHbm = [] →
        rsFind [(p, e.toNat)] = .corrected p e.toNat → s.cel.passCe.get 0 (blockStack (w / 8)) < 2 ^ fld s.cel.ctl 27 24 →
        Completes .patrolScrub s (fun t => { t with cel := s.cel, counters := s.counters, w1Sets := s.w1Sets } = s ∧
          t.counters = (s.bump 5 0x080 1).counters ∧ t.cel.patrolAt = w + 1 ∧ t.cel.wbHbm = [w] ∧ t.cel.symErr = s.cel.symErr ∧
          t.cel.passCe.get 0 (blockStack (w / 8)) = s.cel.passCe.get 0 (blockStack (w / 8)) + 1 ∧
          bitOf (t.cel.log.get 0#128 (blockStack (w / 8))) 63 = true ∧ fld (t.cel.log.get 0#128 (blockStack (w / 8))) 45 40 = p))) ∧
    (s.hearth.running ≠ some x.val → s.hearth.entropyOk = true → Completes (.generate x) s (fun t =>
      { t with cel := s.cel, draws := s.draws } = s ∧ t.draws = s.draws + 1 ∧ keys t ∧
      t.cel.keys.get KeySet.zero x.val = ⟨true, (s.cel.keys.get KeySet.zero x.val).epoch + 1#8, Config.random s.draws⟩)) ∧
    (s.hearth.running = some x.val → exec (.generate x) s = .next s) ∧
    Completes (.erase x) s (fun t => { t with cel := s.cel } = s ∧ keys t ∧
      t.cel.keys.get KeySet.zero x.val = ⟨false, (s.cel.keys.get KeySet.zero x.val).epoch, 0#256⟩) ∧
    (bitOf v 127 = false →
      (¬ bad → Completes (.clrRegionEnable r) s (fun t => { t with cel := s.cel } = s ∧ { t.cel with regions := s.cel.regions } = s.cel ∧
        t.cel.regions.get 0#128 r.val = putFld v 127 127 1 ∧ ∀ j, j ≠ r.val → t.cel.regions.get 0#128 j = s.cel.regions.get 0#128 j)) ∧
      (bad → Completes (.clrRegionEnable r) s (fun t => t = { s with cel := { s.cel with reason := 0x040C } })))

/-! Hearth's commands -/

/-- Channel `src` holds out block `b` with opcode `op`, and nothing of R283, R286, R366 or R391 stands in the way of its fields being
looked at. -/
def Sys2Proof.Machine.Ready (s : State) (src : Src) (op len : Nat) (b : BitVec 2048) : Prop :=
  s.srcBlock src = some b ∧ blkOp b = op ∧ blkLen b = len ∧ blkVer b = s.hearth.protoSel.toNat ∧ s.hearth.protoSel ≠ 0#8 ∧
    fld b 63 48 = 0 ∧ s.hearth.wedged = false ∧ s.hearth.ready = true ∧ s.hearth.recovery = false ∧ s.sloe.latched = false ∧
    s.stateBusy = false ∧ s.hearth.waitq = [] ∧ recEnable s.hearth.rec_.ctl = false ∧
    match src with
    | .porch _ => opMgmtOnly op = false ∧ (opSession op = true → s.hearth.sess ≠ none)
    | .mgmt _ _ => opPorchOnly op = false

/-- `t` is `u` with the response to `b` given by channel `src` (R282, R285): in the pair's mailbox, or sent with its data; the command
is counted, and over the management channel its end is an event. -/
def Sys2Proof.Machine.Answers (src : Src) (b : BitVec 2048) (code : Nat) (payload data : List Byte) (u t : State) : Prop :=
  { t with hearth := u.hearth, dbg := u.dbg, counters := u.counters, out := u.out, flash := u.flash } = u ∧
    { t.hearth with mbx := u.hearth.mbx, cmdCount := u.hearth.cmdCount, events := u.hearth.events, evSeq := u.hearth.evSeq,
                    unsent := u.hearth.unsent, sess := u.hearth.sess, sessNext := u.hearth.sessNext } = u.hearth ∧
    { t.dbg with trace := u.dbg.trace, lossRun := u.dbg.lossRun } = u.dbg ∧ { t.flash with log := u.flash.log } = u.flash ∧
    match src with
    | .porch n => t.out = u.out ∧ t.mbx n.val = { u.mbx n.val with resp := some (respBlock b code payload) } ∧
        ∀ m, m ≠ n.val → t.mbx m = u.mbx m
    | .mgmt c _ => (∀ m, t.mbx m = u.mbx m) ∧ ∃ more, t.out = u.out ++ (.mgmt c.val (respBlock b code payload) ::
        (dataBlocks b ((data.length + 247) / 248) data).map (.mgmt c.val)) ++ more

/-- The command completes with REASON 0 and a payload, and changes nothing but what answering it does. -/
def Sys2Proof.Machine.Tells (i : Instr) (src : Src) (b : BitVec 2048) (payload : List Byte) (s : State) : Prop :=
  Completes i s (Answers src b 0 payload [] s)

/-- POST and MBX_RESPONSE (R282), PORCH_WRITE (R281), BARRIN_TRANSACTION without a session (R381): POST latches the block of a free pair and
overruns a busy one; a waiting response is written once DONE is 0; a misaligned or wrongly sized access is only counted; a write reaches the
word at its offset.
Where the rules leave a point open, the choice is the model's: log 13 (a reserved opcode is answered at once). -/
def Obligations.Mailboxes : Prop :=
  ∀ (s : State) (n : Fin 4) (off : W16) (size : Nat) (v : W64) (bits : List Byte),
    let m := s.mbx n.val
    let only (f : Mbx) (t : State) : Prop := { t with hearth := s.hearth } = s ∧ { t.hearth with mbx := s.hearth.mbx } = s.hearth ∧
      t.mbx n.val = f ∧ ∀ j, j ≠ n.val → t.mbx j = s.mbx j
    (s.hearth.barrin = 4 →
      (m.busy = true ∨ m.done = true → Completes (.post n) s (only { m with overrun := true })) ∧
      (m.busy = false → m.done = false → blkOp m.inn ≠ 0x81 →
        Completes (.post n) s (only { m with latch := m.inn, busy := true, resp := none })) ∧
      (s.hearth.sess = none →
        (¬ ((size = 4 ∨ size = 8) ∧ off.toNat % size = 0) →
          Completes (.porchWrite off size v) s (fun t => t = { s with hearth := { s.hearth with
            badAccess := min (s.hearth.badAccess + 1) 255 } })) ∧
        (off.toNat % 4 = 0 → off.toNat / 0x100 = n.val + 1 →
          Completes (.porchWrite off 4 v) s (only { m with
            inn := putFld m.inn (8 * (off.toNat % 0x100) + 31) (8 * (off.toNat % 0x100)) (v.toNat % 2 ^ 32) }) ∧
          Completes (.barrinTransaction (.write off 4) bits) s (only { m with
            inn := putFld m.inn (8 * (off.toNat % 0x100) + 31) (8 * (off.toNat % 0x100)) (leNat ((bits.drop 16).take 4)) })) ∧
        Completes (.porchWrite 8#16 4 v) s (fun t => { t with hearth := s.hearth } = s ∧
          { t.hearth with protoSel := s.hearth.protoSel } = s.hearth ∧
          t.hearth.protoSel = if v.toNat % 256 = 1 then 1#8 else s.hearth.protoSel)) ∧
      (s.hearth.sess ≠ none → exec (.porchWrite off size v) s = .next s)) ∧
    (s.hearth.barrin ≠ 4 → exec (.porchWrite off size v) s = .next s ∧ exec (.post n) s = .next s) ∧
    (∀ x, m.resp = some x → m.busy = true →
      (m.done = false → s.hearth.wedged = false → Completes (.mbxResponse n) s (fun t =>
        { t with hearth := s.hearth, out := s.out, flash := s.flash } = s ∧ t.mbx n.val = { m with
          out := x, done := true, busy := false, resp := none } ∧ (∀ j, j ≠ n.val → t.mbx j = s.mbx j) ∧
        t.hearth.evSeq = s.hearth.evSeq + 1#32)) ∧
      (m.done = true ∨ s.hearth.wedged = true → exec (.mbxResponse n) s = .next s))

/-- GET_INFO, GET_STATUS, REG_READ, CTX_QUERY, TELEMETRY_SLIP and TELEMETRY_COUNTERS (Table 10.11): what each answers.
Where the rules leave a point open, the choice is the model's: log 13 (GET_STATUS gives the running point, GET_INFO counts enabled clusters) and log 16. -/
def Obligations.Queries : Prop :=
  ∀ (s : State) (src : Src) (b : BitVec 2048) (dma : Bool),
    let to_ (addr : Nat) (data : List Byte) : State := if srcPorch src then s.sendHost (.dmaWrite addr data) else s
    (Ready s src 0x01 0 b → Tells (.getInfo src) src b (leBytes 4 s.fuses.prcId ++ leBytes 4 s.hearth.prcVersion ++
      leBytes 8 s.fuses.serial.toNat ++ leBytes 4 (s.fwSlot s.hearth.bootSlot).version ++
      [BitVec.ofNat 8 s.hearth.bootSlot, BitVec.ofNat 8 s.fuses.svn] ++ leBytes 2 ((List.range 100).filter s.cluEnabled).length ++
      leBytes 4 s.tableVersion ++ s.determinismKey s.job) s) ∧
    (Ready s src 0x02 0 b → Tells (.getStatus src) src b (leBytes 8 s.epochStatus ++
      [BitVec.ofNat 8 (s.hearth.running.getD 0xFF), BitVec.ofNat 8 s.hearth.pState] ++ leBytes 2 (opMhz s.clk.runOp) ++
      leBytes 4 s.hearth.inputW ++ [BitVec.ofNat 8 (b2n s.pan.fenced)]) s) ∧
    (let sp := blkByte b 0
     let n := blkByte b 1
     let off := blkNum b 4 4
     Ready s src 0x10 8 b → blkNum b 2 2 = 0 → 1 ≤ sp → sp ≤ 6 → 1 ≤ n → n ≤ 60 → off % 4 = 0 →
     Tells (.regRead src) src b ((List.range n).flatMap (fun i => leBytes 4 (s.regWord sp (off + 4 * i)))) s) ∧
    (Ready s src 0x23 1 b → blkByte b 0 < 16 → Tells (.ctxQuery src) src b (leBytes 8 (s.ctxStatus (blkByte b 0))) s) ∧
    (let recs := (s.port (blkByte b 0)).maps.reverse.take (blkByte b 1)
     Ready s src 0x40 16 b → blkNum b 2 6 = 0 → blkByte b 0 ≤ 5 → 1 ≤ blkByte b 1 → blkByte b 1 ≤ 16 →
     (srcPorch src = true → dma = true ∧ s.hearth.barrin = 4) →
     Completes (.telemetrySlip src dma) s (fun t => ∃ data, data = recs.flatMap (fun r => leBytes 128 r.toNat) ∧
       Answers src b 0 [BitVec.ofNat 8 recs.length] (if srcPorch src then [] else data) (to_ (blkNum b 8 8) data) t)) ∧
    (let sp := blkByte b 0
     let off := blkNum b 4 4
     let n := blkNum b 8 4
     Ready s src 0x41 24 b → blkNum b 1 3 = 0 → blkNum b 12 4 = 0 → 1 ≤ sp → sp ≤ 6 → n % 8 = 0 → n ≤ 65536 → off % 4 = 0 →
     (srcPorch src = true → dma = true ∧ s.hearth.barrin = 4) →
     Completes (.telemetryCounters src dma) s (fun t => ∃ data,
       data = (List.range (n / 4)).flatMap (fun i => leBytes 4 (s.regWord sp (off + 4 * i))) ∧
       Answers src b 0 (leBytes 4 n) (if srcPorch src then [] else data) (to_ (blkNum b 16 8) data) t)) ∧
    (∀ (n : Fin 4), src = .porch n → Ready s src 0x40 16 b → blkNum b 2 6 = 0 → blkByte b 0 ≤ 5 → 1 ≤ blkByte b 1 → blkByte b 1 ≤ 16 →
      Completes (.telemetrySlip src false) s (Answers src b 0x0603 [] [] s))

/-- REG_WRITE (R288, R291, Table 10.11): the masked bits of the word are written, read-only registers refuse, a rank table entry waits for a
drained module; the answer is the word that is then read. -/
def Obligations.RegisterWrites : Prop :=
  ∀ (s : State) (src : Src) (b : BitVec 2048),
    let sp := blkByte b 0
    let off := blkNum b 4 4
    let mask : W32 := BitVec.ofNat 32 (blkNum b 12 4)
    let masked (old : W32) : W32 := (old &&& ~~~mask) ||| (BitVec.ofNat 32 (blkNum b 8 4) &&& mask)
    Ready s src 0x11 16 b → blkNum b 1 3 = 0 →
    (sp = 4 → off = 0x10 → Completes (.regWrite src) s
      (Answers src b 0 (leBytes 4 (masked s.pan.timeout).toNat) [] { s with pan := { s.pan with timeout := masked s.pan.timeout } })) ∧
    (∀ r, r < 65536 → sp = 4 → off = 0x10000 + 4 * r →
      (s.drained = true → Completes (.regWrite src) s (fun t => ∃ u,
        { u with pan := s.pan } = s ∧ { u.pan with ranks := s.pan.ranks } = s.pan ∧
        u.pan.ranks.get 0#32 r = masked (s.pan.ranks.get 0#32 r) &&& 0x8FFFFFFF#32 ∧
        (∀ j, j ≠ r → u.pan.ranks.get 0#32 j = s.pan.ranks.get 0#32 j) ∧
        Answers src b 0 (leBytes 4 (u.pan.ranks.get 0#32 r).toNat) [] u t)) ∧
      (s.drained = false → Completes (.regWrite src) s (Answers src b 0x0304 [] [] s))) ∧
    (sp = 6 → off = 0x08 → bitOf s.tim.ctl 28 = false →
      let x : W32 := BitVec.ofNat 32 (min (max (masked s.tim.incr).toNat 0x01FF0000) 0x02010000)
      Completes (.regWrite src) s (Answers src b 0 (leBytes 4 x.toNat) [] { s with tim := { s.tim with incr := x } })) ∧
    (sp = 1 → off = 0x08 → Completes (.regWrite src) s (fun t => ∃ u, u = { s with tt := { s.tt with ctl := masked s.tt.ctl &&& 0x1FFFF#32 } } ∧
      Answers src b 0 (leBytes 4 u.tt.ctl.toNat) [] u t)) ∧
    (sp = 2 ∨ sp = 7 → off % 4 = 0 → Completes (.regWrite src) s (Answers src b 0x0507 [] [] s))

/-! Contexts and jobs -/

/-- `u` is `v` but for what raising events does (R289, R443, R280). -/
def Sys2Proof.Machine.ButEvents (v u : State) : Prop :=
  { u with hearth := v.hearth, out := v.out, flash := v.flash } = v ∧ { u.flash with log := v.flash.log } = v.flash ∧
    { u.hearth with events := v.hearth.events, evSeq := v.hearth.evSeq, unsent := v.hearth.unsent, sess := v.hearth.sess,
                    sessNext := v.hearth.sessNext } = v.hearth

/-- The command completes, is answered with `code`, `payload` and `data`, and leaves `v`, but for what events and the answer do. -/
def Sys2Proof.Machine.Does (i : Instr) (src : Src) (b : BitVec 2048) (code : Nat) (payload data : List Byte) (s v : State) : Prop :=
  Completes i s (fun t => ∃ u, ButEvents v u ∧ Answers src b code payload data u t)

/-- Blocks `lo` to `hi - 1` of `c` hold `body` sealed for a context under a key set (R264, R294, R295, R297). -/
def Sys2Proof.Machine.Cellar.sealed (c : Cellar) (x : Nat) (k : KeySet) (body : Option Nat) (lo hi : Nat) : Prop :=
  ∀ bb, lo ≤ bb → bb < hi → c.block bb = sealBlock k.z x k.epoch bb (fillBytes body bb)

/-- `d` is `c` but for keys, regions and stored blocks. -/
def Sys2Proof.Machine.Cellar.storedOnly (c d : Cellar) : Prop :=
  { d with keys := c.keys, regions := c.regions, blocks := c.blocks, fills := c.fills, symErr := c.symErr, wbHbm := c.wbHbm } = c

/-- CTX_CREATE with one range (R294) and CTX_DESTROY while another context runs (R297): a new context is READY, its regions enabled for it,
its key set fresh and its memory zero under it; a destroyed one is FREE, its regions, windows and key gone and its memory zero under a key
set that no longer exists.
Where the rules leave a point open, the choice is the model's: log 13 (CREATING and SCRUBBING take no time; refusals without entropy) and log 8. -/
def Obligations.ContextLife : Prop :=
  (∀ (s : State) (src : Src) (b : BitVec 2048),
    let x := blkByte b 0
    let save := blkNum b 4 4
    let base := blkNum b 8 4
    let n := blkNum b 12 4
    let k := s.cel.keys.get KeySet.zero x
    let free (lo hi : Nat) : Prop := ∀ e ∈ s.cel.regions, bitOf e.2 127 = true →
      fld e.2 103 64 < lo * 0x200000 ∨ hi * 0x200000 ≤ fld e.2 39 0
    let entry (r : BitVec 128) (lo hi : Nat) : Prop :=
      bitOf r 127 = true ∧ fld r 126 123 = x ∧ fld r 39 0 = lo * 0x200000 ∧ fld r 103 64 = hi * 0x200000 - 1
    Ready s src 0x20 16 b → blkNum b 2 2 = 0 → x < 16 → blkByte b 1 = 1 →
    (s.hearth.noAdmit ≠ 0 → Does (.ctxCreate src) src b s.hearth.noAdmit [] [] s s) ∧
    (s.hearth.noAdmit = 0 → (s.ctx x).state ≠ 0 → Does (.ctxCreate src) src b 0x0601 [] [] s s) ∧
    (s.hearth.noAdmit = 0 → (s.ctx x).state = 0 →
      (s.freeRegions.length < 2 → Does (.ctxCreate src) src b 0x0602 [] [] s s) ∧
      (∀ w0 w1 rest, s.freeRegions = w0 :: w1 :: rest →
        (n = 0 ∨ 285696 < base + n → Does (.ctxCreate src) src b 0x040E [] [] s s) ∧
        (0 < n → base + n ≤ 285696 → save + 736 ≤ 285696 → base + n ≤ save ∨ save + 736 ≤ base → free base (base + n) →
          free save (save + 736) → s.hearth.entropyOk = true → s.hearth.running ≠ some x →
          ∃ c : Cellar, s.cel.storedOnly c ∧
            c.keys = s.cel.keys.set KeySet.zero x ⟨true, k.epoch + 1#8, Config.random s.draws⟩ ∧
            entry (c.regions.get 0#128 w0) base (base + n) ∧ entry (c.regions.get 0#128 w1) save (save + 736) ∧
            (∀ w, w ≠ w0 → w ≠ w1 → c.regions.get 0#128 w = s.cel.regions.get 0#128 w) ∧
            c.sealed x ⟨true, k.epoch + 1#8, Config.random s.draws⟩ none (base * 8192) ((base + n) * 8192) ∧
            c.sealed x ⟨true, k.epoch + 1#8, Config.random s.draws⟩ none (save * 8192) ((save + 736) * 8192) ∧
            (∀ bb, ¬ (base * 8192 ≤ bb ∧ bb < (base + n) * 8192) → ¬ (save * 8192 ≤ bb ∧ bb < (save + 736) * 8192) →
              c.block bb = s.cel.block bb) ∧
            Does (.ctxCreate src) src b 0 [] [] s { s with cel := c, draws := s.draws + 1, hearth := { s.hearth with
              ctxs := s.hearth.ctxs.set Ctx.zero x { Ctx.zero with state := 2, saveBase := save, regions := [w0, w1] } } })))) ∧
  (∀ (s : State) (src : Src) (b : BitVec 2048),
    let x := blkByte b 0
    let ws := (s.ctx x).regions
    let k := s.cel.keys.get KeySet.zero x
    let lo (w : Nat) : Nat := (regionRange (s.cel.regions.get 0#128 w)).1 * 8192
    let hi (w : Nat) : Nat := lo w + (regionRange (s.cel.regions.get 0#128 w)).2 * 8192
    Ready s src 0x21 1 b → x < 16 →
    (s.hearth.running = some x → Does (.ctxDestroy src) src b 0x0304 [] [] s s) ∧
    (s.hearth.running ≠ some x → (s.ctx x).state ∉ [2, 4, 6] → Does (.ctxDestroy src) src b 0x0302 [] [] s s) ∧
    (∀ y, s.hearth.running = some y → y ≠ x → (s.ctx x).state ∈ [2, 4, 6] → s.hearth.entropyOk = true →
      ∃ c : Cellar, s.cel.storedOnly c ∧ c.keys.get KeySet.zero x = ⟨false, k.epoch + 1#8, 0#256⟩ ∧
        (∀ j, j ≠ x → c.keys.get KeySet.zero j = s.cel.keys.get KeySet.zero j) ∧ (∀ w, c.regions.get 0#128 w =
          if w ∈ ws then putFld (s.cel.regions.get 0#128 w) 127 127 0 else s.cel.regions.get 0#128 w) ∧
        (∀ w ∈ ws, c.sealed x ⟨true, k.epoch + 1#8, Config.random s.draws⟩ none (lo w) (hi w)) ∧
        (∀ bb, (∀ w ∈ ws, ¬ (lo w ≤ bb ∧ bb < hi w)) → c.block bb = s.cel.block bb) ∧
        Does (.ctxDestroy src) src b 0 [] [] s { s with
          cel := c, draws := s.draws + 1
          flash := { s.flash with scrub := s.flash.scrub.filter (fun e => e.1 != x) }
          pan := { s.pan with
            win := mapOver 0#128 s.pan.win (fun v => if bitOf v 127 && fld v 126 123 == x then putFld v 127 127 0 else v)
            jobBlock := s.pan.jobBlock.upd 0#32 x (fun v => putFld v 31 31 0) }
          hearth := { s.hearth with ctxs := s.hearth.ctxs.set Ctx.zero x Ctx.zero } }))

/-- CTX_SWITCH and DRAIN_TIMEOUT (R295): into a READY context; out of the running one, which is saved; where work still drains the switch waits,
and is given up after 10 ms.
Where the rules leave a point open, the choice is the model's: log 13 (order of the refusals) and log 14 (content of a save area). -/
def Obligations.ContextSwitches : Prop :=
  (∀ (s : State) (src : Src) (b : BitVec 2048),
    let y := blkByte b 0
    let blank : State := { s with
      cores := [], clusters := [], streams := [], hall := [], tt := { Timetable.zero with ctl := s.tt.ctl }
      pan := { s.pan with ranks := [], dead := [] }
      clk := { s.clk with cluRun := [], startAt := none } }
    let at_ (h : Hearth) (to_ : Option Nat) (hdr : Nat) : Hearth := { h with switchTo := to_, switchAt := s.clk.wall, accHdr := hdr }
    let runs : Prop := s.stopped = false ∧ s.clk.resumeAt = none ∧ s.hearth.noAdmit ≠ 0x0624 ∧ s.clk.celRun = decide (s.hearth.pState ≤ 1) ∧
      s.hearth.logged = none
    Ready s src 0x22 1 b →
    (s.pan.fenced = true → y < 16 ∨ y = 0xFF → Does (.ctxSwitch src) src b 0x0308 [] [] s s) ∧
    (s.pan.fenced = false →
      (y < 16 → (s.ctx y).state ∉ [2, 4] → Does (.ctxSwitch src) src b 0x0302 [] [] s s) ∧
      (y < 16 → (s.ctx y).state ∈ [2, 4] → s.jobState = 1 → Does (.ctxSwitch src) src b 0x0304 [] [] s s) ∧
      (y < 16 → (s.ctx y).state ∈ [2, 4] → s.jobState ≠ 1 → s.hearth.noAdmit ≠ 0 →
        Does (.ctxSwitch src) src b s.hearth.noAdmit [] [] s s) ∧
      (y = 0xFF → s.jobState = 1 → Does (.ctxSwitch src) src b 0x0304 [] [] s s) ∧
      (y < 16 → (s.ctx y).state = 2 → (s.ctx y).jobLoaded = false → (s.ctx y).saved = none → s.hearth.running = none →
        s.hearth.noAdmit = 0 → s.quiesced = true → runs →
        ∃ hdr, Does (.ctxSwitch src) src b 0 [] [] s { blank with
          cel := { s.cel with wbSram := [] }
          dbg := { s.dbg with postRestore := s.dbg.posture }
          hearth := { at_ s.hearth none hdr with running := some y, idleFrom := s.clk.wall, ctxs := s.hearth.ctxs.upd Ctx.zero y (fun c =>
            { c with state := 3, debugSeen := c.debugSeen ||| s.dbg.posture }) } }) ∧
      (∀ x, s.hearth.running = some x → y = 0xFF → (s.ctx x).job ≠ 1 → s.quiesced = true → runs →
        (∀ e ∈ s.cores, e.2.sramErr = []) → s.hbmAllowed x ((s.ctx x).saveBase * 0x200000) (736 * 0x200000) = true →
        let lo := (s.ctx x).saveBase * 8192
        let hi := ((s.ctx x).saveBase + 736) * 8192
        ∃ c : Cellar, { s.cel with wbSram := [] }.storedOnly c ∧ c.keys = s.cel.keys ∧ c.regions = s.cel.regions ∧
          c.sealed x (s.cel.keys.get KeySet.zero x) (some s.draws) lo hi ∧
          (∀ bb, ¬ (lo ≤ bb ∧ bb < hi) → c.block bb = s.cel.block bb) ∧
          ∃ hdr, Does (.ctxSwitch src) src b 0 [] [] s { blank with
            cel := c, draws := s.draws + 1
            hearth := { at_ s.hearth none hdr with running := none, ctxs := s.hearth.ctxs.upd Ctx.zero x (fun c => { c with
              state := 4, saved := some ⟨s.cores, s.clusters, s.pan.ranks, s.streams, s.tt, s.clk.beat⟩ }) } }) ∧
      (y = 0xFF → s.jobState ≠ 1 → s.quiesced = false → Completes (.ctxSwitch src) s (fun t =>
        { t with hearth := s.hearth, dbg := s.dbg, counters := s.counters } = s ∧
        ∃ hdr, t.hearth = { at_ s.hearth none hdr with switchSrc := some src, cmdCount := s.hearth.cmdCount + 1 })))) ∧
  (∀ (s : State) (src : Src) (b : BitVec 2048), s.hearth.switchSrc = some src → s.quiesced = false → s.srcBlock src = some b →
    recEnable s.hearth.rec_.ctl = false → s.hearth.logged = none →
    (s.hearth.switchAt + quMs 10 ≤ s.clk.wall → Does .drainTimeout src b 0x0306 [] [] s { s with
      hearth := { s.hearth with switchSrc := none, switchTo := none } }) ∧
    (s.clk.wall < s.hearth.switchAt + quMs 10 → exec .drainTimeout s = .next s))

/-- Every steward is stopped for good in `cl` but one whose section has finished, and `d` is the debug state with the ends of their commands
traced (R300, R399, R445). -/
def Sys2Proof.Machine.StewardsHalt (s : State) (cl : SMap Cluster) (d : Dbg) : Prop :=
  (∀ k, cl.get Cluster.zero k = if k ∈ s.clusters.map (·.1) then { s.cluster k with stw := { (s.cluster k).stw with
    run := if (s.cluster k).stw.run = .finished then .finished else .stopped, ended := true } } else s.cluster k) ∧
    { d with trace := s.dbg.trace, lossRun := s.dbg.lossRun } = s.dbg

/-- `s` with the job of context `x` ended at once for a reason (Table 10.22, mode 2), where no global stop holds; its stewards apart. -/
def Sys2Proof.Machine.State.endedNow (s : State) (x reason : Nat) : State :=
  { s with
    cores := mapOver Core.zero s.cores Core.halt
    hall := []
    tt := { s.tt with state := 5 }
    hearth := { s.hearth with ctxs := s.hearth.ctxs.upd Ctx.zero x (fun c => { c with job := 3, reason := reason }) } }

/-- JOB_START and JOB_STOP on the running context (R287, R442, Table 10.22), and FENCE (R233).
Where the rules leave a point open, the choice is the model's: log 13 (a job that ends drops what its cores had in flight). -/
def Obligations.JobControl : Prop :=
  (∀ (s : State) (src : Src) (b : BitVec 2048),
    let x := blkByte b 0
    let resume : Prop := blkByte b 1 = 1
    let c := s.ctx x
    let start := blkNum b 8 8
    Ready s src 0x31 16 b → blkByte b 1 < 2 → blkNum b 2 6 = 0 → x < 16 →
    (s.pan.fenced = true → Does (.jobStart src) src b 0x0308 [] [] s s) ∧
    (s.pan.fenced = false → s.hearth.thermal = true → Does (.jobStart src) src b 0x0626 [] [] s s) ∧
    (s.pan.fenced = false → s.hearth.thermal = false →
      (s.hearth.running ≠ some x → Does (.jobStart src) src b 0x0302 [] [] s s) ∧
      (s.hearth.running = some x →
        ((resume ∧ c.job ≠ 2) ∨ (¬ resume ∧ (c.job ≠ 0 ∨ c.jobLoaded = false)) → Does (.jobStart src) src b 0x0303 [] [] s s) ∧
        ((resume ∧ c.job = 2) ∨ (¬ resume ∧ c.job = 0 ∧ c.jobLoaded = true) →
          (s.clk.valid = false → Does (.jobStart src) src b 0x0730 [] [] s { s with tim := { s.tim with reason := 0x0730 } }) ∧
          (s.clk.valid = true → start < s.clk.fbc.toNat + 10 * opMhz s.clk.baseOp → Does (.jobStart src) src b 0x0307 [] [] s s) ∧
          (s.clk.valid = true → s.clk.fbc.toNat + 10 * opMhz s.clk.baseOp ≤ start → s.hearth.pState = 0 → ∀ desc,
            (resume → desc = s.tt.desc) → (¬ resume → desc = 0) →
            Does (.jobStart src) src b 0 [] [] s { s with
              tt := { s.tt with state := 1, start := BitVec.ofNat 64 start, desc := desc, pauseNext := false, stopNext := false }
              hearth := { s.hearth with ctxs := s.hearth.ctxs.upd Ctx.zero x (fun c => { c with job := 1 }) } }))))) ∧
  (∀ (s : State) (src : Src) (b : BitVec 2048),
    let x := blkByte b 0
    let mode := blkByte b 1
    let j := (s.ctx x).job
    Ready s src 0x32 2 b → x < 16 → mode ≤ 2 →
    (s.pan.fenced = true → Does (.jobStop src) src b 0x0308 [] [] s s) ∧
    (s.pan.fenced = false → s.hearth.running = some x →
      (mode = 0 → j = 1 → Does (.jobStop src) src b 0 [] [] s { s with tt := { s.tt with stopNext := true } }) ∧
      (mode = 0 → j = 2 → Does (.jobStop src) src b 0 [] [] s { s with
        tt := { s.tt with state := 5 }
        hearth := { s.hearth with ctxs := s.hearth.ctxs.upd Ctx.zero x (fun c => { c with job := 3 }) } }) ∧
      (mode = 1 → j = 1 → Does (.jobStop src) src b 0 [] [] s { s with tt := { s.tt with pauseNext := true } }) ∧
      (mode = 2 → j = 1 ∨ j = 2 → s.stopped = false → ∃ cl d n, StewardsHalt s cl d ∧ Does (.jobStop src) src b 0 [] [] s
        { s.endedNow x 0x0309 with clusters := cl, dbg := { d with stopAt := none }, counters := n }) ∧
      (j ≠ 1 → j ≠ 2 ∨ mode = 1 → Does (.jobStop src) src b 0x0303 [] [] s s)) ∧
    (s.pan.fenced = false → s.hearth.running ≠ some x →
      (mode ≠ 2 ∨ (s.ctx x).state = 0 → Does (.jobStop src) src b 0x0302 [] [] s s) ∧
      (mode = 2 → (s.ctx x).state ≠ 0 → j ≠ 2 → Does (.jobStop src) src b 0x0303 [] [] s s) ∧
      (mode = 2 → (s.ctx x).state ≠ 0 → j = 2 → Does (.jobStop src) src b 0 [] [] s { s with
        hearth := { s.hearth with ctxs := s.hearth.ctxs.upd Ctx.zero x (fun c => { c with job := 3, reason := 0x0309 }) } }))) ∧
  (∀ (s : State) (src : Src) (b : BitVec 2048), Ready s src 0x80 0 b →
    (s.hearth.running = none → ∃ cl d n, StewardsHalt s cl d ∧ Does (.fence src) src b 0 [] [] s { s with
      pan := { s.pan with fenced := true }
      cores := mapOver Core.zero s.cores Core.halt
      clusters := cl
      dbg := d
      counters := n
      hall := [] }) ∧
    (∀ x, s.hearth.running = some x → (s.ctx x).job = 1 ∨ (s.ctx x).job = 2 → s.stopped = false →
      ∃ cl d n, StewardsHalt s cl d ∧ Does (.fence src) src b 0 [] [] s { s.endedNow x 0x0308 with
        pan := { s.pan with fenced := true }, clusters := cl, dbg := { d with stopAt := none }, counters := n }))

/-- JOB_LOAD (R319, R320): each step refuses with its code and changes nothing but that the transfer from the host stands; an image of a
plan, no routes and one epoch descriptor `w` that arrives whole and passes every step is loaded.
Where the rules leave a point open, the choice is the model's: log 13 (order of the refusals) and log 16. -/
def Obligations.JobLoading : Prop :=
  ∀ (s : State) (src : Src) (b : BitVec 2048) (host : Option (List Byte)),
    let x := blkByte b 0
    let base := blkNum b 4 2
    let len := blkNum b 16 8
    let v := (s.hostBytes (srcPorch src) b (blkNum b 8 8) len host).1
    let img := (s.hostBytes (srcPorch src) b (blkNum b 8 8) len host).2
    SMap.Wf Core.zero s.cores → Ready s src 0x30 24 b → blkByte b 1 < 2 → blkNum b 2 2 = 0 → blkNum b 6 2 = 0 → x < 16 → 128 ≤ len → len < 2 ^ 40 →
    (s.loadStep1 x ≠ 0 → Does (.jobLoad src host) src b (s.loadStep1 x) [] [] s s) ∧
    (s.loadStep1 x = 0 → s.loadStep2 ≠ 0 → Does (.jobLoad src host) src b 0x0304 [] [] s s) ∧
    (s.loadStep1 x = 0 → s.loadStep2 = 0 →
      (img.length < 128 → Does (.jobLoad src host) src b 0x0603 [] [] s v) ∧
      (128 ≤ img.length →
        let h : BitVec 1024 := BitVec.ofNat 1024 (leNat (img.take 128))
        let sects := ztiSects h img
        let l := s.jobOf x base (blkByte b 1 % 2 == 1) h img
        (s.loadStep3 h len ≠ 0 → Does (.jobLoad src host) src b (s.loadStep3 h len) [] [] s v) ∧
        (s.loadStep3 h len = 0 → s.loadStep4 x base h img len ≠ 0 →
          Does (.jobLoad src host) src b (s.loadStep4 x base h img len) [] [] s v) ∧
        (∀ w, len ≤ img.length → s.loadStep3 h len = 0 → s.loadStep4 x base h img len = 0 → sects.map Sect.typ = [1, 4, 6] →
          sectBytes img sects 4 = [] → w < 2 ^ 64 → sectBytes img sects 6 = leBytes 8 w → nfld w 62 60 = 0 → nfld w 59 48 = 0 →
          nfld w 47 24 < nfld w 23 0 + 1 →
          (∀ r, r < ztiRanks h → l.rankEntry r ≠ none) → beBytes 32 (sha256 (img.drop 128)) = leBytes 32 (fld h 1023 768) →
          Completes (.jobLoad src host) s (fun t => ∃ u,
            Answers src b 0 ([BitVec.ofNat 8 l.job.fold, BitVec.ofNat 8 (b2n l.job.guarded)] ++ leBytes 2 (planUsed l.job.plan).length
              ++ (beBytes 32 (sha256 (sectBytes img sects 1))).take 4 ++ leBytes 8 (fld h 767 704) ++ leBytes 32 (fld h 1023 768)) [] u t ∧
            { u with cores := s.cores, clusters := s.clusters, streams := s.streams, hall := s.hall, tt := s.tt, pan := s.pan, clk := s.clk,
                     hearth := s.hearth, dbg := s.dbg, counters := s.counters, out := s.out, flash := s.flash } = s ∧
            u.ctx x = { s.ctx x with jobLoaded := true, job := 0, jobRec := some l.job } ∧ (∀ y, y ≠ x → u.ctx y = s.ctx y) ∧
            u.clusters = [] ∧ u.streams = [] ∧ u.hall = [] ∧ u.hearth.pState = 0 ∧ u.hearth.running = some x ∧
            u.tt = { Timetable.zero with ctl := s.tt.ctl, epochs := SMap.set 0#64 [] 0 (BitVec.ofNat 64 w), count := 1 } ∧
            (∀ r, u.pan.ranks.get 0#32 r = if r < ztiRanks h then (l.rankEntry r).getD 0#32 else 0#32) ∧
            (∀ n, (u.coreN n).sram = (s.coreN n).sram ∧ (u.coreN n).run = .loaded ∧ (u.coreN n).pc = 0 ∧ (u.coreN n).sreg = [] ∧
              (u.coreN n).cc = [] ∧ (u.coreN n).acts = [])))))

/-! Subscribers, management connections, operator CA slots -/

/-- EVENT_SUBSCRIBE and MGMT_CONNECTION_CLOSE (R443), TELEMETRY_REPORT (R302), MGMT_HANDSHAKE (R372, R383, R386), OPCA_ENABLE (R387). -/
def Obligations.ManagementChannel : Prop :=
  (∀ (s : State) (c : Fin 4) (b : BitVec 2048),
    let src := Src.mgmt c b
    let others := s.hearth.subs.filter (fun u => u.conn != c.val)
    let mask := blkNum b 4 4
    Ready s src 0x42 8 b → blkNum b 2 2 = 0 → mask % 2 = 0 → mask < 256 → blkByte b 1 ≤ 3 →
    (blkByte b 0 = 1 → Does (.eventSubscribe src) src b 0 [] [] s { s with hearth := { s.hearth with subs := others } }) ∧
    (blkByte b 0 = 0 → 4 ≤ others.length → Does (.eventSubscribe src) src b 0x0604 [] [] s s) ∧
    (blkByte b 0 = 0 → others.length < 4 → Does (.eventSubscribe src) src b 0 [] [] s { s with hearth := { s.hearth with
      subs := others ++ [⟨c.val, blkByte b 1, BitVec.ofNat 32 mask, BitVec.ofNat 8 (blkTag b)⟩] } })) ∧
  (∀ (s : State) (n : Fin 4) (hello : Hello),
    let stillOpen := s.hearth.conns.get false n.val
    (stillOpen = false → exec (.mgmtConnectionClose n) s = .next s) ∧
    (stillOpen = true → exec (.mgmtConnectionClose n) s = .next { s with
      out := s.out ++ [.mgmtClosed n.val]
      hearth := { s.hearth with
        conns := s.hearth.conns.set false n.val false, tls := s.hearth.tls.set TlsKeys.zero n.val TlsKeys.zero
        subs := s.hearth.subs.filter (fun u => u.conn != n.val) } }) ∧
    (s.mgmtOpen = false ∨ stillOpen = true → exec (.mgmtHandshake n hello) s = .next s) ∧
    (s.mgmtOpen = true → stillOpen = false →
      let offers : Prop := hello.version = 0x0304 ∧ 0x0017 ∈ hello.groups ∧ 0x0403 ∈ hello.sigs ∧ hello.psk = false ∧ hello.early = false ∧
        (0x1301 ∈ hello.suites ∨ 0x1302 ∈ hello.suites) ∧ s.hearth.entropyOk = true
      let suite := if 0x1302 ∈ hello.suites then 0x1302 else 0x1301
      let shown : State := { s with out := s.out ++
        [.certVerify n.val (ecdsaSign s.sloe.idKey.toNat hello.ownTbs.toNat) s.flash.certs] }
      let fails (u : State) : Prop :=
        (∀ at_, s.hearth.mgmtAuthAt = some at_ → s.clk.wall < at_ + quMs 1000 → exec (.mgmtHandshake n hello) s = .next { u with
          w1Sets := w1Key 1 0x40 5 :: s.w1Sets
          sloe := { s.sloe with sources := s.sloe.sources ||| 0x20#20, l1Count := min (s.sloe.l1Count + 1) 0xFFFF } }) ∧
        (s.hearth.mgmtAuthAt = none → Completes (.mgmtHandshake n hello) s (fun t => ButEvents { u with
          w1Sets := w1Key 1 0x40 5 :: s.w1Sets
          hearth := { s.hearth with mgmtAuthAt := some s.clk.wall }
          sloe := { s.sloe with
            sources := s.sloe.sources ||| 0x20#20, l1Count := min (s.sloe.l1Count + 1) 0xFFFF, reason := 0x0511 } } t))
      (offers → s.clientOk hello = true → exec (.mgmtHandshake n hello) s = .next { shown with
        draws := s.draws + 1
        hearth := { s.hearth with
          conns := s.hearth.conns.set false n.val true
          tls := s.hearth.tls.set TlsKeys.zero n.val
            ⟨suite, Config.trafficKey 0 (Config.random s.draws), Config.trafficKey 1 (Config.random s.draws)⟩ } }) ∧
      (offers → s.clientOk hello = false → fails shown) ∧ (¬ offers → fails s)) ∧
    (let key := leBytes 64 (s.flash.opcaKey.get 0#512 n.val).toNat
     (s.opcaOn n.val = true → exec (.opcaEnable n) s = .next s) ∧
     (s.opcaOn n.val = false → pubOk (beNat (key.take 32)) (beNat (key.drop 32)) = true → exec (.opcaEnable n) s = .next { s with
       flash := { s.flash with opcaCtl := s.flash.opcaCtl.set 0#32 n.val 0x80000000#32 } }) ∧
     (s.opcaOn n.val = false → pubOk (beNat (key.take 32)) (beNat (key.drop 32)) = false → exec (.opcaEnable n) s = .next { s with
       sloe := { s.sloe with reason := 0x0518 } }))) ∧
  (∀ (s : State),
    (s.hearth.wedged = false → s.hearth.ready = true → s.hearth.teleAt + quMs 100 ≤ s.clk.wall → exec .telemetryReport s = .next { s with
      hearth := { s.hearth with teleAt := s.clk.wall }
      out := s.out ++ s.hearth.subs.map (fun u =>
        .telemetry u.conn s.hearth.inputW s.hearth.junction ((List.range 8).map (fun p => (s.port p).state))) }) ∧
    (s.hearth.wedged = true ∨ s.clk.wall < s.hearth.teleAt + quMs 100 → exec .telemetryReport s = .next s))

/-! Power and operating points -/

/-- SET_OPERATING_POINT (R331) and OPERATING_POINT_CHANGE (R325, R332, R335): the base point changes at W, the RBC's rate at the next REFCLK
period, the regions stop for 12 µs and as many alignments as fail; regions whose alignment is over go on, or, after eight failures, the
module admits no context.
Where the rules leave a point open, the choice is the model's: log 13 (12 microseconds, a capped running point stays). -/
def Obligations.OperatingPoints : Prop :=
  (∀ (s : State) (src : Src) (b : BitVec 2048),
    let code := blkByte b 0
    let w := blkNum b 8 8
    let busy : Prop := ∃ x, s.hearth.running = some x ∧ (s.ctx x).job = 1
    let no (i : Instr) (code : Nat) : Prop := Does i src b code [] [] s { s with tim := { s.tim with reason := code } }
    Ready s src 0x50 16 b → blkNum b 1 7 = 0 →
    (code ∉ s.fuses.points → no (.setOperatingPoint src) 0x0411) ∧
    (code ∈ s.fuses.points →
      (busy → no (.setOperatingPoint src) 0x0303) ∧
      (¬ busy → s.clk.valid = false → no (.setOperatingPoint src) 0x0730) ∧
      (¬ busy → s.clk.valid = true → w < s.rbc + 100 * opMhz s.clk.baseOp → no (.setOperatingPoint src) 0x0307) ∧
      (¬ busy → s.clk.valid = true → s.rbc + 100 * opMhz s.clk.baseOp ≤ w → Does (.setOperatingPoint src) src b 0 [] [] s { s with
        clk := { s.clk with change := some (code, w) } }))) ∧
  (∀ (s : State),
    let later (x : Option Nat) : Prop := ∀ w, x = some w → s.clk.wall < w
    let tries := min (Config.alignTries s.clk.alignCount) 8
    let noChange : Prop := ∀ code w, s.clk.change = some (code, w) → s.rbc < w
    (noChange → later s.clk.resumeAt → later s.clk.startAt → later s.clk.stopEnds → exec .operatingPointChange s = .next s) ∧
    (∀ code w, s.clk.change = some (code, w) → w ≤ s.rbc → later s.clk.stopEnds →
      let rate : Clk := { s.clk with baseOp := code, change := none, rateOp := s.clk.baseOp, rateAt := nextRef s.clk.wall }
      (s.clk.runOp = s.clk.baseOp → exec .operatingPointChange s = .next { s with
        clk := { rate with
          runOp := code, slew := some (s.clk.halfBeat, s.clk.wall), cluRun := [], celRun := false, startAt := none
          resumeAt := some (s.clk.wall + quUs 12 + quUs tries), haltBeat := if s.clk.resumeAt.isSome then s.clk.haltBeat else s.clk.beat
          alignCount := s.clk.alignCount + 1, alignBad := s.clk.alignBad || decide (tries = 8) }
        ports := if opMhz s.clk.runOp < opMhz code
          then mapOver Port.zero s.ports (fun t => if t.state = 7 then { t with retrain := true, quietNow := true } else t)
          else s.ports }) ∧
      (s.clk.runOp ≠ s.clk.baseOp → opMhz s.clk.runOp < opMhz code → later s.clk.resumeAt → later s.clk.startAt →
        exec .operatingPointChange s = .next { s with clk := rate })) ∧
    (∀ at_, noChange → s.clk.resumeAt = some at_ → at_ ≤ s.clk.wall → later s.clk.startAt → later s.clk.stopEnds → s.stopped = false →
      (s.clk.alignBad = false → s.hearth.noAdmit ≠ 0x0624 → Completes .operatingPointChange s (fun t =>
        { t with cores := s.cores, clusters := s.clusters, hall := s.hall, clk := s.clk } = s ∧
        t.clk = { s.clk with
          resumeAt := none, aligned := true, offs := [], startAt := none, cluRun := s.allClusters, celRun := s.celRuns } ∧
        t.cores = mapOver Core.zero s.cores (fun k => k.putOff (s.clk.beat - s.clk.haltBeat)))) ∧
      (s.clk.alignBad = true → Completes .operatingPointChange s (fun t => ∃ v,
        { v with cores := s.cores, clusters := s.clusters, hall := s.hall, clk := s.clk, hearth := s.hearth } = s ∧
        v.clk = { s.clk with resumeAt := none, aligned := false, alignBad := false } ∧
        v.hearth = { s.hearth with noAdmit := 0x0624 } ∧ ButEvents v t))) ∧
    (∀ at_, noChange → s.clk.resumeAt = none → s.clk.startAt = some at_ → at_ ≤ s.clk.wall → later s.clk.stopEnds → s.stopped = false →
      s.clk.alignBad = false → s.hearth.noAdmit ≠ 0x0624 → exec .operatingPointChange s = .next { s with
        clk := { s.clk with startAt := none, offs := [], cluRun := s.allClusters, celRun := s.celRuns } }))

/-- SET_POWER_CAP (R353), SET_POWER_STATE for P1 (R350) and, with no port in use, P2 and P3, IDLE_ENTRY (R350), WAKE_FRAME (R351), POWER_CAP_WINDOW (R352),
POWER_COLLECTION of a board whose modules all answer (R301): the caps hold the board's, and one module that asks holds the grant.
Where the rules leave a point open, the choice is the model's: log 13 (how a window counts) and log 14 (cap values that a board lead sets). -/
def Obligations.PowerStates : Prop :=
  (∀ (s : State) (src : Src) (b : BitVec 2048),
    let cap := blkNum b 0 2
    let lim : Nat × Nat := if s.fuses.od720 then (900, 1800) else (1000, 2200)
    Ready s src 0x51 8 b →
    let range : Prop := lim.1 ≤ cap ∧ cap ≤ lim.2 ∧ 20 ≤ blkNum b 2 2 ∧ blkNum b 2 2 ≤ 500 ∧ 1 ≤ blkNum b 4 2 ∧ blkNum b 4 2 ≤ 1000 ∧
      85 ≤ blkByte b 6 ∧ blkByte b 6 ≤ 105
    (range → Does (.setPowerCap src) src b 0 [] [] s { s with hearth := { s.hearth with
      power := BitVec.ofNat 64 (cap * 2 ^ 48 + blkNum b 2 2 * 2 ^ 32 + blkNum b 4 2 * 2 ^ 16 + blkByte b 6 * 2 ^ 8 + blkByte b 7) } }) ∧
    (¬ range → Does (.setPowerCap src) src b 0x0104 [] [] s s)) ∧
  (∀ (s : State) (src : Src) (b : BitVec 2048),
    let st := blkByte b 0
    let busy : Prop := ∃ x, s.hearth.running = some x ∧ (s.ctx x).job = 1
    let off : Clk := { s.clk with linkRun := false, cluRun := [], celRun := false, startAt := none, valid := false, port := 7, dist := 0xFF }
    let no (i : Instr) (code : Nat) : Prop := Does i src b code [] [] s { s with tim := { s.tim with reason := code } }
    let tries := min (Config.alignTries s.clk.alignCount) 8
    Ready s src 0x52 16 b → blkNum b 1 7 = 0 →
    (3 < st → Does (.setPowerState src) src b 0x0104 [] [] s s) ∧
    (st ≤ 3 → busy → no (.setPowerState src) 0x0303) ∧
    (¬ busy → st = 2 → s.drained = false → no (.setPowerState src) 0x0304) ∧
    (¬ busy → st = 3 → (∃ x, x < 16 ∧ (s.ctx x).state ≠ 0) → no (.setPowerState src) 0x0302) ∧
    (¬ busy → st = 1 → s.stopped = false → s.clk.resumeAt = none → s.hearth.noAdmit ≠ 0x0624 →
      (s.clk.celRun = true → Does (.setPowerState src) src b 0 [] [] s { s with
        hearth := { s.hearth with pState := 1 }, clk := { s.clk with linkRun := true, cluRun := [], startAt := none } }) ∧
      (s.clk.celRun = false → s.clk.startAt = none → Does (.setPowerState src) src b 0 [] [] s { s with
        hearth := { s.hearth with pState := 1 }
        clk := { s.clk with
          linkRun := true, cluRun := [], startAt := some (s.clk.wall + (quUs 2 + quUs 20) + quUs tries)
          alignCount := s.clk.alignCount + 1, alignBad := s.clk.alignBad || decide (tries = 8) } })) ∧
    (¬ busy → st = 2 → s.drained = true → s.ports = [] → Does (.setPowerState src) src b 0 [] [] s { s with
      hearth := { s.hearth with pState := 2 }, clk := off }) ∧
    (¬ busy → st = 3 → (∀ x, x < 16 → (s.ctx x).state = 0) → s.ports = [] → Completes (.setPowerState src) s (fun t =>
      t.hearth.pState = 3 ∧ t.hearth.wakeCode = BitVec.ofNat 64 (blkNum b 8 8) ∧ t.hearth.ready = false ∧ t.hearth.barrin = 0 ∧ t.clk = off ∧
      t.cel.blocks = [] ∧ t.cel.fills = [] ∧ t.cel.powerOn = s.cel.powerOn + 1 ∧ t.tim.valid = false ∧ t.pins.pwrOk = false ∧
      t.hearth.sess = none ∧ t.hearth.conns = [] ∧ t.cores = [] ∧ ∀ e ∈ t.cel.keys, e.2.keyed = false))) ∧
  (∀ (s : State),
    (s.idleDue = true → s.stopped = false → s.clk.resumeAt = none → s.hearth.noAdmit ≠ 0x0624 →
      s.clk.celRun = true ∨ s.sloe.latched = true → exec .idleEntry s = .next { s with
        hearth := { s.hearth with pState := 1 }
        clk := { s.clk with cluRun := [], celRun := !s.sloe.latched, startAt := none } }) ∧
    (s.idleDue = false → exec .idleEntry s = .next s)) ∧
  (∀ (s : State) (mac : BitVec 48) (etype : W16) (code : W64),
    let wakes : Prop := s.hearth.pState = 3 ∧ mac = s.fuses.mac ∧ etype = 0x88B5#16
    (¬ wakes → exec (.wakeFrame mac etype code) s = .next s) ∧
    (wakes → code ≠ s.hearth.wakeCode → exec (.wakeFrame mac etype code) s = .next { s with
      hearth := { s.hearth with wakeBad := s.hearth.wakeBad + 1 } }) ∧
    (wakes → code = s.hearth.wakeCode → s.sloe.stage ≠ 0 → s.pins.porstN = true → Completes (.wakeFrame mac etype code) s (fun t =>
      t.hearth.pState = 0 ∧ t.sloe.stage = 1 ∧ fld t.sloe.cause 6 0 = 2 ^ 6 ∧ t.cel.blocks = [] ∧ t.pins.pwrOk = false ∧
      t.flash = s.flash ∧ t.fuses = s.fuses))) ∧
  (∀ (s : State) (power junction : Nat),
    let w := s.hearth.power
    let cap := fld w 63 48
    let hyst := fld w 47 32
    let st := match s.clk.capNext with
      | some x => x.2
      | none => s.clk.capStretch
    let over_ : Bool := decide (cap < power) || decide (fld w 15 8 < junction)
    let low : Bool := over_ && decide (s.clk.runOp = 4) && decide (st = 4)
    let due : Prop := s.hearth.windowAt + quMs (fld w 31 16) ≤ s.clk.wall
    let h : Hearth := { s.hearth with
      inputW := power, junction := junction, overCap := over_, capFloor := low, belowRun := 0
      thermal := s.hearth.thermal && decide (95 ≤ junction), windowAt := s.clk.wall }
    (¬ due → exec (.powerCapWindow power junction) s = .next s) ∧
    (due → low = true → Completes (.powerCapWindow power junction) s (ButEvents { s with hearth := h })) ∧
    (due → low = false → over_ = true → s.capPoint power = s.clk.runOp → exec (.powerCapWindow power junction) s = .next { s with
      hearth := h, clk := { s.clk with capNext := some (s.clk.beat + 4, min (st + 1) 4), capTarget := none } }) ∧
    (due → low = false → over_ = true → s.capPoint power ≠ s.clk.runOp → s.tt.state = 2 →
      exec (.powerCapWindow power junction) s = .next { s with
        hearth := h
        clk := { s.clk with capNext := some (s.clk.beat + 4, min (st + 1) 4), capTarget := some (s.capPoint power) } }) ∧
    (due → over_ = false → cap ≤ power + hyst → exec (.powerCapWindow power junction) s = .next { s with hearth := h }) ∧
    (due → over_ = false → power + hyst < cap → s.hearth.belowRun < 9 → exec (.powerCapWindow power junction) s = .next { s with
      hearth := { h with belowRun := s.hearth.belowRun + 1 } }) ∧
    (due → over_ = false → power + hyst < cap → 9 ≤ s.hearth.belowRun → 0 < st →
      exec (.powerCapWindow power junction) s = .next { s with
        hearth := h, clk := { s.clk with capNext := some (s.clk.beat + 4, st - 1) } })) ∧
  (∀ (s : State) (l : List (Nat × Bool)),
    let lead : Prop := bitOf s.sloe.panPos 28 = true ∧ s.hearth.wedged = false ∧ s.hearth.ready = true
    let asks (m : Nat) : Prop := ∃ w, l[m]? = some (w, true)
    (bitOf s.sloe.panPos 28 = false ∨ s.clk.wall < s.hearth.collectAt + quMs 10 → exec (.powerCollection (l.map some)) s = .next s) ∧
    (lead → s.hearth.collectAt + quMs 10 ≤ s.clk.wall → l.length ≤ 8 → Completes (.powerCollection (l.map some)) s (fun t =>
      { t with hearth := s.hearth, out := s.out, draws := s.draws } = s ∧
      { t.hearth with missed := s.hearth.missed, powers := s.hearth.powers, grant := s.hearth.grant, collectAt := s.hearth.collectAt }
        = s.hearth ∧ t.hearth.collectAt = s.clk.wall ∧
      (∀ m, t.hearth.missed.get 0 m = if m < l.length then 0 else s.hearth.missed.get 0 m) ∧
      (∀ m w a, l[m]? = some (w, a) → t.hearth.powers.get 0 m = w) ∧ t.draws = s.draws + l.length ∧
      ∃ given caps, t.out = s.out ++ given ++ (withIx caps).map (fun x => .setCap x.1 x.2) ∧
        caps.length = l.length ∧ caps.sum ≤ Config.boardCap ∧
        (∀ m, s.hearth.grant = some m → asks m → t.hearth.grant = some m ∧ given = []) ∧
        ((∀ m, ¬ asks m) → t.hearth.grant = none ∧ given = []) ∧
        (∀ m, (∀ h, s.hearth.grant = some h → ¬ asks h) → asks m → (∀ j, j < m → ¬ asks j) →
          t.hearth.grant = some m ∧ given = [.grant m]))))

/-! Clocks and the time unit -/

/-- DROOP and STRETCH_TOKEN (R326), CLOCK_SLIP (R329), REFERENCE_LOST (R333), REFERENCE_RESTORED (R334), SEED (R338).
Where the rules leave a point open, the choice is the model's: log 13 (one clock for all stretch domains, alignment in 2 microseconds). -/
def Obligations.Clocks : Prop :=
  (∀ (s : State) (d : Fin 9) (amount : Fin 5),
    let only (t : State) : Prop := { t with clk := s.clk } = s ∧
      { t.clk with domPend := s.clk.domPend, tokens := s.clk.tokens } = s.clk
    (amount = 0 → exec (.droop d amount) s = .next s) ∧
    (amount ≠ 0 → Completes (.droop d amount) s (fun t => only t ∧ t.clk.tokens = s.clk.tokens ++ [(d.val, amount.val)] ∧
      ∀ j, t.clk.domPend.get 0 j = s.clk.domPend.get 0 j + if j = d.val then amount.val else 0)) ∧
    (s.clk.tokens = [] → exec .stretchToken s = .next s) ∧
    (∀ o n rest, s.clk.tokens = (o, n) :: rest → Completes .stretchToken s (fun t => only t ∧ t.clk.tokens = rest ∧
      ∀ j, t.clk.domPend.get 0 j = s.clk.domPend.get 0 j + if j < 9 ∧ j ≠ o then n else 0))) ∧
  (∀ (s : State),
    let tries := min (Config.alignTries s.clk.alignCount) 8
    let slips (e : State) : Prop := Completes .clockSlip s (ButEvents { e with
      ports := mapOver Port.zero s.ports (fun t => { t with inbound := [], slip := [], store := [] })
      clusters := mapOver Cluster.zero e.clusters (fun c => { c with landQ := c.landQ.filter (fun l => l.kind.rank ≠ 0), deps := [] })
      counters := ((e.bump 6 0x150 s.schedHeld).bump 6 0x148 1).counters
      clk := { s.clk with
        aligned := false, cluRun := [], celRun := false, startAt := none, resumeAt := some (s.clk.wall + quUs 2 + quUs tries)
        haltBeat := if s.clk.resumeAt.isSome then s.clk.haltBeat else s.clk.beat
        alignCount := s.clk.alignCount + 1, alignBad := s.clk.alignBad || decide (tries = 8) } })
    (s.hearth.running = none → slips s) ∧
    (∀ x, s.hearth.running = some x → (s.ctx x).job ∈ [1, 2] → s.stopped = false → ∃ cl d n, StewardsHalt s cl d ∧
      slips { s.endedNow x 0x0620 with clusters := cl, dbg := { d with stopAt := none }, counters := n })) ∧
  (∀ (s : State),
    (s.tim.holdover = true → exec .referenceLost s = .next s) ∧
    (s.tim.holdover = false → Completes .referenceLost s (ButEvents { s with
      tim := { s.tim with refOk := false, holdover := true }
      pins := { s.pins with refclk := false }
      clk := { s.clk with valid := false, port := 7, dist := 0xFF }
      counters := (s.bump 6 0x158 1).counters })) ∧
    (s.tim.refOk = false → Completes .referenceRestored s (ButEvents { s with
      tim := { s.tim with refOk := true, holdover := false }, pins := { s.pins with refclk := true } })) ∧
    (s.tim.refOk = true → exec .referenceRestored s = .next s) ∧
    (bitOf s.tim.fbcCtl 30 = true → s.job = none → exec .seed s = .next { s with clk := { s.clk with
      fbc := 0#64, rbcHalf := 0#65, refAt := s.clk.wall, valid := true, port := 7, dist := 0 } }) ∧
    (bitOf s.tim.fbcCtl 30 = false ∨ s.job ≠ none → exec .seed s = .next s))

/-- LOAD and APPLY (R341, R342), TXTS_POP (R345), TIMESTAMP (R344, R345), TIME_PULSE_ENABLE, PULSE_EDGE and PULSE_END (R346, R347), PPS_CAPTURE
(R348). -/
def Obligations.TimeUnit : Prop :=
  (∀ (s : State) (tag : W16),
    (bitOf s.tim.ctl 28 = false → exec .load s = .next { s with tim := { s.tim with load := true } } ∧
      exec .apply s = .next { s with tim := { s.tim with apply := true } }) ∧
    (bitOf s.tim.ctl 28 = true → exec .load s = .next s ∧ exec .apply s = .next s) ∧
    exec .txtsPop s = .next { s with tim := { s.tim with txts := s.tim.txts.drop 1 } } ∧
    (s.tim.txts.length < 16 → ∃ w : BitVec 128, fld w 127 112 = tag.toNat ∧
      (bitOf s.tim.ctl 27 = false → fld w 101 0 = s.tim.now.sec % 2 ^ 48 * 2 ^ 54 + s.tim.now.ns % 2 ^ 30 * 2 ^ 24 + s.tim.now.frac % 2 ^ 24) ∧
      (bitOf s.tim.ctl 27 = true → w = putFld (s.tim.now.addTenths (ptpCorr s.tim.mode).1).pack 127 112 tag.toNat) ∧
      exec (.timestamp false tag) s = .next { s with tim := { s.tim with txts := s.tim.txts ++ [w] } }) ∧
    (16 ≤ s.tim.txts.length → exec (.timestamp false tag) s = .next { s with
      tim := { s.tim with txOver := true }, w1Sets := w1Key 6 0x04 26 :: s.w1Sets, counters := (s.bump 6 0x170 1).counters }) ∧
    (let w := (if bitOf s.tim.ctl 27 then s.tim.now.subTenths (ptpCorr s.tim.mode).2 else s.tim.now).pack
     (bitOf s.tim.ctl 28 = false → exec (.timestamp true tag) s = .next { s with tim := { s.tim with rxts := some w } }) ∧
     (bitOf s.tim.ctl 28 = true → Completes (.timestamp true tag) s (fun t => { t with tim := s.tim, draws := s.draws } = s ∧
       { t.tim with rxts := s.tim.rxts, incr := s.tim.incr, step := s.tim.step } = s.tim ∧ t.tim.rxts = some w ∧
       0x01FF0000 ≤ t.tim.incr.toNat ∧ t.tim.incr.toNat ≤ 0x02010000 ∧ t.draws = s.draws + 1))) ∧
    (∀ falling : Bool,
      let sampled : State := { s with pins := { s.pins with ppsIn := !falling } }
      (bitOf s.tim.ctl 26 = true → bitOf s.tim.ctl 25 = falling → exec (.ppsCapture falling) s = .next { sampled with
        w1Sets := w1Key 6 0x04 28 :: (if s.tim.ppsValid then w1Key 6 0x04 27 :: s.w1Sets else s.w1Sets)
        tim := { s.tim with pps := (s.tim.now.addNs (-4)).pack, ppsOver := s.tim.ppsOver || s.tim.ppsValid, ppsValid := true } }) ∧
      (bitOf s.tim.ctl 26 = false ∨ bitOf s.tim.ctl 25 ≠ falling → exec (.ppsCapture falling) s = .next sampled))) ∧
  (∀ (s : State) (n : Fin 2),
    let x := s.pulse n.val
    let now := s.tim.now
    let held : Prop := s.tim.moved = true ∧ now.passed x.edge = true
    let key := w1Key 6 (0x80 + 0x20 * n.val) 29
    let sets (ws : List Nat) (y : Pulse) (t : State) : Prop := { t with tim := s.tim, pins := s.pins, w1Sets := s.w1Sets } = s ∧ t.w1Sets = ws ∧
      { t.tim with pulses := s.tim.pulses } = s.tim ∧ t.pulse n.val = y ∧ (∀ m, m ≠ n.val → t.pulse m = s.pulse m) ∧
      let level : Bool := y.active.isSome != bitOf y.ctl 30
      t.pins = if n = 0 then { s.pins with pulse0 := level } else { s.pins with pulse1 := level }
    let ok : Prop := s.tim.valid = true ∧ 8 ≤ x.width.toNat ∧
      (x.period = 0#32 ∨ (x.width.toNat + 8 ≤ x.period.toNat ∧ 100 ≤ x.period.toNat)) ∧ 1000 ≤ (timeOf x.start).diff now
    (bitOf x.ctl 31 = true → exec (.timePulseEnable n) s = .next s) ∧
    (bitOf x.ctl 31 = false → ok → Completes (.timePulseEnable n) s (sets s.w1Sets { x with ctl := putFld x.ctl 31 31 1, edge := timeOf x.start })) ∧
    (bitOf x.ctl 31 = false → ¬ ok → exec (.timePulseEnable n) s = .next { s with tim := { s.tim with reason := 0x0410 } }) ∧
    (bitOf x.ctl 31 = false ∨ now.reached x.edge = false ∨ held → exec (.pulseEdge n) s = .next s) ∧
    (bitOf x.ctl 31 = true → now.reached x.edge = true → ¬ held →
      let from_ := if 2 < now.diff x.edge then now else x.edge
      let fired := putFld x.ctl 29 29 1
      (x.period = 0#32 → Completes (.pulseEdge n) s (sets (key :: s.w1Sets) { x with
        active := some (from_.addNs x.width.toNat), ctl := putFld fired 31 31 0 })) ∧
      (x.period ≠ 0#32 → Completes (.pulseEdge n) s (fun t => ∃ e, sets (key :: s.w1Sets) { x with
        active := some (from_.addNs x.width.toNat), ctl := fired, edge := e } t ∧
        ∃ k : Nat, e = (timeOf x.start).addNs (k * x.period.toNat : Nat)))) ∧
    (∀ e, x.active = some e → now.reached e = true → Completes (.pulseEnd n) s (sets s.w1Sets { x with active := none })) ∧
    (∀ e, x.active = some e → now.reached e = false → exec (.pulseEnd n) s = .next s) ∧
    (x.active = none → exec (.pulseEnd n) s = .next s))

/-! Tests, firmware, attestation and sessions -/

/-- SELF_TEST, CALIBRATE and DEFERRED_MAINTENANCE_RUN (R296): refused while a job runs or is paused unless queued; a queued one runs when no job
does, its result comes as a MAINTENANCE event, and a reset discards it. -/
def Obligations.MaintenanceTests : Prop :=
  (∀ (s : State) (src : Src) (b : BitVec 2048) (result : Byte) (op : Nat) (i : Instr),
    (op = 0x60 ∧ i = .selfTest src result) ∨ (op = 0x61 ∧ i = .calibrate src result) →
    Ready s src op 2 b → blkByte b 1 ≤ 15 →
    (blkByte b 0 = 1 → Does i src b 0 [1#8] [] s { s with hearth := { s.hearth with maint := s.hearth.maint ++ [(op, blkByte b 1)] } }) ∧
    (blkByte b 0 = 0 → s.jobState ≠ 1 → s.jobState ≠ 2 → Does i src b 0 [0#8] [] s s) ∧
    (blkByte b 0 = 0 → s.jobState = 1 ∨ s.jobState = 2 → Does i src b 0x0304 [] [] s s)) ∧
  (∀ (s : State) (result : Byte),
    (s.hearth.maint = [] → exec (.deferredMaintenanceRun result) s = .next s) ∧
    (s.jobState = 1 → exec (.deferredMaintenanceRun result) s = .next s) ∧
    (∀ op set rest, s.hearth.maint = (op, set) :: rest → s.jobState ≠ 1 → op < 2 ^ 16 → set < 2 ^ 8 →
      Completes (.deferredMaintenanceRun result) s (fun t =>
        ButEvents { s with hearth := { s.hearth with maint := rest } } t ∧ t.hearth.evSeq = s.hearth.evSeq + 1#32 ∧
        let e := t.hearth.events.get 0#256 (s.hearth.evSeq.toNat % 256)
        fld e 79 72 = 7 ∧ fld e 63 48 = op ∧ fld e 47 40 = set ∧ fld e 39 32 = result.toNat))) ∧
  (∀ (s : State) (bit : Nat), 3 ≤ s.sloe.stage → (s.moduleReset bit).hearth.maint = [])

/-- `f` is `s`'s flash with a boot record written into one of its two sectors, which is then the one read (R276). -/
def Sys2Proof.Machine.BootRecorded (s : State) (active : Nat) (cand : Option Nat) (tries : Nat) (f : Flash) : Prop :=
  { f with active := s.flash.active, cand := s.flash.cand, tries := s.flash.tries, bootA := s.flash.bootA, bootB := s.flash.bootB } = s.flash ∧
    f.active = active ∧ f.cand = cand ∧ f.tries = tries ∧ (f.bootA = s.flash.bootA ∨ f.bootB = s.flash.bootB) ∧
    ∃ q, f.bootRec = some ⟨q, active, cand, tries⟩ ∧ ∀ r, s.flash.bootRec = some r → q = r.seq + 1

/-- FW_STAGE, FW_ACTIVATE and FW_COMMIT (R275 to R277), FULL_RESET over the management
channel (R284, R413).
Where the rules leave a point open, the choice is the model's: log 13 (a slot keeps an image that fails its check). -/
def Obligations.FirmwareAndReset : Prop :=
  (∀ (s : State) (src : Src) (b : BitVec 2048) (host : Option (List Byte)),
    let len := blkNum b 8 4
    let u := (s.hostBytes (srcPorch src) b (blkNum b 0 8) len host).1
    let bs := (s.hostBytes (srcPorch src) b (blkNum b 0 8) len host).2
    Ready s src 0x70 12 b → len ≤ 30 * 2 ^ 20 →
    (s.flash.cand ≠ none → Does (.fwStage src host) src b 0x0302 [] [] s s) ∧
    (s.flash.cand = none → bs.length < len → Does (.fwStage src host) src b 0x0603 [] [] s u) ∧
    (s.flash.cand = none → len ≤ bs.length →
      let h : BitVec 1024 := BitVec.ofNat 1024 (leNat (bs.take 128))
      let x : FwSlot := ⟨h, (bs.drop 128).take (fld h 63 32)⟩
      let n := 1 - s.flash.active
      let v : State := { u with flash := if n = 0 then { u.flash with slotA := x } else { u.flash with slotB := x } }
      (s.fwCheck x = 0 → Does (.fwStage src host) src b 0 (leBytes 4 (fld h 95 64) ++ [BitVec.ofNat 8 (fld h 103 96), BitVec.ofNat 8 n]) [] s v) ∧
      (s.fwCheck x ≠ 0 → Does (.fwStage src host) src b (s.fwCheck x) [] [] s v))) ∧
  (∀ (s : State) (src : Src) (b : BitVec 2048),
    let n := blkByte b 0
    (Ready s src 0x71 1 b → n ≤ 1 →
      let code := s.fwCheck (s.fwSlot n)
      (code ≠ 0 → Does (.fwActivate src) src b code [] [] s s) ∧
      (code = 0 → s.flash.cand ≠ none ∨ s.flash.active = n → Does (.fwActivate src) src b 0x0302 [] [] s s) ∧
      (code = 0 → s.flash.cand = none → s.flash.active ≠ n →
        ∃ f, BootRecorded s s.flash.active (some n) 0 f ∧ Does (.fwActivate src) src b 0 [] [] s { s with flash := f })) ∧
    (Ready s src 0x72 0 b →
      (s.flash.cand ≠ some s.hearth.bootSlot → Does (.fwCommit src) src b 0x0302 [] [] s s) ∧
      (s.flash.cand = some s.hearth.bootSlot → ∃ f, BootRecorded s s.hearth.bootSlot none s.flash.tries f ∧
        Does (.fwCommit src) src b 0 [] [] s { s with
        flash := f
        fuses := { s.fuses with svn := max s.fuses.svn (s.fwSlot s.hearth.bootSlot).svn } }))) ∧
  (∀ (s : State) (c : Fin 4) (b : BitVec 2048), Ready s (.mgmt c b) 0x81 4 b →
    (blkNum b 0 4 ≠ 0xA5A55A5A → Does (.fullReset (.mgmt c b)) (.mgmt c b) b 0x0104 [] [] s s) ∧
    (blkNum b 0 4 = 0xA5A55A5A → 3 ≤ s.sloe.stage → s.pins.resetN = true → s.sloe.merge = none →
      Completes (.fullReset (.mgmt c b)) s (fun t => t.hearth = { Hearth.reset with
        power := putFld Hearth.reset.power 63 48 (if s.fuses.od720 then 1800 else 2200)
        entropyOk := s.hearth.entropyOk, entropyRun := s.hearth.entropyRun } ∧ t.sloe.stage = 3 ∧ fld t.sloe.cause 6 0 = 2 ^ 4 ∧
        t.cel.blocks = s.cel.blocks ∧ t.cel.fills = s.cel.fills ∧ t.cel.keys = [] ∧ t.flash = s.flash ∧ t.fuses = s.fuses ∧ t.cores = [] ∧
        t.ports = [] ∧ t.pending = s.pending)))

/-- ATTEST (R376), SESSION_OPEN (R380), SESSION_CLOSE (R382), ENTROPY_FAILURE and ENTROPY_RECOVERY (R384), a MEASUREMENT_PASS that agrees (R375).
Where the rules leave a point open, the choice is the model's: log 8 (random words), log 13 (60 seconds, when keys apply) and log 16. -/
def Obligations.AttestationAndSessions : Prop :=
  (∀ (s : State) (src : Src) (b : BitVec 2048) (dma : Bool),
    let rep := s.report (blkBytes b 0 32)
    let digest := sha256 rep
    let payload := leBytes 4 rep.length ++ beBytes 32 digest
    let u := s.sendHost (.dmaWrite (blkNum b 32 8) rep)
    Ready s src 0x90 44 b →
    (srcPorch src = false → Does (.attest src dma) src b 0 payload rep s s) ∧
    (srcPorch src = true →
      (blkNum b 40 4 < rep.length → Does (.attest src dma) src b 0x0104 (leBytes 4 rep.length) [] s s) ∧
      (rep.length ≤ blkNum b 40 4 → dma = false ∨ s.hearth.barrin ≠ 4 → Does (.attest src dma) src b 0x0603 [] [] s s) ∧
      (rep.length ≤ blkNum b 40 4 → dma = true → s.hearth.barrin = 4 → Completes (.attest src dma) s (Answers src b 0 payload [] { u with
        hearth := { u.hearth with reportDigest := some (BitVec.ofNat 256 digest), reportAt := s.clk.wall } })))) ∧
  (∀ (s : State) (n : Fin 4) (b : BitVec 2048),
    let host := blkBytes b 0 64
    let rd := blkNum b 64 32
    let known : Prop := s.hearth.reportDigest = some (BitVec.ofNat 256 (beNat (leBytes 32 rd))) ∧
      s.clk.wall ≤ s.hearth.reportAt + 60 * quMs 1000
    Ready s (.porch n) 0x91 96 b → pubOk (beNat (host.take 32)) (beNat (host.drop 32)) = true →
    (¬ known → Does (.sessionOpen (.porch n)) (.porch n) b 0x050C [] [] s { s with sloe := { s.sloe with reason := 0x050C } }) ∧
    (known → s.hearth.entropyOk = false → Does (.sessionOpen (.porch n)) (.porch n) b 0x050D [] [] s { s with sloe := { s.sloe with reason := 0x050D } }) ∧
    (known → s.hearth.entropyOk = true →
      let d := privOf (Config.random s.draws).toNat
      let sid : W32 := (Config.random (s.draws + 1)).truncate 32
      let own := beBytes 64 (pubOf d).toNat
      let sig := ecdsaSign s.sloe.idKey.toNat (sha256 (ascii "ODSS" ++ host ++ own ++ leBytes 4 sid.toNat ++ leBytes 32 rd))
      Completes (.sessionOpen (.porch n)) s (fun t =>
        t.hearth.sess = s.hearth.sess ∧
        t.hearth.sessNext = some (n.val, sessionOf (beNat (leBytes 32 rd)) (ecdh d (BitVec.ofNat 512 (beNat host))) sid) ∧
        Answers (.porch n) b 0 (own ++ leBytes 4 sid.toNat ++ beBytes 64 sig.toNat) [] { s with draws := s.draws + 2 } t))) ∧
  (∀ (s : State) (n : Fin 4) (b : BitVec 2048), Ready s (.porch n) 0x92 0 b → Completes (.sessionClose (.porch n)) s (fun t =>
    t.hearth.sess = none ∧ t.hearth.sessNext = none ∧ Answers (.porch n) b 0 [] [] s t)) ∧
  (∀ (s : State),
    Completes .entropyFailure s (ButEvents { s with
      w1Sets := w1Key 1 0x40 7 :: s.w1Sets
      hearth := { s.hearth with entropyOk := false, entropyRun := 0 }
      sloe := { s.sloe with
        sources := s.sloe.sources ||| 0x80#20, l1Count := min (s.sloe.l1Count + 1) 0xFFFF, reason := 0x050D } }) ∧
    (s.hearth.entropyOk = true → ∀ good, exec (.entropyRecovery good) s = .next s) ∧
    (s.hearth.entropyOk = false → ∀ good,
      (s.hearth.entropyRun + good < 1024 → exec (.entropyRecovery good) s = .next { s with
        hearth := { s.hearth with entropyRun := s.hearth.entropyRun + good } }) ∧
      (1024 ≤ s.hearth.entropyRun + good → exec (.entropyRecovery good) s = .next { s with
        hearth := { s.hearth with entropyOk := true, entropyRun := 0 } })) ∧
    (∀ changed : List (Nat × Nat × Byte),
      let u := changed.foldl State.spoil s
      (∀ id, id ∈ [2, 3, 4, 5, 6] → BitVec.ofNat 256 (sha256 (u.hearth.loaded.get [] id)) = s.hearth.measures.get 0#256 id) ∨
        s.hearth.measured = false → exec (.measurementPass changed) s = .next u))

/-! Alarms -/

/-- What a level-2 source `bit` with code `code` that opens a merge window leaves (R389, R390), `n` its number since Sloe power-on. -/
def Sys2Proof.Machine.Alarmed (bit code n : Nat) (s t : State) : Prop :=
  t.sloe.l2Count = n ∧ t.sloe.level2 = true ∧ t.sloe.sources = s.sloe.sources ||| BitVec.ofNat 20 (2 ^ bit) ∧ t.sloe.reason = code ∧
    t.pins.alarmN = false ∧ (∀ e ∈ t.cel.keys, e.2.keyed = false ∧ e.2.z = 0#256) ∧ t.hearth.sess = none ∧ t.hearth.sessNext = none ∧
    t.hearth.conns = [] ∧ t.hearth.tls = [] ∧ t.hearth.subs = [] ∧ t.cores = [] ∧ t.clusters = [] ∧ t.streams = [] ∧ t.hearth.running = none ∧
    t.hearth.rec_.active = false ∧ t.clk.cluRun = [] ∧
    ∀ e ∈ t.hearth.ctxs, e.2.state = 0 ∨ (e.2.state = 6 ∧ e.2.jobLoaded = false ∧ e.2.saved = none ∧ e.2.reason = 0x050E)

/-- ALARM_TRIGGER (R388 to R391), a MEASUREMENT_PASS that disagrees (R375), MERGE_WINDOW_END (R389, R393), LEVEL2_CLEAR (R392); a level-2 alarm as it acts
where no port is in use and no switch or scan waits.
Where the rules leave a point open, the choice is the model's: log 13 (level 3 at the count of the threshold). -/
def Obligations.Alarms : Prop :=
  (∀ (s : State) (bit : Fin 20) (aux : Bool) (lasts code : Nat),
    let m : BitVec 20 := BitVec.ofNat 20 (2 ^ bit.val)
    let marks := w1Key 1 0x40 bit.val :: s.w1Sets
    ((bit.val, code) ∈ [(0, 0x0501), (1, 0x0502), (2, 0x0503), (3, 0x0506), (4, 0x0510), (5, 0x0511), (6, 0x0516), (7, 0x050D), (8, 0x0517)] →
      Completes (.alarmTrigger bit aux lasts) s (ButEvents { s with w1Sets := marks, sloe := { s.sloe with
        sources := s.sloe.sources ||| m, l1Count := min (s.sloe.l1Count + 1) 0xFFFF
        reason := if bit.val < 4 then s.sloe.reason else code } })) ∧
    ((bit.val, code) ∈ [(16, 0x0513), (17, 0x0514), (18, 0x0515), (19, 0x0512)] →
      let armed : Prop := if bit.val = 19 then s.hearth.measured = true else if aux = true ∧ bit.val = 16 then s.pins.vaux = true
        else s.pins.pwrOk = true ∧ s.hearth.pState ≠ 3
      let n := min (s.sloe.l2Count + 1) 255
      let limit := max (fld s.sloe.ctl 3 0) 2
      (¬ armed → exec (.alarmTrigger bit aux lasts) s = .next s) ∧
      (∀ w, armed → s.sloe.merge = some w → exec (.alarmTrigger bit aux lasts) s = .next { s with w1Sets := marks, sloe := { s.sloe with
        sources := s.sloe.sources ||| m, reason := code, lasting := s.sloe.lasting.set 0 bit.val (s.clk.wall + quNs lasts)
        merge := some { w with srcs := w.srcs ||| m } } }) ∧
      (armed → s.sloe.merge = none → s.ports = [] → s.hearth.switchSrc = none → s.dbg.scanSrc = none →
        (n < limit → Completes (.alarmTrigger bit aux lasts) s (fun t => Alarmed bit.val code n s t ∧ t.sloe.latched = s.sloe.latched ∧
          t.sloe.merge = some ⟨s.clk.wall, m, code, false⟩)) ∧
        (limit ≤ n → Completes (.alarmTrigger bit aux lasts) s (fun t => Alarmed bit.val code n s t ∧ t.sloe.latched = true ∧
          t.sloe.merge = some ⟨s.clk.wall, m, code, true⟩ ∧ t.clk.linkRun = false ∧ t.clk.celRun = false ∧ t.cel.ready = false ∧
          t.cel.stacksOk = 0#8 ∧ t.cel.blocks = [] ∧ t.cel.fills = []))))) ∧
  (∀ (s : State) (changed : List (Nat × Nat × Byte)) (id : Nat), id ∈ [2, 3, 4, 5, 6] →
    BitVec.ofNat 256 (sha256 ((changed.foldl State.spoil s).hearth.loaded.get [] id)) ≠ s.hearth.measures.get 0#256 id →
    s.hearth.measured = true → s.sloe.merge = none → s.ports = [] → s.hearth.switchSrc = none → s.dbg.scanSrc = none →
    Completes (.measurementPass changed) s (Alarmed 19 0x0512 (min (s.sloe.l2Count + 1) 255) s)) ∧
  (∀ (s : State),
    (s.sloe.merge = none → exec .mergeWindowEnd s = .next s) ∧
    (∀ m, s.sloe.merge = some m → s.clk.wall < m.since + quMs 1 → exec .mergeWindowEnd s = .next s) ∧
    (∀ m, s.sloe.merge = some m → m.since + quMs 1 ≤ s.clk.wall → Completes .mergeWindowEnd s (fun t =>
      ButEvents { s with sloe := { s.sloe with merge := none } } t ∧ t.hearth.evSeq = s.hearth.evSeq + 1#32 ∧
      (s.flash.log.length < 1024 → t.flash.log.length = s.flash.log.length + 1)))) ∧
  (∀ (s : State) (n : Fin 4),
    let lasts : Prop := (∃ b, b ∈ [16, 17, 18] ∧ s.clk.wall < s.sloe.lasting.get 0 b) ∨ (s.hearth.measured = true ∧
      ∃ id, id ∈ [2, 3, 4, 5, 6] ∧ BitVec.ofNat 256 (sha256 (s.hearth.loaded.get [] id)) ≠ s.hearth.measures.get 0#256 id)
    let writes : Prop := s.hearth.conns.get false n.val = true ∧ s.sloe.latched = false ∧ w1Key 1 0x44 30 ∉ s.w1Sets
    (writes → ¬ lasts → exec (.level2Clear n) s = .next { s with
      sloe := { s.sloe with level2 := false }, pins := { s.pins with alarmN := true } }) ∧
    (¬ writes ∨ lasts → exec (.level2Clear n) s = .next s))


/-! Debug and trace -/

/-- `u` is `s` with debug state `d`, its posture taken up (R385, Table 14.7). -/
def Sys2Proof.Machine.Posed (s : State) (d : Dbg) (u : State) : Prop :=
  { u with dbg := s.dbg, hearth := s.hearth, sloe := s.sloe, out := s.out, flash := s.flash, w1Sets := s.w1Sets } = s ∧
    { u.dbg with posture := d.posture, postReset := d.postReset, postRestore := d.postRestore } = d ∧ u.dbg.posture = d.postureNow ∧
    { u.hearth with ctxs := s.hearth.ctxs, events := s.hearth.events, evSeq := s.hearth.evSeq, unsent := s.hearth.unsent,
                    sess := s.hearth.sess, sessNext := s.hearth.sessNext } = s.hearth ∧
    { u.sloe with sources := s.sloe.sources, l1Count := s.sloe.l1Count, reason := s.sloe.reason } = s.sloe ∧
    { u.flash with log := s.flash.log } = s.flash

/-- DEBUG_BREAK (R404, R411), GLOBAL_STOP for this module (R405 to R407, R411) and the end of a stop once its regions are aligned (R325, R406), WAITFOR_GRAPH (R410), TRACE_CTL (R402, R411), FREEZE for this module (R397,
R398, R411).
Where the rules leave a point open, the choice is the model's: log 13 (places inside scan items, attribution in the graph). -/
def Obligations.DebugCommands : Prop :=
  (∀ (s : State) (src : Src) (b : BitVec 2048),
    let slot := blkByte b 0
    let clu := blkByte b 6
    let armed : W64 := BitVec.ofNat 64 (2 ^ 63 + blkByte b 3 * 2 ^ 60 + blkByte b 2 * 2 ^ 58 + clu * 2 ^ 48 + blkNum b 4 2)
    let pose (d : Dbg) (i : Instr) : Prop := Completes i s (fun t => ∃ u, Posed s d u ∧ Answers src b 0 [] [] u t)
    (Ready s src 0xA0 8 b → blkByte b 7 = 0 →
      (blkByte b 1 = 0 → slot < 8 → pose { s.dbg with breaks := s.dbg.breaks.upd 0#64 slot (fun w => putFld w 63 63 0) } (.debugBreak src)) ∧
      (blkByte b 1 = 1 → slot < 8 → blkByte b 2 < 4 → blkByte b 3 < 3 → clu < 100 ∨ clu = 0xFF →
        pose { s.dbg with breaks := s.dbg.breaks.set 0#64 slot armed } (.debugBreak src)) ∧
      (blkByte b 1 = 2 → clu < 100 → (s.cluster clu).stw.halted = true → Completes (.debugBreak src) s (fun t => ∃ u,
        OnlyCluster clu s u ∧ u.cluster clu = { s.cluster clu with stw := { (s.cluster clu).stw with halted := false, pass := true } } ∧
        Answers src b 0 [] [] u t)) ∧
      (2 < blkByte b 1 → Does (.debugBreak src) src b 0x0104 [] [] s s)) ∧
    (let f := blkByte b 0
     let log := blkByte b 2
     let us := blkNum b 4 2
     let ctl : W32 := BitVec.ofNat 32 (f % 2 * 2 ^ 31 + f / 2 % 2 * 2 ^ 30 + f / 4 % 2 * 2 ^ 29 + f / 8 % 2 * 2 ^ 28 + f / 16 % 2 * 2 ^ 27
       + blkByte b 1 * 2 ^ 19 + log * 2 ^ 14 + us)
     Ready s src 0xA3 12 b → f < 32 → blkByte b 3 = 0 → blkNum b 6 2 = 0 → 10 ≤ log → log ≤ 20 → 1 ≤ us → us ≤ 10000 →
     pose { s.dbg with
       ctl := ctl, range := BitVec.ofNat 32 (blkNum b 10 2 * 2 ^ 16 + blkNum b 8 2)
       trace := if f % 2 = 1 then s.dbg.trace else [], lossRun := if f % 2 = 1 then s.dbg.lossRun else 0
       markAt := (s.tim.now.sec * 1000000 + s.tim.now.ns / 1000) / us } (.traceCtl src))) ∧
  (∀ (s : State) (src : Src) (b : BitVec 2048),
    let act := blkByte b 0
    let scope := blkByte b 1
    let seq := (s.dbg.seqStop + 1) % 2 ^ 20
    let d : Dbg := { s.dbg with seqStop := seq, seenStop := keepSeen s.dbg.seenStop (s.nodeId, seq) }
    Ready s src 0xA1 24 b → blkNum b 17 7 = 0 → blkNum b 4 13 < 2 ^ 100 → act ≤ 2 → blkByte b 2 ≤ 1 →
    (srcPorch src = true → scope = 2 → Does (.globalStop src) src b 0x0508 [] [] s s) ∧
    (scope = 1 → s.hearth.running = none → Does (.globalStop src) src b 0x0302 [] [] s s) ∧
    (scope = 0 →
      (act = 0 → s.stopped = false → s.dbg.stopAt = none → Does (.globalStop src) src b 0 [] [] s { s with dbg := { d with
        stopAt := some (s.clk.beat + 12), stop := BitVec.ofNat 64 (s.nodeId * 2 ^ 20 + seq) } }) ∧
      (act = 0 → s.stopped = true ∨ s.dbg.stopAt ≠ none → Does (.globalStop src) src b 0 [] [] s { s with dbg := d }) ∧
      (act = 1 → s.stopped = false → Does (.globalStop src) src b 0 [] [] s { s with dbg := { d with stopAt := none } }) ∧
      (act = 1 → s.stopped = true → Completes (.globalStop src) s (fun t => t.stopped = true ∧ t.dbg.stopAt = none ∧ t.dbg.scan = none ∧
        t.clk.cluRun = s.clk.cluRun ∧ t.clk.stopEnds = match s.clk.stopEnds with
          | some w => some w
          | none => some (s.clk.wall + quUs 2 + quUs (min (Config.alignTries s.clk.alignCount) 8)))) ∧
      (act = 2 → bitOf s.dbg.ctl 28 = false → Does (.globalStop src) src b 0x0316 [] [] s s) ∧
      (act = 2 → bitOf s.dbg.ctl 28 = true → s.stopped = false → Does (.globalStop src) src b 0x0314 [] [] s s) ∧
      (act = 2 → bitOf s.dbg.ctl 28 = true → s.stopped = true →
        let bs := s.scanBytes (blkByte b 3) (blkNum b 4 13)
        (bs = [] → Does (.globalStop src) src b 0 (leBytes 8 0) [] s s) ∧
        (bs ≠ [] → Completes (.globalStop src) s (fun t => t.dbg.scan = some bs ∧ t.dbg.scanSent = 0 ∧ t.dbg.scanPath = blkByte b 2 ∧
          t.dbg.scanSrc = some src ∧ t.dbg.scans = s.dbg.scans + 1 ∧ bitOf t.dbg.stop 62 = true ∧ t.hearth.mbx = s.hearth.mbx))))) ∧
  (∀ (s : State) (at_ : Nat), s.stopped = true → s.clk.stopEnds = some at_ → at_ ≤ s.clk.wall → s.clk.change = none →
    s.clk.resumeAt = none → s.clk.startAt = none → s.clk.alignBad = false → s.hearth.noAdmit ≠ 0x0624 →
    Completes .operatingPointChange s (fun t => t.stopped = false ∧ t.clk.stopEnds = none ∧ t.clk.cluRun = s.allClusters ∧
      t.clk.celRun = s.celRuns ∧ t.tt.beat0 = s.tt.beat0 + (s.clk.beat - s.dbg.stopBeat))) ∧
  (∀ (s : State) (src : Src) (b : BitVec 2048) (dma : Bool),
    let g := s.graphBytes (if srcPorch src then min 4096 ((blkNum b 8 4 - 32) / 32) else 2047)
    let payload := leBytes 4 g.2.1 ++ [BitVec.ofNat 8 (b2n g.2.2)]
    Ready s src 0xA2 12 b →
    (srcPorch src = false → Does (.waitforGraph src dma) src b 0 payload g.1 s s) ∧
    (srcPorch src = true → dma = true → s.hearth.barrin = 4 → Completes (.waitforGraph src dma) s
      (Answers src b 0 payload [] (s.sendHost (.dmaWrite (blkNum b 0 8) g.1)))) ∧
    (srcPorch src = true → dma = false ∨ s.hearth.barrin ≠ 4 → Does (.waitforGraph src dma) src b 0x0603 [] [] s s)) ∧
  (∀ (s : State) (src : Src) (b : BitVec 2048),
    let mode := blkByte b 0
    let w : BitVec 128 := BitVec.ofNat 128 (blkNum b 8 16)
    let seq := (s.dbg.seqFreeze + 1) % 2 ^ 20
    let d : Dbg := { s.dbg with seqFreeze := seq, seenFreeze := keepSeen s.dbg.seenFreeze (s.nodeId, seq) }
    Ready s src 0xA4 24 b → blkNum b 2 6 = 0 → blkByte b 1 = 0 →
    (mode = 0 → s.frozen = none → s.dbg.cutAt = none → Does (.freeze src) src b 0 [] [] s { s with dbg := { d with
      cutAt := some (s.clk.beat + 12)
      freeze := BitVec.ofNat 64 (b2n (bitOf s.dbg.freeze 62) * 2 ^ 62 + s.nodeId * 2 ^ 20 + seq) } }) ∧
    (mode = 0 → s.frozen ≠ none → Does (.freeze src) src b 0 [] [] s { s with dbg := d }) ∧
    (mode = 1 → fld w 127 102 = 0 → (timeOf w).ns < 1000000000 →
      (s.tim.valid = false → Does (.freeze src) src b 0x0317 [] [] s s) ∧
      (s.tim.valid = true → Does (.freeze src) src b 0 [] [] s { s with dbg := { d with freezeAt := some (timeOf w, 0, s.nodeId, seq) } })) ∧
    (mode = 2 → Does (.freeze src) src b 0 [] [] s { s with
      frozen := none, dbg := { d with cutAt := none, freeze := putFld s.dbg.freeze 63 63 0 } }) ∧
    (2 < mode → Does (.freeze src) src b 0x0104 [] [] s s))

/-- TIMED_FREEZE_TRIGGER (R397), TRACE_MARKER (R401), TRACE_FRAME of records or idle (R403).
Where the rules leave a point open, the choice is the model's: log 13 (frames before scrambling). -/
def Obligations.TracePort : Prop :=
  ∀ (s : State),
    let d := s.dbg
    let sent (t : State) (kind : Byte) (body : List Byte) : Prop := t.out = s.out ++ [.trace ([0x5A#8, 0xC3#8, kind,
      BitVec.ofNat 8 d.frameCnt] ++ body)] ∧ t.dbg.frameCnt = (d.frameCnt + 1) % 256
    let m := (s.tim.now.sec * 1000000 + s.tim.now.ns / 1000) / max (fld d.ctl 13 0) 1
    (d.freezeAt = none → exec .timedFreezeTrigger s = .next s) ∧
    (∀ at_ scope origin seq, d.freezeAt = some (at_, scope, origin, seq) →
      (s.tim.now.reached at_ = false → exec .timedFreezeTrigger s = .next s) ∧
      (s.tim.now.reached at_ = true → s.frozen = none → d.cutAt = none → Completes .timedFreezeTrigger s (fun t =>
        { t with dbg := s.dbg, counters := s.counters } = s ∧ { t.dbg with trace := d.trace, lossRun := d.lossRun } = { d with
          freezeAt := none, cutAt := some (s.clk.beat + 12)
          freeze := BitVec.ofNat 64 (b2n (bitOf d.freeze 62) * 2 ^ 62 + scope * 2 ^ 60 + origin * 2 ^ 20 + seq) }))) ∧
    (bitOf d.ctl 30 = false ∨ m = d.markAt → exec .traceMarker s = .next s) ∧
    (bitOf d.ctl 30 = true → m < d.markAt → exec .traceMarker s = .next { s with dbg := { d with markAt := m } }) ∧
    (bitOf d.ctl 30 = true → d.markAt < m → bitOf d.ctl 31 = true → d.trace.length < 4096 → Completes .traceMarker s (fun t =>
      ∃ r : BitVec 128, t = { s with dbg := { d with markAt := m, trace := d.trace ++ [r] } } ∧ fld r 67 64 = 8 ∧
        fld r 127 80 = s.clk.fbc.toNat % 2 ^ 48 ∧ fld r 63 0 = (s.tim.now.sec % 2 ^ 34 * 2 ^ 30 + s.tim.now.ns % 2 ^ 30))) ∧
    (bitOf d.ctl 30 = true → d.markAt < m → bitOf d.ctl 31 = false → exec .traceMarker s = .next { s with dbg := { d with markAt := m } }) ∧
    (bitOf d.ctl 31 = false ∨ s.clk.linkRun = false → exec .traceFrame s = .next s) ∧
    (bitOf d.ctl 31 = true → s.clk.linkRun = true →
      (d.trace = [] → d.scan = none → Completes .traceFrame s (fun t => sent t 2#8 (List.replicate 256 0#8) ∧
        { t with out := s.out, dbg := s.dbg } = s ∧ { t.dbg with frameCnt := d.frameCnt } = d)) ∧
      (d.trace ≠ [] → d.lossRun = 0 → Completes .traceFrame s (fun t =>
        let rs := d.trace.take 16
        sent t 0#8 (rs.flatMap (fun r => leBytes 16 r.toNat) ++ List.replicate (256 - 16 * rs.length) 0xFF#8) ∧
        t.dbg.trace = d.trace.drop 16 ∧ { t with out := s.out, dbg := s.dbg, counters := s.counters } = s ∧
        t.counters = (s.bump 7 0x100 rs.length).counters ∧ { t.dbg with frameCnt := d.frameCnt, trace := d.trace } = d)) ∧
      (∀ bs, d.trace = [] → d.scan = some bs → d.scanPath = 0 → 256 < bs.length → Completes .traceFrame s (fun t =>
        sent t 1#8 (bs.take 256) ∧ t.dbg.scan = some (bs.drop 256) ∧ t.dbg.scanSent = d.scanSent + 256 ∧
        { t with out := s.out, dbg := s.dbg } = s)))

/-! Watchdogs, the Barrin link, recording and replay -/

/-- HEARTH_WATCHDOG (R278, R303) and FUNCTION_WATCHDOG (R303): a watchdog's expiry ends a running or paused job, is reported, and the block
named does nothing more until a full reset. BARRIN_LINK_DOWN (R280, R382), BARRIN_LINK_UP (R279, R280) and BARRIN_VERSION_RETRY (R279): the
link trains through its states as far as lanes and versions let it; back in UP it names how many events were not sent.
Where the rules leave a point open, the choice is the model's: log 13 (a wedged Hearth also ends the job). -/
def Obligations.WatchdogsAndBarrin : Prop :=
  (∀ (s : State),
    let after (h : Hearth) (k u : Nat) : Hearth := { h with
      stuck := if (k, u) ∈ s.hearth.stuck then s.hearth.stuck else s.hearth.stuck ++ [(k, u)] }
    let wedges (e : State) : Prop :=
      (∀ (kind : BitVec 4) (unit : Byte), Completes (.functionWatchdog kind unit) s (ButEvents { e with
        hearth := after e.hearth kind.toNat unit.toNat })) ∧
      (s.hearth.wedged = false → s.hearth.recovery = false → 4 ≤ s.sloe.stage → Completes .hearthWatchdog s (ButEvents { e with
        hearth := { after e.hearth 0 0 with wedged := true } }))
    (s.hearth.running = none → wedges s) ∧
    (∀ x, s.hearth.running = some x → (s.ctx x).job ∉ [1, 2] → wedges s) ∧
    (∀ x, s.hearth.running = some x → (s.ctx x).job ∈ [1, 2] → s.stopped = false → ∃ cl d n, StewardsHalt s cl d ∧
      wedges { s.endedNow x 0x0310 with clusters := cl, dbg := { d with stopAt := none }, counters := n }) ∧
    (s.hearth.wedged = true ∨ s.hearth.recovery = true ∨ s.sloe.stage < 4 → exec .hearthWatchdog s = .next s)) ∧
  (∀ (s : State) (good minv maxv : Byte),
    let served : Prop := (4 ≤ s.sloe.stage ∨ s.hearth.recovery = true) ∧ s.hearth.pState ≠ 3 ∧ s.pins.resetN = true ∧ s.pins.porstN = true
    let width : Byte := if good = 0xFF#8 then 0xFF#8 else if good.toNat % 16 = 15 then 0x0F#8 else if good.toNat / 16 = 15 then 0xF0#8 else 0#8
    let fits : Prop := minv.toNat ≤ 1 ∧ maxv ≠ 0#8
    let mismatch (i : Instr) (lanes : Byte) : Prop := exec i s = .next { s with hearth := { s.hearth with
      barrin := 3, barrinLanes := lanes, prcReason := 0x0203, barrinAt := s.clk.wall } }
    let goesUp (i : Instr) (lanes : Byte) : Prop :=
      (s.hearth.barrinUps = 0 → exec i s = .next { s with hearth := { s.hearth with
        barrin := 4, barrinLanes := lanes, barrinVer := 1, barrinUps := 1, unsent := 0 } }) ∧
      (0 < s.hearth.barrinUps → Completes i s (fun t => ButEvents { s with hearth := { s.hearth with
        barrin := 4, barrinLanes := lanes, barrinVer := 1, barrinUps := s.hearth.barrinUps + 1, unsent := 0 } } t ∧ t.hearth.unsent = 0 ∧
        t.hearth.evSeq = s.hearth.evSeq + 1#32 ∧ fld (t.hearth.events.get 0#256 (s.hearth.evSeq.toNat % 256)) 79 72 = 6 ∧
        fld (t.hearth.events.get 0#256 (s.hearth.evSeq.toNat % 256)) 31 0 = s.hearth.unsent % 2 ^ 32))
    (s.hearth.barrin = 0 → exec .barrinLinkDown s = .next s) ∧
    (s.hearth.barrin ≠ 0 → exec .barrinLinkDown s = .next { s with hearth := { s.hearth with
      barrin := 0, barrinVer := 0, barrinLanes := 0#8, sess := none, sessNext := none } }) ∧
    (¬ served ∨ s.hearth.barrin = 4 → exec (.barrinLinkUp good minv maxv) s = .next s) ∧
    (served → s.hearth.barrin < 3 →
      (width = 0#8 → exec (.barrinLinkUp good minv maxv) s = .next { s with hearth := { s.hearth with barrin := 2 } }) ∧
      (width ≠ 0#8 → fits → goesUp (.barrinLinkUp good minv maxv) width) ∧
      (width ≠ 0#8 → ¬ fits → mismatch (.barrinLinkUp good minv maxv) width)) ∧
    (served → s.hearth.barrin = 3 →
      (fits → goesUp (.barrinLinkUp good minv maxv) s.hearth.barrinLanes) ∧
      (¬ fits → mismatch (.barrinLinkUp good minv maxv) s.hearth.barrinLanes)) ∧
    (¬ served ∨ s.hearth.barrin ≠ 3 ∨ s.clk.wall < s.hearth.barrinAt + quMs 100 →
      exec (.barrinVersionRetry minv maxv) s = .next s) ∧
    (served → s.hearth.barrin = 3 → s.hearth.barrinAt + quMs 100 ≤ s.clk.wall →
      (fits → goesUp (.barrinVersionRetry minv maxv) s.hearth.barrinLanes) ∧
      (¬ fits → mismatch (.barrinVersionRetry minv maxv) s.hearth.barrinLanes)))

/-- RECORD_ENABLE (R366 to R368) and REPLAY_ENTRY (R369, R370): recording begins with its MARK; an entry that is reached has its command take
effect, one that is not applied again (R369) is passed over, an answer unlike the recorded one ends replay.
Where the rules leave a point open, the choice is the model's: log 13 (what ends a replayed log). -/
def Obligations.RecordAndReplay : Prop :=
  (∀ (s : State),
    let c := s.hearth.rec_.ctl
    let area (x : Nat) : Prop := s.logAreaOk x c = true
    let fails (code : Nat) : Prop := exec .recordEnable s = .next { s with hearth := { s.hearth with
      rec_ := { s.hearth.rec_ with reason := code } } }
    (bitOf c 63 = true → exec .recordEnable s = .next s) ∧
    (bitOf c 63 = false → s.hearth.running = none → fails 0x0302) ∧
    (∀ x, bitOf c 63 = false → s.hearth.running = some x →
      (bitOf c 62 = true → (s.ctx x).job = 1 ∨ (s.ctx x).job = 2 → fails 0x0303) ∧
      (bitOf c 62 = false → ¬ area x → fails 0x0412) ∧
      (bitOf c 62 = false → area x → Completes .recordEnable s (fun t =>
        { t with hearth := s.hearth, cel := s.cel, sloe := s.sloe, out := s.out, flash := s.flash, counters := s.counters,
                 w1Sets := s.w1Sets } = s ∧
        t.hearth.rec_ = { s.hearth.rec_ with
          ctl := putFld c 63 63 1, active := true, late := 0, entries := 1, wrPos := 32, rdPos := 0, rdSeq := 0, ctx := x })))) ∧
  (∀ (s s' : State) (hd : Nat) (payload : List Byte) (pos : Nat) (host : Option (List Byte)),
    let op := nfld hd 127 112
    let b := entryBlock hd payload
    (s.replaying = false ∨ s.hearth.switchSrc ≠ none ∨ s.dbg.scanSrc ≠ none → exec (.replayEntry host) s = .next s) ∧
    (s.replaying = true → s.hearth.switchSrc = none → s.dbg.scanSrc = none →
      (recSize s.hearth.rec_.ctl < s.hearth.rec_.rdPos + 32 → exec (.replayEntry host) s = .next { s with hearth := { s.hearth with
        rec_ := { s.hearth.rec_ with ctl := putFld s.hearth.rec_.ctl 63 63 0, active := false } } }) ∧
      (s.logAt s.hearth.rec_.rdPos = (s', some (hd, payload, none, pos)) → nfld hd 63 32 = s.hearth.rec_.rdSeq + 1 →
        let passed : Record := { s'.hearth.rec_ with rdPos := pos, rdSeq := s'.hearth.rec_.rdSeq + 1 }
        let moved : Record := { passed with entries := s'.hearth.rec_.entries + 1 }
        (op ≠ 0 → s.entryTurn hd = .lt → exec (.replayEntry host) s = .next s) ∧
        (op ∈ [0x70, 0x71, 0x72, 0x52] → s.entryTurn hd ≠ .lt → exec (.replayEntry host) s = .next { s' with
          hearth := { s'.hearth with rec_ := passed } }) ∧
        (op = 0x51 → nfld hd 133 132 ≠ 0 → s.entryTurn hd = .eq → nfld hd 103 96 = s'.hearth.protoSel.toNat → s'.hearth.protoSel ≠ 0#8 →
          s'.hearth.recovery = false → s'.sloe.latched = false → nfld hd 95 88 = 8 → payload.length = 8 →
          1000 ≤ blkNum b 0 2 → blkNum b 0 2 ≤ 1800 → 20 ≤ blkNum b 2 2 → blkNum b 2 2 ≤ 500 → 1 ≤ blkNum b 4 2 → blkNum b 4 2 ≤ 1000 →
          85 ≤ blkByte b 6 → blkByte b 6 ≤ 105 →
          let power : W64 := BitVec.ofNat 64 (leNat payload % 2 ^ 16 * 2 ^ 48 + leNat payload / 2 ^ 16 % 2 ^ 16 * 2 ^ 32
            + leNat payload / 2 ^ 32 % 2 ^ 16 * 2 ^ 16 + leNat payload / 2 ^ 48 % 2 ^ 8 * 2 ^ 8 + leNat payload / 2 ^ 56 % 2 ^ 8)
          let gives (r : Record) (w : List Nat) : Prop := Completes (.replayEntry host) s (fun t => ∃ d n,
            { d with trace := s'.dbg.trace, lossRun := s'.dbg.lossRun } = s'.dbg ∧ ButEvents { s' with
              dbg := d
              counters := n
              w1Sets := w
              hearth := { s'.hearth with rec_ := r, power := power, cmdCount := s'.hearth.cmdCount + 1 } } t)
          (nfld hd 87 72 = 0 → gives moved s'.w1Sets) ∧
          (nfld hd 87 72 ≠ 0 → gives { moved with ctl := putFld moved.ctl 63 63 0, active := false, diverged := true, reason := 0x0312 }
            (w1Key 1 0x3C 29 :: s'.w1Sets))))))

/-! Bring-up, resets, heat, the test port -/

/-- STRAP_SAMPLE (R434, R224), BRING_UP_STAGE for every stage (R276, R371, R413, R416), STAGE_TIMEOUT (R416), MANAGEMENT_MODE_TRY (R436).
Where the rules leave a point open, the choice is the model's: log 13 (stage 0 ends after the straps are sampled). -/
def Obligations.BringUp : Prop :=
  (∀ (s : State) (straps : W32),
    let pos : W32 := BitVec.ofNat 32 (fld straps 16 16 * 2 ^ 28 + fld straps 15 12 * 2 ^ 24 + fld straps 11 0)
    (s.sloe.strapped = false → s.sloe.stage = 0 → s.pins.vaux = true → exec (.strapSample straps) s = .next { s with
      pins := { s.pins with straps := straps }, sloe := { s.sloe with strapped := true, panPos := pos } }) ∧
    (s.sloe.strapped = true ∨ s.sloe.stage ≠ 0 ∨ s.pins.vaux = false → exec (.strapSample straps) s = .next s)) ∧
  (∀ (s : State) (ok : Byte) (align : Bool),
    let go := exec (.bringUpStage ok align) s
    let at_ (n : Nat) : Sloe := { s.sloe with stage := n, stageAt := s.clk.wall }
    let f : Flash := s.flash.readRec
    let valid (n : Nat) : Prop := s.fwCheck (s.fwSlot n) = 0
    let boots (g : Flash) (n : Nat) : Prop := go = .next { s with
      sloe := { at_ 4 with idKey := s.fuses.identity }, flash := g, hearth := { s.hearth with bootSlot := n, recovery := false } }
    let recovers (g : Flash) : Prop := go = .next { s with
      sloe := { s.sloe with idKey := s.fuses.identity }, flash := g, hearth := { s.hearth with recovery := true } }
    let chooses (g : Flash) : Prop :=
      (valid f.active → boots g f.active) ∧ (¬ valid f.active → valid (1 - f.active) → boots g (1 - f.active)) ∧
      (¬ valid f.active → ¬ valid (1 - f.active) → recovers g)
    (s.sloe.stage = 0 → s.sloe.strapped = true → s.pins.vaux = true → go = .next { s with sloe := at_ 1 }) ∧
    (s.sloe.stage = 0 → s.sloe.strapped = false → go = .next s) ∧
    (s.sloe.stage = 1 → s.pins.porstN = true → go = .next { s with sloe := at_ 2 }) ∧
    (s.sloe.stage = 1 → s.pins.porstN = false → go = .next s) ∧
    (s.sloe.stage = 2 → go = .next { s with sloe := at_ 3, pins := { s.pins with pwrOk := true } }) ∧
    (s.sloe.stage = 3 → s.pins.resetN = false ∨ s.hearth.recovery = true → go = .next s) ∧
    (s.sloe.stage = 3 → s.pins.resetN = true → s.hearth.recovery = false →
      (f.cand = none → chooses f) ∧
      (∀ c, f.cand = some c → 3 ≤ f.tries → ∃ g, BootRecorded { s with flash := f } f.active none f.tries g ∧ chooses g) ∧
      (∀ c, f.cand = some c → f.tries < 3 →
        (valid c → ∃ g, BootRecorded { s with flash := f } f.active (some c) (f.tries + 1) g ∧ boots g c) ∧
        (¬ valid c → c ≠ f.active → valid f.active → boots f f.active) ∧ (¬ valid c → ¬ valid f.active → recovers f))) ∧
    (s.sloe.stage = 4 ∨ s.sloe.stage = 5 → s.hearth.noAdmit = 0x0310 ∨ s.hearth.ready = true ∨ s.hearth.wedged = true → go = .next s) ∧
    (s.hearth.noAdmit ≠ 0x0310 → s.hearth.ready = false → s.hearth.wedged = false →
      (s.sloe.stage = 4 → s.sloe.latched = false → Completes (.bringUpStage ok align) s (fun t =>
        t.sloe = (if s.chainOk then at_ 5 else { at_ 5 with
          sources := s.sloe.sources ||| 0x100#20, l1Count := min (s.sloe.l1Count + 1) 0xFFFF, reason := 0x0517 }) ∧
        t.hearth.measured = true ∧ t.hearth.sfuTables = true ∧ t.hearth.loaded.get [] 2 = (s.fwSlot s.hearth.bootSlot).body ∧
        t.clk.linkRun = true ∧ t.clk.aligned = align ∧ (align = false → t.hearth.noAdmit = 0x0624))) ∧
      (s.sloe.stage = 4 ∨ s.sloe.stage = 5 → s.sloe.latched = true →
        Completes (.bringUpStage ok align) s (fun t => t.hearth.ready = true ∧ t.sloe.stage = s.sloe.stage ∧ t.clk.linkRun = s.clk.linkRun)) ∧
      (s.sloe.stage = 5 → s.sloe.latched = false →
        (ok = 0xFF#8 → s.flash.scrub = [] → s.hearth.running = none → s.stopped = false → s.clk.resumeAt = none →
          s.hearth.noAdmit ≠ 0x0624 →
          Completes (.bringUpStage ok true) s (fun t => t.sloe = at_ 6 ∧
            t.hearth = { s.hearth with ready := true, idleFrom := s.clk.wall } ∧ t.cores = [] ∧ t.clusters = [] ∧
            t.cel = { s.cel with stacksOk := ok, ready := true, wbSram := [] } ∧ t.clk = { s.clk with
              cluRun := [], celRun := decide (s.hearth.pState ≤ 1), startAt := none })) ∧
        (ok = 0xFF#8 → s.flash.scrub ≠ [] → s.hearth.entropyOk = false → Completes (.bringUpStage ok true) s (fun t =>
          t.sloe = at_ 6 ∧ t.hearth.ready = true ∧ t.hearth.noAdmit = 0x050D ∧ t.flash.scrub = s.flash.scrub)) ∧
        (Completes (.bringUpStage ok false) s (fun t =>
          t.sloe = at_ 6 ∧ t.hearth.ready = true ∧ t.hearth.noAdmit = 0x0624 ∧ t.clk.aligned = false)) ∧
        (ok ≠ 0xFF#8 → Completes (.bringUpStage ok true) s (fun t => t.sloe = at_ 6 ∧ t.hearth.ready = true ∧ t.hearth.noAdmit = 0x0615 ∧
          t.cel.ready = false ∧ t.cel.stacksOk = ok ∧ t.cel.reason = 0x0615 ∧ t.cores = [])))) ∧
    (6 ≤ s.sloe.stage → go = .next s)) ∧
  (∀ (s : State),
    let late (w : Nat) : Prop := s.sloe.stageAt + w ≤ s.clk.wall
    (s.sloe.stage ∉ [2, 4, 5] → exec .stageTimeout s = .next s) ∧
    (s.hearth.ready = true → exec .stageTimeout s = .next s) ∧
    (s.hearth.ready = false → s.stopped = false → s.clk.resumeAt = none →
      (s.sloe.stage = 4 ∧ late (quMs 200)) ∨ (s.sloe.stage = 5 ∧ late (quMs 1000 + s.flash.scrub.length * quUs 25500)) →
      Completes .stageTimeout s (fun t => ButEvents { s with
        hearth := { s.hearth with noAdmit := 0x0310, ready := true, idleFrom := s.clk.wall }
        clk := { s.clk with cluRun := s.allClusters, celRun := s.celRuns, startAt := none } } t)) ∧
    (s.hearth.ready = false → s.sloe.stage = 2 → late (quMs 20) → s.hearth.pState ≠ 3 → Completes .stageTimeout s (fun t =>
      t.sloe.stage = 1 ∧ t.pins.pwrOk = false ∧ fld t.sloe.cause 31 16 = 0x0627)) ∧
    (s.sloe.stage = 2 → s.clk.wall < s.sloe.stageAt + quMs 20 → exec .stageTimeout s = .next s)) ∧
  (∀ (s : State) (ok : Bool),
    (s.tim.linked = true ∨ s.sloe.stage < 4 ∨ s.hearth.pState = 3 → exec (.managementModeTry ok) s = .next s) ∧
    (s.tim.linked = false → 4 ≤ s.sloe.stage → s.hearth.pState ≠ 3 →
      exec (.managementModeTry true) s = .next { s with tim := { s.tim with linked := true } } ∧
      exec (.managementModeTry false) s = .next { s with tim := { s.tim with mode := (s.tim.mode + 1) % 3 } }))

/-- The Hearth state after a reset: CAP_W is the grade's power (Tables 0.1, 12.13). -/
def Sys2Proof.Machine.HearthAfter (s : State) : Hearth := { Hearth.reset with
  power := putFld Hearth.reset.power 63 48 (if s.fuses.od720 then 1800 else 2200) }

/-- What a power reset leaves (R413, R414): HBM contents lost, its cause bit and `fault` recorded, flash, fuses and straps kept. -/
def Sys2Proof.Machine.PowerResets (s : State) (bits fault : Nat) (t : State) : Prop :=
  t.sloe.stage = 1 ∧ t.sloe.stageAt = s.clk.wall ∧ fld t.sloe.cause 6 0 = bits ∧ fld t.sloe.cause 31 16 = fault ∧
    fld t.sloe.cause 39 36 = s.sloe.stage % 16 ∧ fld t.sloe.cause 63 48 = min (fld s.sloe.cause 63 48 + 1) 0xFFFF ∧
    t.hearth = { HearthAfter s with entropyOk := s.hearth.entropyOk, entropyRun := s.hearth.entropyRun } ∧
    t.cores = [] ∧ t.clusters = [] ∧ t.ports = [] ∧ t.dbg = Dbg.reset ∧ t.cel.keys = [] ∧ t.cel.blocks = [] ∧ t.cel.fills = [] ∧
    t.cel.powerOn = s.cel.powerOn + 1 ∧ t.pins.pwrOk = false ∧ t.fuses = s.fuses ∧ t.sloe.panPos = s.sloe.panPos ∧
    t.sloe.latched = s.sloe.latched ∧ t.sloe.l2Count = s.sloe.l2Count ∧ t.pending = s.pending

/-- SLOE_RESET and SLOE_POWER_ON (R413, R431), POWER_RESET (R415), MODULE_RESET (R414, R415, R351), SUPPLY_FAULT (R422), THERMAL_TRIP (R424).
Where the rules leave a point open, the choice is the model's: log 13 (resets during earlier stages record their cause only). -/
def Obligations.ResetsAndFaults : Prop :=
  (∀ (s : State) (vaux : Bool) (i : Instr),
    (vaux = false ∧ i = .sloeReset) ∨ (vaux = true ∧ i = .sloePowerOn ∧ s.pins.vaux = false) →
    Completes i s (fun t => t.sloe = { Sloe.reset with stageAt := s.clk.wall, cause := 1#64 } ∧ t.hearth = HearthAfter s ∧ t.cores = [] ∧
      t.ports = [] ∧ t.cel.blocks = [] ∧ t.cel.powerOn = s.cel.powerOn + 1 ∧ t.pins.vaux = vaux ∧ t.pins.pwrOk = false ∧ t.pins.alarmN = true ∧
      t.fuses = s.fuses ∧ t.flash = s.flash ∧ t.pending = s.pending)) ∧
  (∀ (s : State),
    (s.pins.vaux = true → exec .sloePowerOn s = .next s) ∧
    (s.pins.porstN = true → exec (.powerReset false) s = .next s ∧
      (s.sloe.stage ≠ 0 → Completes (.powerReset true) s (fun t => PowerResets s 2 0 t ∧ t.pins.porstN = false ∧ t.flash = s.flash)) ∧
      (s.sloe.stage = 0 → exec (.powerReset true) s = .next { s with
        pins := { s.pins with porstN := false }, sloe := { s.sloe with cause := s.sloe.cause ||| 2#64 } })) ∧
    (s.pins.porstN = false → exec (.powerReset true) s = .next s ∧
      exec (.powerReset false) s = .next { s with pins := { s.pins with porstN := true } }) ∧
    (s.pins.resetN = true → exec (.moduleReset false) s = .next s ∧
      (s.hearth.pState ≠ 3 → s.sloe.stage < 3 → exec (.moduleReset true) s = .next { s with
        pins := { s.pins with resetN := false }, sloe := { s.sloe with cause := s.sloe.cause ||| 4#64 } }) ∧
      (s.hearth.pState ≠ 3 → 3 ≤ s.sloe.stage → s.sloe.merge = none → Completes (.moduleReset true) s (fun t =>
        t.sloe.stage = 3 ∧ fld t.sloe.cause 6 0 = 4 ∧
        t.hearth = { HearthAfter s with entropyOk := s.hearth.entropyOk, entropyRun := s.hearth.entropyRun } ∧ t.cores = [] ∧ t.ports = [] ∧ t.cel.keys = [] ∧
        t.cel.blocks = s.cel.blocks ∧ t.cel.fills = s.cel.fills ∧ t.cel.powerOn = s.cel.powerOn ∧ t.pins.resetN = false ∧
        t.pins.pwrOk = s.pins.pwrOk ∧ t.fuses = s.fuses ∧ t.flash = s.flash ∧ t.sloe.latched = s.sloe.latched ∧
        t.sloe.l2Count = s.sloe.l2Count)) ∧
      (s.hearth.pState = 3 → s.sloe.stage ≠ 0 → s.pins.porstN = true → Completes (.moduleReset true) s (fun t =>
        PowerResets s (2 ^ 6 + 2 ^ 2) 0 t ∧ t.pins.resetN = false))) ∧
    (s.pins.resetN = false → exec (.moduleReset true) s = .next s ∧
      exec (.moduleReset false) s = .next { s with pins := { s.pins with resetN := true } }) ∧
    (s.sloe.stage < 2 ∨ s.hearth.pState = 3 → exec .supplyFault s = .next s) ∧
    (2 ≤ s.sloe.stage → s.hearth.pState ≠ 3 → Completes .supplyFault s (fun t => PowerResets s (2 ^ 5) 0x0627 t ∧
      (s.flash.log.length < 1024 → t.flash.log.length = s.flash.log.length + 1)))) ∧
  (∀ (s : State),
    let tries := min (Config.alignTries s.clk.alignCount) 8
    let rests (e : State) : Prop := Completes .thermalTrip s (ButEvents { e with
      hearth := { e.hearth with thermal := true, pState := 1 }
      clk := if s.sloe.latched then { s.clk with cluRun := [], celRun := false, startAt := none }
        else { s.clk with
          cluRun := [], celRun := false, startAt := some (s.clk.wall + (quUs 2 + quUs 20) + quUs tries)
          alignCount := s.clk.alignCount + 1, alignBad := s.clk.alignBad || decide (tries = 8) } })
    s.stopped = false → s.clk.resumeAt = none → s.clk.startAt = none → s.hearth.noAdmit ≠ 0x0624 → s.hearth.pState ≤ 1 →
    (s.hearth.running = none → rests s) ∧
    (∀ x, s.hearth.running = some x → (s.ctx x).job ∈ [1, 2] → ∃ cl d n, StewardsHalt s cl d ∧
      rests { s.endedNow x 0x0626 with clusters := cl, dbg := { d with stopAt := none }, counters := n }))

/-- TAP_TCK (R438, Table 17.10): reset, the instruction register, IDCODE, the bypass bit.
Where the rules leave a point open, the choice is the model's: log 13 (one TCK period for each command). -/
def Obligations.TestPort : Prop :=
  ∀ (s : State) (trstN tms tdi : Bool),
    let pins (tdo : Option Bool) : Pins := { s.pins with trstN := trstN, tms := tms, tdi := tdi, tdo := tdo }
    let j := s.jtag
    let run : Prop := s.pins.vaux = true ∧ trstN = true ∧ s.pins.resetN = true ∧ s.pins.porstN = true
    let tck := exec (.tapTck trstN tms tdi) s
    (s.pins.vaux = false → tck = .next { s with pins := pins s.pins.tdo }) ∧
    (s.pins.vaux = true → trstN = false ∨ s.pins.resetN = false ∨ s.pins.porstN = false → tck = .next { s with
      pins := pins none, jtag := { j with st := .reset, ir := 1#8, dr := [] } }) ∧
    (run → j.st ∉ [.capDr, .shDr, .capIr, .shIr] → j.st.step tms ∉ [.shDr, .shIr, .updDr, .updIr, .reset] →
      tck = .next { s with pins := pins none, jtag := { j with st := j.st.step tms } }) ∧
    (run → j.st = .reset → tms = true → tck = .next { s with pins := pins none, jtag := { j with ir := 1#8 } }) ∧
    (run → j.st = .capIr → tms = false → tck = .next { s with pins := pins (some true), jtag := { j with st := .shIr, irSh := 1#8 } }) ∧
    (run → j.st = .shIr → tms = false →
      let x : Byte := BitVec.ofNat 8 (j.irSh.toNat / 2 + (if tdi then 128 else 0))
      tck = .next { s with pins := pins (some (bitOf x 0)), jtag := { j with irSh := x } }) ∧
    (run → j.st = .ex1Ir → tms = true → tck = .next { s with pins := pins none, jtag := { j with st := .updIr, ir := j.irSh } }) ∧
    (run → j.st = .capDr → tms = false → j.ir = 1#8 →
      let id := (if s.fuses.b0 then 2 else 1) * 2 ^ 28 + (if s.fuses.od720 then 0x720 else 0x800) * 2 ^ 12 + 0x4B9 * 2 + 1
      tck = .next { s with pins := pins (some true), jtag := { j with st := .shDr, dr := (List.range 32).map id.testBit } }) ∧
    (run → j.st = .capDr → tms = false → j.ir = 0xFF#8 → tck = .next { s with
      pins := pins (some false), jtag := { j with st := .shDr, dr := [false] } }) ∧
    (run → j.st = .shDr → tms = false → j.ir ≠ 0x20#8 →
      let x := j.dr.drop 1 ++ [tdi]
      tck = .next { s with pins := pins (some (x.headD false)), jtag := { j with dr := x } })

/-! The whole machine -/

/-- ALARM_N is low exactly while LEVEL2 or LATCHED is 1 (R392). -/
def Sys2Proof.Machine.AlarmLineHolds (s : State) : Prop := s.pins.alarmN = !(s.sloe.level2 || s.sloe.latched)

/-- Every core's SRAM, resident or in a saved context, is in canonical form: addresses rise, nothing listed reads as an unlisted byte. -/
def Sys2Proof.Machine.SramCanonical (s : State) : Prop :=
  (∀ e ∈ s.cores, SMap.Wf 0#8 e.2.sram) ∧
    ∀ c ∈ s.hearth.ctxs, ∀ v, c.2.saved = some v → ∀ e ∈ v.cores, SMap.Wf 0#8 e.2.sram

/-- What the manual says of the module at the Sloe domain's power-on (R226, R330, R341, R413, Table 16.1 and the reset columns of the register
tables); the two invariants of this section hold there.
Where the rules leave a point open, the choice is the model's: log 4 (the part) for the operating point. -/
def Obligations.ResetValues : Prop :=
  let s := State.reset
  s.pending = [] ∧ s.sloe.stage = 0 ∧ s.sloe.latched = false ∧ s.sloe.l2Count = 0 ∧ s.hearth.ready = false ∧ s.hearth.running = none ∧
  s.hearth.sess = none ∧ s.clk.valid = false ∧ s.clk.baseOp = s.fuses.topOp ∧ s.clk.runOp = s.fuses.topOp ∧ s.clk.linkRun = false ∧
  s.tim.now = TimeWord.zero ∧ s.tim.valid = false ∧ s.pan.fenced = false ∧ s.pan.enable = false ∧
  s.regWord 1 0x08 = 1000 ∧ s.regWord 1 0x48 = 3 ∧ s.regWord 3 0x000 = 0x182003E8 ∧ s.regWord 3 0x200 = 0x182003E8 ∧
  s.regWord 4 0x10 = 0x0003D090 ∧ s.regWord 5 0x00 = 0x8A180280 ∧ s.regWord 6 0x00 = 0x18000000 ∧ s.regWord 6 0x08 = 0x02000000 ∧
  s.regWord 6 0x40 = 0x00000210 ∧ s.regWord 7 0x00 = 0x07FC03E8 ∧ s.regWord 7 0x04 = 0xFFFF0000 ∧
  (∀ x, (s.ctx x).state = 0) ∧ (∀ n, s.nodeEntry n = BitVec.ofNat 16 (0x8000 + n)) ∧ (∀ p, (s.port p).state = 0) ∧
  (∀ n i, (s.coreN n).sreg.get 0#64 i = 0#64 ∧ (s.coreN n).sram.get 0#8 i = 0#8) ∧ (∀ k, s.counters.get 0#64 k = 0#64) ∧
  AlarmLineHolds s ∧ SramCanonical s

/-- ALARM_N stays low exactly while LEVEL2 or LATCHED is 1, whatever the next step is (R392), and LATCHED is left only through the Sloe
domain's power-on (R391). -/
def Obligations.AlarmLine : Prop :=
  ∀ (s t : State), step s = .next t →
    (AlarmLineHolds s → AlarmLineHolds t) ∧
    (s.sloe.latched = true → (∀ l, s.pending ≠ .sloeReset :: l) → (∀ l, s.pending ≠ .sloePowerOn :: l) → t.sloe.latched = true)

/-- No step changes what the part's fuses say of it, and the anti-rollback count never falls (R14, R277, R371, R436). -/
def Obligations.FusesOnlyRise : Prop :=
  ∀ (s t : State), step s = .next t → { t.fuses with svn := s.fuses.svn } = s.fuses ∧ s.fuses.svn ≤ t.fuses.svn

/-- Every step keeps every core's SRAM in canonical form, so that equal memories are equal data.
Where the rules leave a point open, the choice is the model's: log 9 (the form of a table is the model's). -/
def Obligations.SramStaysCanonical : Prop :=
  ∀ (s t : State), SramCanonical s → step s = .next t → SramCanonical t

/-! Statements of several parts -/

/-- The scalar instructions. -/
def Obligations.ScalarArithmetic : Prop := Claims.ScalarArithmetic ∧ Claims.ScalarMultiply ∧ Claims.ScalarImmediate

/-- Branches, jumps, loops and the bundle that follows. -/
def Obligations.ControlFlow : Prop := Claims.Branches ∧ Claims.Loops ∧ Claims.LoopBack ∧ Claims.NextBundle

/-- Flags, identity, beats, the end of a program, and no-operations. -/
def Obligations.FlagsBeatsAndDone : Prop := Claims.FlagsAndIdentity ∧ Claims.NoOperations ∧ Claims.BeatsAndDone

/-- Loads and stores of scalars and vectors. -/
def Obligations.Moves : Prop := Claims.ScalarMoves ∧ Claims.VectorMoves

/-- What lands in its beat: accesses, register results, the array. -/
def Obligations.ResultsLand : Prop := Claims.AccessesLand ∧ Claims.ResultsLand ∧ Claims.ArrayLands

/-- Requests of a core to its cluster and the fabric. -/
def Obligations.FabricRequests : Prop := Claims.Departures ∧ Claims.PantryOperations ∧ Claims.BoardAccessesAndQueues

/-- Floating-point arithmetic on vectors, single and fused. -/
def Obligations.VectorFloatArithmetic : Prop := Claims.VectorFloatArithmetic ∧ Claims.VectorFused

/-- Integer, sign, logic, lane and predicate instructions on vectors. -/
def Obligations.VectorIntegerAndLogic : Prop := Claims.VectorIntegerAndSign ∧ Claims.VectorLogicAndLanes ∧ Claims.VectorPredicates

/-- Conversions, quantisation and packing. -/
def Obligations.VectorConversions : Prop := Claims.VectorConversions ∧ Claims.VectorQuantiseAndPack

/-- Special functions, reductions, and the tree by which a reduction adds.
Where the rules leave a point open, the choice is the model's: log 10 (a result that no precision separates from a breakpoint). -/
def Obligations.SpecialAndReductions : Prop := Claims.SpecialAndReductions ∧ Claims.ReductionTree

/-- Samplers and fabric taps.
Where the rules leave a point open, the choice is the model's: log 13 (sampler precedence) and log 14. -/
def Obligations.SamplersAndTaps : Prop := Claims.SampleRequests ∧ Claims.TapWork

/-- Frames received and cells released.
Where the rules leave a point open, the choice is the model's: log 13 (a received frame stands at the release beat of its first slot). -/
def Obligations.ReceivedCells : Prop := Claims.ReceivedFrames ∧ Claims.ReleasedCells

/-- Bypass cells taken and sent.
Where the rules leave a point open, the choice is the model's: log 13 (the beats from a bypass cell to its effect). -/
def Obligations.BypassCells : Prop := Claims.BypassCells ∧ Claims.SentBypassCells

/-- The states of training and LNK_CTL.ENABLE.
Where the rules leave a point open, the choice is the model's: log 15. -/
def Obligations.PortTraining : Prop := Claims.TrainingStates ∧ Claims.PortEnable

/-- The commands of a steward.
Where the rules leave a point open, the choice is the model's: log 13 (program loads, fault codes of operands). -/
def Obligations.StewardCommands : Prop := Claims.StewardCores ∧ Claims.StewardCommands

/-- Epoch starts and barriers.
Where the rules leave a point open, the choice is the model's: log 13 (readiness, when the index advances). -/
def Obligations.Epochs : Prop := Claims.EpochsStart ∧ Claims.BarrierReadiness

/-- Pantry work of the target and of the requester.
Where the rules leave a point open, the choice is the model's: log 13. -/
def Obligations.PantryTransfers : Prop := Claims.PantryTarget ∧ Claims.PantryRequester
end

