-- ==== Sys2Proof/Laws/Tables.lean ====
section
/-! SUPPORT. Sparse tables: reads after writes, and the canonical form that every table operation keeps. -/

namespace Sys2Proof

namespace SMap
variable {α : Type}

theorem get_ins_same (d : α) (m : SMap α) (k : Nat) (v : α) : get d (ins m k v) k = v := by
  induction m with
  | nil => simp [ins, get]
  | cons p m ih =>
    obtain ⟨k', v'⟩ := p
    simp only [ins]
    split
    · simp [get]
    · split
      · simp [get]
      · simp [get, *]

theorem get_ins_ne (d : α) (m : SMap α) {k j : Nat} (v : α) (h : j ≠ k) : get d (ins m k v) j = get d m j := by
  induction m with
  | nil => simp [ins, get, h]
  | cons p m ih =>
    obtain ⟨k', v'⟩ := p
    simp only [ins]
    split
    · simp [get, h]
    · split
      · rename_i h2; subst h2; simp [get, h]
      · simp [get, ih]

theorem get_filter_same (d : α) (m : SMap α) (k : Nat) : get d (m.filter (fun p => p.1 != k)) k = d := by
  induction m with
  | nil => rfl
  | cons p m ih =>
    by_cases h : p.1 = k
    · simp [h, ih]
    · simp [h, get, ih, Ne.symm h]

theorem get_filter_ne (d : α) (m : SMap α) {k j : Nat} (h : j ≠ k) :
    get d (m.filter (fun p => p.1 != k)) j = get d m j := by
  induction m with
  | nil => rfl
  | cons p m ih =>
    by_cases h' : p.1 = k
    · have : ¬ j = p.1 := by omega
      simp [h', ih, get, h]
    · by_cases h2 : j = p.1 <;> simp [h', get, ih, h2]

variable [DecidableEq α]

@[simp] theorem get_set_same (d : α) (m : SMap α) (k : Nat) (v : α) : get d (set d m k v) k = v := by
  unfold set
  split
  · rename_i h; rw [get_filter_same, h]
  · exact get_ins_same ..

theorem get_set_ne (d : α) (m : SMap α) {k j : Nat} (v : α) (h : j ≠ k) : get d (set d m k v) j = get d m j := by
  unfold set
  split
  · exact get_filter_ne _ _ h
  · exact get_ins_ne _ _ _ h

theorem get_set (d : α) (m : SMap α) (k j : Nat) (v : α) : get d (set d m k v) j = if j = k then v else get d m j := by
  split
  · rename_i h; rw [h, get_set_same]
  · rename_i h; exact get_set_ne _ _ _ h

@[simp] theorem get_upd_same (d : α) (m : SMap α) (k : Nat) (f : α → α) : get d (upd d m k f) k = f (get d m k) := by
  simp [upd]

theorem get_upd_ne (d : α) (m : SMap α) {k j : Nat} (f : α → α) (h : j ≠ k) : get d (upd d m k f) j = get d m j :=
  get_set_ne _ _ _ h

/-! The canonical form -/

omit [DecidableEq α] in
theorem mem_ins {m : SMap α} {k : Nat} {v : α} {p : Nat × α} (h : p ∈ ins m k v) : p = (k, v) ∨ p ∈ m := by
  induction m with
  | nil => simpa [ins] using h
  | cons q m ih =>
    obtain ⟨k', v'⟩ := q
    simp only [ins] at h
    split at h
    · simpa using h
    · split at h
      · rcases List.mem_cons.1 h with h | h
        · exact .inl h
        · exact .inr (List.mem_cons_of_mem _ h)
      · rcases List.mem_cons.1 h with h | h
        · exact .inr (h ▸ List.mem_cons_self ..)
        · rcases ih h with h | h
          · exact .inl h
          · exact .inr (List.mem_cons_of_mem _ h)

omit [DecidableEq α] in
theorem ins_sorted {m : SMap α} (k : Nat) (v : α) (h : m.Pairwise (fun a b => a.1 < b.1)) :
    (ins m k v).Pairwise (fun a b => a.1 < b.1) := by
  induction m with
  | nil => simp [ins]
  | cons q m ih =>
    obtain ⟨k', v'⟩ := q
    have h1 := (List.pairwise_cons.1 h).1
    have h2 := (List.pairwise_cons.1 h).2
    simp only [ins]
    split
    · rename_i hk
      refine List.pairwise_cons.2 ⟨fun p hp => ?_, h⟩
      rcases List.mem_cons.1 hp with rfl | hp
      · exact hk
      · exact Nat.lt_trans hk (h1 p hp)
    · split
      · rename_i hk; subst hk; exact List.pairwise_cons.2 ⟨h1, h2⟩
      · refine List.pairwise_cons.2 ⟨fun p hp => ?_, ih h2⟩
        rcases mem_ins hp with rfl | hp
        · simp only; omega
        · exact h1 p hp

/-- Setting one index keeps the canonical form. -/
theorem Wf.set {d : α} {m : SMap α} (h : Wf d m) (k : Nat) (v : α) : Wf d (SMap.set d m k v) := by
  unfold SMap.set
  split
  · exact ⟨h.1.filter _, fun p hp => h.2 p (List.mem_filter.1 hp).1⟩
  · rename_i hv
    refine ⟨ins_sorted k v h.1, fun p hp => ?_⟩
    rcases mem_ins hp with rfl | hp
    · exact hv
    · exact h.2 p hp

theorem Wf.upd {d : α} {m : SMap α} (h : Wf d m) (k : Nat) (f : α → α) : Wf d (SMap.upd d m k f) := h.set k _

theorem Wf.setRun {d : α} {m : SMap α} (h : Wf d m) (k : Nat) (vs : List α) : Wf d (SMap.setRun d m k vs) := by
  induction vs generalizing m k with
  | nil => exact h
  | cons v vs ih => exact ih (h.set k v) (k + 1)

omit [DecidableEq α] in
theorem Wf.clearRange {d : α} {m : SMap α} (h : Wf d m) (lo hi : Nat) : Wf d (SMap.clearRange m lo hi) :=
  ⟨h.1.filter _, fun p hp => h.2 p (List.mem_filter.1 hp).1⟩

/-- Writing a run leaves every index outside it as it was. -/
theorem get_setRun_ne (d : α) (m : SMap α) (k : Nat) (vs : List α) (j : Nat) (h : j < k ∨ k + vs.length ≤ j) :
    get d (setRun d m k vs) j = get d m j := by
  induction vs generalizing m k with
  | nil => rfl
  | cons v vs ih =>
    simp only [setRun]
    rw [ih _ _ (by simp at h; omega), get_set_ne _ _ _ (by simp at h; omega)]

/-- Writing a run puts its elements at their places. -/
theorem get_setRun_mem (d : α) (m : SMap α) (k : Nat) (vs : List α) (i : Nat) (h : i < vs.length) :
    get d (setRun d m k vs) (k + i) = vs[i] := by
  induction vs generalizing m k i with
  | nil => simp at h
  | cons v vs ih =>
    simp only [setRun]
    cases i with
    | zero => rw [get_setRun_ne _ _ _ _ _ (by omega)]; simp
    | succ i =>
      have := ih (set d m k v) (k + 1) i (by simpa using h)
      rw [show k + (i + 1) = k + 1 + i by omega, this]; simp

end SMap

/-! Byte memories -/

/-- A write keeps the canonical form of a memory. -/
theorem Mem.write_wf {m : Mem} (h : SMap.Wf 0#8 m) (a : Nat) (bs : List Byte) : SMap.Wf 0#8 (m.write a bs) := h.setRun a bs

/-- A write leaves every byte outside it as it was. -/
theorem Mem.get_write_ne (m : Mem) (a : Nat) (bs : List Byte) (j : Nat) (h : j < a ∨ a + bs.length ≤ j) :
    SMap.get 0#8 (m.write a bs) j = SMap.get 0#8 m j := SMap.get_setRun_ne _ _ _ _ _ h

end Sys2Proof
end

