-- ==== Sys2Proof/Laws/State.lean ====
section
/-! SUPPORT. What each change of one part of the state leaves in every field; cores, clusters and ports read back. -/

namespace Sys2Proof.Machine

/-! modClk -/

@[simp] theorem State.modClk_pending (s : State) (f : Clk → Clk) : (s.modClk f).pending = s.pending := rfl
@[simp] theorem State.modClk_clk (s : State) (f : Clk → Clk) : (s.modClk f).clk = f s.clk := rfl
@[simp] theorem State.modClk_tim (s : State) (f : Clk → Clk) : (s.modClk f).tim = s.tim := rfl
@[simp] theorem State.modClk_cores (s : State) (f : Clk → Clk) : (s.modClk f).cores = s.cores := rfl
@[simp] theorem State.modClk_clusters (s : State) (f : Clk → Clk) : (s.modClk f).clusters = s.clusters := rfl
@[simp] theorem State.modClk_streams (s : State) (f : Clk → Clk) : (s.modClk f).streams = s.streams := rfl
@[simp] theorem State.modClk_hall (s : State) (f : Clk → Clk) : (s.modClk f).hall = s.hall := rfl
@[simp] theorem State.modClk_tt (s : State) (f : Clk → Clk) : (s.modClk f).tt = s.tt := rfl
@[simp] theorem State.modClk_ports (s : State) (f : Clk → Clk) : (s.modClk f).ports = s.ports := rfl
@[simp] theorem State.modClk_pan (s : State) (f : Clk → Clk) : (s.modClk f).pan = s.pan := rfl
@[simp] theorem State.modClk_cel (s : State) (f : Clk → Clk) : (s.modClk f).cel = s.cel := rfl
@[simp] theorem State.modClk_hearth (s : State) (f : Clk → Clk) : (s.modClk f).hearth = s.hearth := rfl
@[simp] theorem State.modClk_dbg (s : State) (f : Clk → Clk) : (s.modClk f).dbg = s.dbg := rfl
@[simp] theorem State.modClk_fuses (s : State) (f : Clk → Clk) : (s.modClk f).fuses = s.fuses := rfl
@[simp] theorem State.modClk_pins (s : State) (f : Clk → Clk) : (s.modClk f).pins = s.pins := rfl
@[simp] theorem State.modClk_sloe (s : State) (f : Clk → Clk) : (s.modClk f).sloe = s.sloe := rfl
@[simp] theorem State.modClk_flash (s : State) (f : Clk → Clk) : (s.modClk f).flash = s.flash := rfl
@[simp] theorem State.modClk_jtag (s : State) (f : Clk → Clk) : (s.modClk f).jtag = s.jtag := rfl
@[simp] theorem State.modClk_counters (s : State) (f : Clk → Clk) : (s.modClk f).counters = s.counters := rfl
@[simp] theorem State.modClk_frozen (s : State) (f : Clk → Clk) : (s.modClk f).frozen = s.frozen := rfl
@[simp] theorem State.modClk_draws (s : State) (f : Clk → Clk) : (s.modClk f).draws = s.draws := rfl
@[simp] theorem State.modClk_w1Sets (s : State) (f : Clk → Clk) : (s.modClk f).w1Sets = s.w1Sets := rfl
@[simp] theorem State.modClk_out (s : State) (f : Clk → Clk) : (s.modClk f).out = s.out := rfl

/-! modTim -/

@[simp] theorem State.modTim_pending (s : State) (f : Tim → Tim) : (s.modTim f).pending = s.pending := rfl
@[simp] theorem State.modTim_clk (s : State) (f : Tim → Tim) : (s.modTim f).clk = s.clk := rfl
@[simp] theorem State.modTim_tim (s : State) (f : Tim → Tim) : (s.modTim f).tim = f s.tim := rfl
@[simp] theorem State.modTim_cores (s : State) (f : Tim → Tim) : (s.modTim f).cores = s.cores := rfl
@[simp] theorem State.modTim_clusters (s : State) (f : Tim → Tim) : (s.modTim f).clusters = s.clusters := rfl
@[simp] theorem State.modTim_streams (s : State) (f : Tim → Tim) : (s.modTim f).streams = s.streams := rfl
@[simp] theorem State.modTim_hall (s : State) (f : Tim → Tim) : (s.modTim f).hall = s.hall := rfl
@[simp] theorem State.modTim_tt (s : State) (f : Tim → Tim) : (s.modTim f).tt = s.tt := rfl
@[simp] theorem State.modTim_ports (s : State) (f : Tim → Tim) : (s.modTim f).ports = s.ports := rfl
@[simp] theorem State.modTim_pan (s : State) (f : Tim → Tim) : (s.modTim f).pan = s.pan := rfl
@[simp] theorem State.modTim_cel (s : State) (f : Tim → Tim) : (s.modTim f).cel = s.cel := rfl
@[simp] theorem State.modTim_hearth (s : State) (f : Tim → Tim) : (s.modTim f).hearth = s.hearth := rfl
@[simp] theorem State.modTim_dbg (s : State) (f : Tim → Tim) : (s.modTim f).dbg = s.dbg := rfl
@[simp] theorem State.modTim_fuses (s : State) (f : Tim → Tim) : (s.modTim f).fuses = s.fuses := rfl
@[simp] theorem State.modTim_pins (s : State) (f : Tim → Tim) : (s.modTim f).pins = s.pins := rfl
@[simp] theorem State.modTim_sloe (s : State) (f : Tim → Tim) : (s.modTim f).sloe = s.sloe := rfl
@[simp] theorem State.modTim_flash (s : State) (f : Tim → Tim) : (s.modTim f).flash = s.flash := rfl
@[simp] theorem State.modTim_jtag (s : State) (f : Tim → Tim) : (s.modTim f).jtag = s.jtag := rfl
@[simp] theorem State.modTim_counters (s : State) (f : Tim → Tim) : (s.modTim f).counters = s.counters := rfl
@[simp] theorem State.modTim_frozen (s : State) (f : Tim → Tim) : (s.modTim f).frozen = s.frozen := rfl
@[simp] theorem State.modTim_draws (s : State) (f : Tim → Tim) : (s.modTim f).draws = s.draws := rfl
@[simp] theorem State.modTim_w1Sets (s : State) (f : Tim → Tim) : (s.modTim f).w1Sets = s.w1Sets := rfl
@[simp] theorem State.modTim_out (s : State) (f : Tim → Tim) : (s.modTim f).out = s.out := rfl

/-! modTt -/

@[simp] theorem State.modTt_pending (s : State) (f : Timetable → Timetable) : (s.modTt f).pending = s.pending := rfl
@[simp] theorem State.modTt_clk (s : State) (f : Timetable → Timetable) : (s.modTt f).clk = s.clk := rfl
@[simp] theorem State.modTt_tim (s : State) (f : Timetable → Timetable) : (s.modTt f).tim = s.tim := rfl
@[simp] theorem State.modTt_cores (s : State) (f : Timetable → Timetable) : (s.modTt f).cores = s.cores := rfl
@[simp] theorem State.modTt_clusters (s : State) (f : Timetable → Timetable) : (s.modTt f).clusters = s.clusters := rfl
@[simp] theorem State.modTt_streams (s : State) (f : Timetable → Timetable) : (s.modTt f).streams = s.streams := rfl
@[simp] theorem State.modTt_hall (s : State) (f : Timetable → Timetable) : (s.modTt f).hall = s.hall := rfl
@[simp] theorem State.modTt_tt (s : State) (f : Timetable → Timetable) : (s.modTt f).tt = f s.tt := rfl
@[simp] theorem State.modTt_ports (s : State) (f : Timetable → Timetable) : (s.modTt f).ports = s.ports := rfl
@[simp] theorem State.modTt_pan (s : State) (f : Timetable → Timetable) : (s.modTt f).pan = s.pan := rfl
@[simp] theorem State.modTt_cel (s : State) (f : Timetable → Timetable) : (s.modTt f).cel = s.cel := rfl
@[simp] theorem State.modTt_hearth (s : State) (f : Timetable → Timetable) : (s.modTt f).hearth = s.hearth := rfl
@[simp] theorem State.modTt_dbg (s : State) (f : Timetable → Timetable) : (s.modTt f).dbg = s.dbg := rfl
@[simp] theorem State.modTt_fuses (s : State) (f : Timetable → Timetable) : (s.modTt f).fuses = s.fuses := rfl
@[simp] theorem State.modTt_pins (s : State) (f : Timetable → Timetable) : (s.modTt f).pins = s.pins := rfl
@[simp] theorem State.modTt_sloe (s : State) (f : Timetable → Timetable) : (s.modTt f).sloe = s.sloe := rfl
@[simp] theorem State.modTt_flash (s : State) (f : Timetable → Timetable) : (s.modTt f).flash = s.flash := rfl
@[simp] theorem State.modTt_jtag (s : State) (f : Timetable → Timetable) : (s.modTt f).jtag = s.jtag := rfl
@[simp] theorem State.modTt_counters (s : State) (f : Timetable → Timetable) : (s.modTt f).counters = s.counters := rfl
@[simp] theorem State.modTt_frozen (s : State) (f : Timetable → Timetable) : (s.modTt f).frozen = s.frozen := rfl
@[simp] theorem State.modTt_draws (s : State) (f : Timetable → Timetable) : (s.modTt f).draws = s.draws := rfl
@[simp] theorem State.modTt_w1Sets (s : State) (f : Timetable → Timetable) : (s.modTt f).w1Sets = s.w1Sets := rfl
@[simp] theorem State.modTt_out (s : State) (f : Timetable → Timetable) : (s.modTt f).out = s.out := rfl

/-! modPan -/

@[simp] theorem State.modPan_pending (s : State) (f : Pantry → Pantry) : (s.modPan f).pending = s.pending := rfl
@[simp] theorem State.modPan_clk (s : State) (f : Pantry → Pantry) : (s.modPan f).clk = s.clk := rfl
@[simp] theorem State.modPan_tim (s : State) (f : Pantry → Pantry) : (s.modPan f).tim = s.tim := rfl
@[simp] theorem State.modPan_cores (s : State) (f : Pantry → Pantry) : (s.modPan f).cores = s.cores := rfl
@[simp] theorem State.modPan_clusters (s : State) (f : Pantry → Pantry) : (s.modPan f).clusters = s.clusters := rfl
@[simp] theorem State.modPan_streams (s : State) (f : Pantry → Pantry) : (s.modPan f).streams = s.streams := rfl
@[simp] theorem State.modPan_hall (s : State) (f : Pantry → Pantry) : (s.modPan f).hall = s.hall := rfl
@[simp] theorem State.modPan_tt (s : State) (f : Pantry → Pantry) : (s.modPan f).tt = s.tt := rfl
@[simp] theorem State.modPan_ports (s : State) (f : Pantry → Pantry) : (s.modPan f).ports = s.ports := rfl
@[simp] theorem State.modPan_pan (s : State) (f : Pantry → Pantry) : (s.modPan f).pan = f s.pan := rfl
@[simp] theorem State.modPan_cel (s : State) (f : Pantry → Pantry) : (s.modPan f).cel = s.cel := rfl
@[simp] theorem State.modPan_hearth (s : State) (f : Pantry → Pantry) : (s.modPan f).hearth = s.hearth := rfl
@[simp] theorem State.modPan_dbg (s : State) (f : Pantry → Pantry) : (s.modPan f).dbg = s.dbg := rfl
@[simp] theorem State.modPan_fuses (s : State) (f : Pantry → Pantry) : (s.modPan f).fuses = s.fuses := rfl
@[simp] theorem State.modPan_pins (s : State) (f : Pantry → Pantry) : (s.modPan f).pins = s.pins := rfl
@[simp] theorem State.modPan_sloe (s : State) (f : Pantry → Pantry) : (s.modPan f).sloe = s.sloe := rfl
@[simp] theorem State.modPan_flash (s : State) (f : Pantry → Pantry) : (s.modPan f).flash = s.flash := rfl
@[simp] theorem State.modPan_jtag (s : State) (f : Pantry → Pantry) : (s.modPan f).jtag = s.jtag := rfl
@[simp] theorem State.modPan_counters (s : State) (f : Pantry → Pantry) : (s.modPan f).counters = s.counters := rfl
@[simp] theorem State.modPan_frozen (s : State) (f : Pantry → Pantry) : (s.modPan f).frozen = s.frozen := rfl
@[simp] theorem State.modPan_draws (s : State) (f : Pantry → Pantry) : (s.modPan f).draws = s.draws := rfl
@[simp] theorem State.modPan_w1Sets (s : State) (f : Pantry → Pantry) : (s.modPan f).w1Sets = s.w1Sets := rfl
@[simp] theorem State.modPan_out (s : State) (f : Pantry → Pantry) : (s.modPan f).out = s.out := rfl

/-! modCel -/

@[simp] theorem State.modCel_pending (s : State) (f : Cellar → Cellar) : (s.modCel f).pending = s.pending := rfl
@[simp] theorem State.modCel_clk (s : State) (f : Cellar → Cellar) : (s.modCel f).clk = s.clk := rfl
@[simp] theorem State.modCel_tim (s : State) (f : Cellar → Cellar) : (s.modCel f).tim = s.tim := rfl
@[simp] theorem State.modCel_cores (s : State) (f : Cellar → Cellar) : (s.modCel f).cores = s.cores := rfl
@[simp] theorem State.modCel_clusters (s : State) (f : Cellar → Cellar) : (s.modCel f).clusters = s.clusters := rfl
@[simp] theorem State.modCel_streams (s : State) (f : Cellar → Cellar) : (s.modCel f).streams = s.streams := rfl
@[simp] theorem State.modCel_hall (s : State) (f : Cellar → Cellar) : (s.modCel f).hall = s.hall := rfl
@[simp] theorem State.modCel_tt (s : State) (f : Cellar → Cellar) : (s.modCel f).tt = s.tt := rfl
@[simp] theorem State.modCel_ports (s : State) (f : Cellar → Cellar) : (s.modCel f).ports = s.ports := rfl
@[simp] theorem State.modCel_pan (s : State) (f : Cellar → Cellar) : (s.modCel f).pan = s.pan := rfl
@[simp] theorem State.modCel_cel (s : State) (f : Cellar → Cellar) : (s.modCel f).cel = f s.cel := rfl
@[simp] theorem State.modCel_hearth (s : State) (f : Cellar → Cellar) : (s.modCel f).hearth = s.hearth := rfl
@[simp] theorem State.modCel_dbg (s : State) (f : Cellar → Cellar) : (s.modCel f).dbg = s.dbg := rfl
@[simp] theorem State.modCel_fuses (s : State) (f : Cellar → Cellar) : (s.modCel f).fuses = s.fuses := rfl
@[simp] theorem State.modCel_pins (s : State) (f : Cellar → Cellar) : (s.modCel f).pins = s.pins := rfl
@[simp] theorem State.modCel_sloe (s : State) (f : Cellar → Cellar) : (s.modCel f).sloe = s.sloe := rfl
@[simp] theorem State.modCel_flash (s : State) (f : Cellar → Cellar) : (s.modCel f).flash = s.flash := rfl
@[simp] theorem State.modCel_jtag (s : State) (f : Cellar → Cellar) : (s.modCel f).jtag = s.jtag := rfl
@[simp] theorem State.modCel_counters (s : State) (f : Cellar → Cellar) : (s.modCel f).counters = s.counters := rfl
@[simp] theorem State.modCel_frozen (s : State) (f : Cellar → Cellar) : (s.modCel f).frozen = s.frozen := rfl
@[simp] theorem State.modCel_draws (s : State) (f : Cellar → Cellar) : (s.modCel f).draws = s.draws := rfl
@[simp] theorem State.modCel_w1Sets (s : State) (f : Cellar → Cellar) : (s.modCel f).w1Sets = s.w1Sets := rfl
@[simp] theorem State.modCel_out (s : State) (f : Cellar → Cellar) : (s.modCel f).out = s.out := rfl

/-! modHearth -/

@[simp] theorem State.modHearth_pending (s : State) (f : Hearth → Hearth) : (s.modHearth f).pending = s.pending := rfl
@[simp] theorem State.modHearth_clk (s : State) (f : Hearth → Hearth) : (s.modHearth f).clk = s.clk := rfl
@[simp] theorem State.modHearth_tim (s : State) (f : Hearth → Hearth) : (s.modHearth f).tim = s.tim := rfl
@[simp] theorem State.modHearth_cores (s : State) (f : Hearth → Hearth) : (s.modHearth f).cores = s.cores := rfl
@[simp] theorem State.modHearth_clusters (s : State) (f : Hearth → Hearth) : (s.modHearth f).clusters = s.clusters := rfl
@[simp] theorem State.modHearth_streams (s : State) (f : Hearth → Hearth) : (s.modHearth f).streams = s.streams := rfl
@[simp] theorem State.modHearth_hall (s : State) (f : Hearth → Hearth) : (s.modHearth f).hall = s.hall := rfl
@[simp] theorem State.modHearth_tt (s : State) (f : Hearth → Hearth) : (s.modHearth f).tt = s.tt := rfl
@[simp] theorem State.modHearth_ports (s : State) (f : Hearth → Hearth) : (s.modHearth f).ports = s.ports := rfl
@[simp] theorem State.modHearth_pan (s : State) (f : Hearth → Hearth) : (s.modHearth f).pan = s.pan := rfl
@[simp] theorem State.modHearth_cel (s : State) (f : Hearth → Hearth) : (s.modHearth f).cel = s.cel := rfl
@[simp] theorem State.modHearth_hearth (s : State) (f : Hearth → Hearth) : (s.modHearth f).hearth = f s.hearth := rfl
@[simp] theorem State.modHearth_dbg (s : State) (f : Hearth → Hearth) : (s.modHearth f).dbg = s.dbg := rfl
@[simp] theorem State.modHearth_fuses (s : State) (f : Hearth → Hearth) : (s.modHearth f).fuses = s.fuses := rfl
@[simp] theorem State.modHearth_pins (s : State) (f : Hearth → Hearth) : (s.modHearth f).pins = s.pins := rfl
@[simp] theorem State.modHearth_sloe (s : State) (f : Hearth → Hearth) : (s.modHearth f).sloe = s.sloe := rfl
@[simp] theorem State.modHearth_flash (s : State) (f : Hearth → Hearth) : (s.modHearth f).flash = s.flash := rfl
@[simp] theorem State.modHearth_jtag (s : State) (f : Hearth → Hearth) : (s.modHearth f).jtag = s.jtag := rfl
@[simp] theorem State.modHearth_counters (s : State) (f : Hearth → Hearth) : (s.modHearth f).counters = s.counters := rfl
@[simp] theorem State.modHearth_frozen (s : State) (f : Hearth → Hearth) : (s.modHearth f).frozen = s.frozen := rfl
@[simp] theorem State.modHearth_draws (s : State) (f : Hearth → Hearth) : (s.modHearth f).draws = s.draws := rfl
@[simp] theorem State.modHearth_w1Sets (s : State) (f : Hearth → Hearth) : (s.modHearth f).w1Sets = s.w1Sets := rfl
@[simp] theorem State.modHearth_out (s : State) (f : Hearth → Hearth) : (s.modHearth f).out = s.out := rfl

/-! modDbg -/

@[simp] theorem State.modDbg_pending (s : State) (f : Dbg → Dbg) : (s.modDbg f).pending = s.pending := rfl
@[simp] theorem State.modDbg_clk (s : State) (f : Dbg → Dbg) : (s.modDbg f).clk = s.clk := rfl
@[simp] theorem State.modDbg_tim (s : State) (f : Dbg → Dbg) : (s.modDbg f).tim = s.tim := rfl
@[simp] theorem State.modDbg_cores (s : State) (f : Dbg → Dbg) : (s.modDbg f).cores = s.cores := rfl
@[simp] theorem State.modDbg_clusters (s : State) (f : Dbg → Dbg) : (s.modDbg f).clusters = s.clusters := rfl
@[simp] theorem State.modDbg_streams (s : State) (f : Dbg → Dbg) : (s.modDbg f).streams = s.streams := rfl
@[simp] theorem State.modDbg_hall (s : State) (f : Dbg → Dbg) : (s.modDbg f).hall = s.hall := rfl
@[simp] theorem State.modDbg_tt (s : State) (f : Dbg → Dbg) : (s.modDbg f).tt = s.tt := rfl
@[simp] theorem State.modDbg_ports (s : State) (f : Dbg → Dbg) : (s.modDbg f).ports = s.ports := rfl
@[simp] theorem State.modDbg_pan (s : State) (f : Dbg → Dbg) : (s.modDbg f).pan = s.pan := rfl
@[simp] theorem State.modDbg_cel (s : State) (f : Dbg → Dbg) : (s.modDbg f).cel = s.cel := rfl
@[simp] theorem State.modDbg_hearth (s : State) (f : Dbg → Dbg) : (s.modDbg f).hearth = s.hearth := rfl
@[simp] theorem State.modDbg_dbg (s : State) (f : Dbg → Dbg) : (s.modDbg f).dbg = f s.dbg := rfl
@[simp] theorem State.modDbg_fuses (s : State) (f : Dbg → Dbg) : (s.modDbg f).fuses = s.fuses := rfl
@[simp] theorem State.modDbg_pins (s : State) (f : Dbg → Dbg) : (s.modDbg f).pins = s.pins := rfl
@[simp] theorem State.modDbg_sloe (s : State) (f : Dbg → Dbg) : (s.modDbg f).sloe = s.sloe := rfl
@[simp] theorem State.modDbg_flash (s : State) (f : Dbg → Dbg) : (s.modDbg f).flash = s.flash := rfl
@[simp] theorem State.modDbg_jtag (s : State) (f : Dbg → Dbg) : (s.modDbg f).jtag = s.jtag := rfl
@[simp] theorem State.modDbg_counters (s : State) (f : Dbg → Dbg) : (s.modDbg f).counters = s.counters := rfl
@[simp] theorem State.modDbg_frozen (s : State) (f : Dbg → Dbg) : (s.modDbg f).frozen = s.frozen := rfl
@[simp] theorem State.modDbg_draws (s : State) (f : Dbg → Dbg) : (s.modDbg f).draws = s.draws := rfl
@[simp] theorem State.modDbg_w1Sets (s : State) (f : Dbg → Dbg) : (s.modDbg f).w1Sets = s.w1Sets := rfl
@[simp] theorem State.modDbg_out (s : State) (f : Dbg → Dbg) : (s.modDbg f).out = s.out := rfl

/-! modSloe -/

@[simp] theorem State.modSloe_pending (s : State) (f : Sloe → Sloe) : (s.modSloe f).pending = s.pending := rfl
@[simp] theorem State.modSloe_clk (s : State) (f : Sloe → Sloe) : (s.modSloe f).clk = s.clk := rfl
@[simp] theorem State.modSloe_tim (s : State) (f : Sloe → Sloe) : (s.modSloe f).tim = s.tim := rfl
@[simp] theorem State.modSloe_cores (s : State) (f : Sloe → Sloe) : (s.modSloe f).cores = s.cores := rfl
@[simp] theorem State.modSloe_clusters (s : State) (f : Sloe → Sloe) : (s.modSloe f).clusters = s.clusters := rfl
@[simp] theorem State.modSloe_streams (s : State) (f : Sloe → Sloe) : (s.modSloe f).streams = s.streams := rfl
@[simp] theorem State.modSloe_hall (s : State) (f : Sloe → Sloe) : (s.modSloe f).hall = s.hall := rfl
@[simp] theorem State.modSloe_tt (s : State) (f : Sloe → Sloe) : (s.modSloe f).tt = s.tt := rfl
@[simp] theorem State.modSloe_ports (s : State) (f : Sloe → Sloe) : (s.modSloe f).ports = s.ports := rfl
@[simp] theorem State.modSloe_pan (s : State) (f : Sloe → Sloe) : (s.modSloe f).pan = s.pan := rfl
@[simp] theorem State.modSloe_cel (s : State) (f : Sloe → Sloe) : (s.modSloe f).cel = s.cel := rfl
@[simp] theorem State.modSloe_hearth (s : State) (f : Sloe → Sloe) : (s.modSloe f).hearth = s.hearth := rfl
@[simp] theorem State.modSloe_dbg (s : State) (f : Sloe → Sloe) : (s.modSloe f).dbg = s.dbg := rfl
@[simp] theorem State.modSloe_fuses (s : State) (f : Sloe → Sloe) : (s.modSloe f).fuses = s.fuses := rfl
@[simp] theorem State.modSloe_pins (s : State) (f : Sloe → Sloe) : (s.modSloe f).pins = s.pins := rfl
@[simp] theorem State.modSloe_sloe (s : State) (f : Sloe → Sloe) : (s.modSloe f).sloe = f s.sloe := rfl
@[simp] theorem State.modSloe_flash (s : State) (f : Sloe → Sloe) : (s.modSloe f).flash = s.flash := rfl
@[simp] theorem State.modSloe_jtag (s : State) (f : Sloe → Sloe) : (s.modSloe f).jtag = s.jtag := rfl
@[simp] theorem State.modSloe_counters (s : State) (f : Sloe → Sloe) : (s.modSloe f).counters = s.counters := rfl
@[simp] theorem State.modSloe_frozen (s : State) (f : Sloe → Sloe) : (s.modSloe f).frozen = s.frozen := rfl
@[simp] theorem State.modSloe_draws (s : State) (f : Sloe → Sloe) : (s.modSloe f).draws = s.draws := rfl
@[simp] theorem State.modSloe_w1Sets (s : State) (f : Sloe → Sloe) : (s.modSloe f).w1Sets = s.w1Sets := rfl
@[simp] theorem State.modSloe_out (s : State) (f : Sloe → Sloe) : (s.modSloe f).out = s.out := rfl

/-! modFlash -/

@[simp] theorem State.modFlash_pending (s : State) (f : Flash → Flash) : (s.modFlash f).pending = s.pending := rfl
@[simp] theorem State.modFlash_clk (s : State) (f : Flash → Flash) : (s.modFlash f).clk = s.clk := rfl
@[simp] theorem State.modFlash_tim (s : State) (f : Flash → Flash) : (s.modFlash f).tim = s.tim := rfl
@[simp] theorem State.modFlash_cores (s : State) (f : Flash → Flash) : (s.modFlash f).cores = s.cores := rfl
@[simp] theorem State.modFlash_clusters (s : State) (f : Flash → Flash) : (s.modFlash f).clusters = s.clusters := rfl
@[simp] theorem State.modFlash_streams (s : State) (f : Flash → Flash) : (s.modFlash f).streams = s.streams := rfl
@[simp] theorem State.modFlash_hall (s : State) (f : Flash → Flash) : (s.modFlash f).hall = s.hall := rfl
@[simp] theorem State.modFlash_tt (s : State) (f : Flash → Flash) : (s.modFlash f).tt = s.tt := rfl
@[simp] theorem State.modFlash_ports (s : State) (f : Flash → Flash) : (s.modFlash f).ports = s.ports := rfl
@[simp] theorem State.modFlash_pan (s : State) (f : Flash → Flash) : (s.modFlash f).pan = s.pan := rfl
@[simp] theorem State.modFlash_cel (s : State) (f : Flash → Flash) : (s.modFlash f).cel = s.cel := rfl
@[simp] theorem State.modFlash_hearth (s : State) (f : Flash → Flash) : (s.modFlash f).hearth = s.hearth := rfl
@[simp] theorem State.modFlash_dbg (s : State) (f : Flash → Flash) : (s.modFlash f).dbg = s.dbg := rfl
@[simp] theorem State.modFlash_fuses (s : State) (f : Flash → Flash) : (s.modFlash f).fuses = s.fuses := rfl
@[simp] theorem State.modFlash_pins (s : State) (f : Flash → Flash) : (s.modFlash f).pins = s.pins := rfl
@[simp] theorem State.modFlash_sloe (s : State) (f : Flash → Flash) : (s.modFlash f).sloe = s.sloe := rfl
@[simp] theorem State.modFlash_flash (s : State) (f : Flash → Flash) : (s.modFlash f).flash = f s.flash := rfl
@[simp] theorem State.modFlash_jtag (s : State) (f : Flash → Flash) : (s.modFlash f).jtag = s.jtag := rfl
@[simp] theorem State.modFlash_counters (s : State) (f : Flash → Flash) : (s.modFlash f).counters = s.counters := rfl
@[simp] theorem State.modFlash_frozen (s : State) (f : Flash → Flash) : (s.modFlash f).frozen = s.frozen := rfl
@[simp] theorem State.modFlash_draws (s : State) (f : Flash → Flash) : (s.modFlash f).draws = s.draws := rfl
@[simp] theorem State.modFlash_w1Sets (s : State) (f : Flash → Flash) : (s.modFlash f).w1Sets = s.w1Sets := rfl
@[simp] theorem State.modFlash_out (s : State) (f : Flash → Flash) : (s.modFlash f).out = s.out := rfl

/-! modPins -/

@[simp] theorem State.modPins_pending (s : State) (f : Pins → Pins) : (s.modPins f).pending = s.pending := rfl
@[simp] theorem State.modPins_clk (s : State) (f : Pins → Pins) : (s.modPins f).clk = s.clk := rfl
@[simp] theorem State.modPins_tim (s : State) (f : Pins → Pins) : (s.modPins f).tim = s.tim := rfl
@[simp] theorem State.modPins_cores (s : State) (f : Pins → Pins) : (s.modPins f).cores = s.cores := rfl
@[simp] theorem State.modPins_clusters (s : State) (f : Pins → Pins) : (s.modPins f).clusters = s.clusters := rfl
@[simp] theorem State.modPins_streams (s : State) (f : Pins → Pins) : (s.modPins f).streams = s.streams := rfl
@[simp] theorem State.modPins_hall (s : State) (f : Pins → Pins) : (s.modPins f).hall = s.hall := rfl
@[simp] theorem State.modPins_tt (s : State) (f : Pins → Pins) : (s.modPins f).tt = s.tt := rfl
@[simp] theorem State.modPins_ports (s : State) (f : Pins → Pins) : (s.modPins f).ports = s.ports := rfl
@[simp] theorem State.modPins_pan (s : State) (f : Pins → Pins) : (s.modPins f).pan = s.pan := rfl
@[simp] theorem State.modPins_cel (s : State) (f : Pins → Pins) : (s.modPins f).cel = s.cel := rfl
@[simp] theorem State.modPins_hearth (s : State) (f : Pins → Pins) : (s.modPins f).hearth = s.hearth := rfl
@[simp] theorem State.modPins_dbg (s : State) (f : Pins → Pins) : (s.modPins f).dbg = s.dbg := rfl
@[simp] theorem State.modPins_fuses (s : State) (f : Pins → Pins) : (s.modPins f).fuses = s.fuses := rfl
@[simp] theorem State.modPins_pins (s : State) (f : Pins → Pins) : (s.modPins f).pins = f s.pins := rfl
@[simp] theorem State.modPins_sloe (s : State) (f : Pins → Pins) : (s.modPins f).sloe = s.sloe := rfl
@[simp] theorem State.modPins_flash (s : State) (f : Pins → Pins) : (s.modPins f).flash = s.flash := rfl
@[simp] theorem State.modPins_jtag (s : State) (f : Pins → Pins) : (s.modPins f).jtag = s.jtag := rfl
@[simp] theorem State.modPins_counters (s : State) (f : Pins → Pins) : (s.modPins f).counters = s.counters := rfl
@[simp] theorem State.modPins_frozen (s : State) (f : Pins → Pins) : (s.modPins f).frozen = s.frozen := rfl
@[simp] theorem State.modPins_draws (s : State) (f : Pins → Pins) : (s.modPins f).draws = s.draws := rfl
@[simp] theorem State.modPins_w1Sets (s : State) (f : Pins → Pins) : (s.modPins f).w1Sets = s.w1Sets := rfl
@[simp] theorem State.modPins_out (s : State) (f : Pins → Pins) : (s.modPins f).out = s.out := rfl

/-! modJtag -/

@[simp] theorem State.modJtag_pending (s : State) (f : Jtag → Jtag) : (s.modJtag f).pending = s.pending := rfl
@[simp] theorem State.modJtag_clk (s : State) (f : Jtag → Jtag) : (s.modJtag f).clk = s.clk := rfl
@[simp] theorem State.modJtag_tim (s : State) (f : Jtag → Jtag) : (s.modJtag f).tim = s.tim := rfl
@[simp] theorem State.modJtag_cores (s : State) (f : Jtag → Jtag) : (s.modJtag f).cores = s.cores := rfl
@[simp] theorem State.modJtag_clusters (s : State) (f : Jtag → Jtag) : (s.modJtag f).clusters = s.clusters := rfl
@[simp] theorem State.modJtag_streams (s : State) (f : Jtag → Jtag) : (s.modJtag f).streams = s.streams := rfl
@[simp] theorem State.modJtag_hall (s : State) (f : Jtag → Jtag) : (s.modJtag f).hall = s.hall := rfl
@[simp] theorem State.modJtag_tt (s : State) (f : Jtag → Jtag) : (s.modJtag f).tt = s.tt := rfl
@[simp] theorem State.modJtag_ports (s : State) (f : Jtag → Jtag) : (s.modJtag f).ports = s.ports := rfl
@[simp] theorem State.modJtag_pan (s : State) (f : Jtag → Jtag) : (s.modJtag f).pan = s.pan := rfl
@[simp] theorem State.modJtag_cel (s : State) (f : Jtag → Jtag) : (s.modJtag f).cel = s.cel := rfl
@[simp] theorem State.modJtag_hearth (s : State) (f : Jtag → Jtag) : (s.modJtag f).hearth = s.hearth := rfl
@[simp] theorem State.modJtag_dbg (s : State) (f : Jtag → Jtag) : (s.modJtag f).dbg = s.dbg := rfl
@[simp] theorem State.modJtag_fuses (s : State) (f : Jtag → Jtag) : (s.modJtag f).fuses = s.fuses := rfl
@[simp] theorem State.modJtag_pins (s : State) (f : Jtag → Jtag) : (s.modJtag f).pins = s.pins := rfl
@[simp] theorem State.modJtag_sloe (s : State) (f : Jtag → Jtag) : (s.modJtag f).sloe = s.sloe := rfl
@[simp] theorem State.modJtag_flash (s : State) (f : Jtag → Jtag) : (s.modJtag f).flash = s.flash := rfl
@[simp] theorem State.modJtag_jtag (s : State) (f : Jtag → Jtag) : (s.modJtag f).jtag = f s.jtag := rfl
@[simp] theorem State.modJtag_counters (s : State) (f : Jtag → Jtag) : (s.modJtag f).counters = s.counters := rfl
@[simp] theorem State.modJtag_frozen (s : State) (f : Jtag → Jtag) : (s.modJtag f).frozen = s.frozen := rfl
@[simp] theorem State.modJtag_draws (s : State) (f : Jtag → Jtag) : (s.modJtag f).draws = s.draws := rfl
@[simp] theorem State.modJtag_w1Sets (s : State) (f : Jtag → Jtag) : (s.modJtag f).w1Sets = s.w1Sets := rfl
@[simp] theorem State.modJtag_out (s : State) (f : Jtag → Jtag) : (s.modJtag f).out = s.out := rfl

/-! modCore -/

@[simp] theorem State.modCore_pending (s : State) (c : CoreRef) (f : Core → Core) : (s.modCore c f).pending = s.pending := rfl
@[simp] theorem State.modCore_clk (s : State) (c : CoreRef) (f : Core → Core) : (s.modCore c f).clk = s.clk := rfl
@[simp] theorem State.modCore_tim (s : State) (c : CoreRef) (f : Core → Core) : (s.modCore c f).tim = s.tim := rfl
@[simp] theorem State.modCore_clusters (s : State) (c : CoreRef) (f : Core → Core) : (s.modCore c f).clusters = s.clusters := rfl
@[simp] theorem State.modCore_streams (s : State) (c : CoreRef) (f : Core → Core) : (s.modCore c f).streams = s.streams := rfl
@[simp] theorem State.modCore_hall (s : State) (c : CoreRef) (f : Core → Core) : (s.modCore c f).hall = s.hall := rfl
@[simp] theorem State.modCore_tt (s : State) (c : CoreRef) (f : Core → Core) : (s.modCore c f).tt = s.tt := rfl
@[simp] theorem State.modCore_ports (s : State) (c : CoreRef) (f : Core → Core) : (s.modCore c f).ports = s.ports := rfl
@[simp] theorem State.modCore_pan (s : State) (c : CoreRef) (f : Core → Core) : (s.modCore c f).pan = s.pan := rfl
@[simp] theorem State.modCore_cel (s : State) (c : CoreRef) (f : Core → Core) : (s.modCore c f).cel = s.cel := rfl
@[simp] theorem State.modCore_hearth (s : State) (c : CoreRef) (f : Core → Core) : (s.modCore c f).hearth = s.hearth := rfl
@[simp] theorem State.modCore_dbg (s : State) (c : CoreRef) (f : Core → Core) : (s.modCore c f).dbg = s.dbg := rfl
@[simp] theorem State.modCore_fuses (s : State) (c : CoreRef) (f : Core → Core) : (s.modCore c f).fuses = s.fuses := rfl
@[simp] theorem State.modCore_pins (s : State) (c : CoreRef) (f : Core → Core) : (s.modCore c f).pins = s.pins := rfl
@[simp] theorem State.modCore_sloe (s : State) (c : CoreRef) (f : Core → Core) : (s.modCore c f).sloe = s.sloe := rfl
@[simp] theorem State.modCore_flash (s : State) (c : CoreRef) (f : Core → Core) : (s.modCore c f).flash = s.flash := rfl
@[simp] theorem State.modCore_jtag (s : State) (c : CoreRef) (f : Core → Core) : (s.modCore c f).jtag = s.jtag := rfl
@[simp] theorem State.modCore_counters (s : State) (c : CoreRef) (f : Core → Core) : (s.modCore c f).counters = s.counters := rfl
@[simp] theorem State.modCore_frozen (s : State) (c : CoreRef) (f : Core → Core) : (s.modCore c f).frozen = s.frozen := rfl
@[simp] theorem State.modCore_draws (s : State) (c : CoreRef) (f : Core → Core) : (s.modCore c f).draws = s.draws := rfl
@[simp] theorem State.modCore_w1Sets (s : State) (c : CoreRef) (f : Core → Core) : (s.modCore c f).w1Sets = s.w1Sets := rfl
@[simp] theorem State.modCore_out (s : State) (c : CoreRef) (f : Core → Core) : (s.modCore c f).out = s.out := rfl

/-! modCoreN -/

@[simp] theorem State.modCoreN_pending (s : State) (n : Nat) (f : Core → Core) : (s.modCoreN n f).pending = s.pending := rfl
@[simp] theorem State.modCoreN_clk (s : State) (n : Nat) (f : Core → Core) : (s.modCoreN n f).clk = s.clk := rfl
@[simp] theorem State.modCoreN_tim (s : State) (n : Nat) (f : Core → Core) : (s.modCoreN n f).tim = s.tim := rfl
@[simp] theorem State.modCoreN_clusters (s : State) (n : Nat) (f : Core → Core) : (s.modCoreN n f).clusters = s.clusters := rfl
@[simp] theorem State.modCoreN_streams (s : State) (n : Nat) (f : Core → Core) : (s.modCoreN n f).streams = s.streams := rfl
@[simp] theorem State.modCoreN_hall (s : State) (n : Nat) (f : Core → Core) : (s.modCoreN n f).hall = s.hall := rfl
@[simp] theorem State.modCoreN_tt (s : State) (n : Nat) (f : Core → Core) : (s.modCoreN n f).tt = s.tt := rfl
@[simp] theorem State.modCoreN_ports (s : State) (n : Nat) (f : Core → Core) : (s.modCoreN n f).ports = s.ports := rfl
@[simp] theorem State.modCoreN_pan (s : State) (n : Nat) (f : Core → Core) : (s.modCoreN n f).pan = s.pan := rfl
@[simp] theorem State.modCoreN_cel (s : State) (n : Nat) (f : Core → Core) : (s.modCoreN n f).cel = s.cel := rfl
@[simp] theorem State.modCoreN_hearth (s : State) (n : Nat) (f : Core → Core) : (s.modCoreN n f).hearth = s.hearth := rfl
@[simp] theorem State.modCoreN_dbg (s : State) (n : Nat) (f : Core → Core) : (s.modCoreN n f).dbg = s.dbg := rfl
@[simp] theorem State.modCoreN_fuses (s : State) (n : Nat) (f : Core → Core) : (s.modCoreN n f).fuses = s.fuses := rfl
@[simp] theorem State.modCoreN_pins (s : State) (n : Nat) (f : Core → Core) : (s.modCoreN n f).pins = s.pins := rfl
@[simp] theorem State.modCoreN_sloe (s : State) (n : Nat) (f : Core → Core) : (s.modCoreN n f).sloe = s.sloe := rfl
@[simp] theorem State.modCoreN_flash (s : State) (n : Nat) (f : Core → Core) : (s.modCoreN n f).flash = s.flash := rfl
@[simp] theorem State.modCoreN_jtag (s : State) (n : Nat) (f : Core → Core) : (s.modCoreN n f).jtag = s.jtag := rfl
@[simp] theorem State.modCoreN_counters (s : State) (n : Nat) (f : Core → Core) : (s.modCoreN n f).counters = s.counters := rfl
@[simp] theorem State.modCoreN_frozen (s : State) (n : Nat) (f : Core → Core) : (s.modCoreN n f).frozen = s.frozen := rfl
@[simp] theorem State.modCoreN_draws (s : State) (n : Nat) (f : Core → Core) : (s.modCoreN n f).draws = s.draws := rfl
@[simp] theorem State.modCoreN_w1Sets (s : State) (n : Nat) (f : Core → Core) : (s.modCoreN n f).w1Sets = s.w1Sets := rfl
@[simp] theorem State.modCoreN_out (s : State) (n : Nat) (f : Core → Core) : (s.modCoreN n f).out = s.out := rfl

/-! modCluster -/

@[simp] theorem State.modCluster_pending (s : State) (k : Nat) (f : Cluster → Cluster) : (s.modCluster k f).pending = s.pending := rfl
@[simp] theorem State.modCluster_clk (s : State) (k : Nat) (f : Cluster → Cluster) : (s.modCluster k f).clk = s.clk := rfl
@[simp] theorem State.modCluster_tim (s : State) (k : Nat) (f : Cluster → Cluster) : (s.modCluster k f).tim = s.tim := rfl
@[simp] theorem State.modCluster_cores (s : State) (k : Nat) (f : Cluster → Cluster) : (s.modCluster k f).cores = s.cores := rfl
@[simp] theorem State.modCluster_streams (s : State) (k : Nat) (f : Cluster → Cluster) : (s.modCluster k f).streams = s.streams := rfl
@[simp] theorem State.modCluster_hall (s : State) (k : Nat) (f : Cluster → Cluster) : (s.modCluster k f).hall = s.hall := rfl
@[simp] theorem State.modCluster_tt (s : State) (k : Nat) (f : Cluster → Cluster) : (s.modCluster k f).tt = s.tt := rfl
@[simp] theorem State.modCluster_ports (s : State) (k : Nat) (f : Cluster → Cluster) : (s.modCluster k f).ports = s.ports := rfl
@[simp] theorem State.modCluster_pan (s : State) (k : Nat) (f : Cluster → Cluster) : (s.modCluster k f).pan = s.pan := rfl
@[simp] theorem State.modCluster_cel (s : State) (k : Nat) (f : Cluster → Cluster) : (s.modCluster k f).cel = s.cel := rfl
@[simp] theorem State.modCluster_hearth (s : State) (k : Nat) (f : Cluster → Cluster) : (s.modCluster k f).hearth = s.hearth := rfl
@[simp] theorem State.modCluster_dbg (s : State) (k : Nat) (f : Cluster → Cluster) : (s.modCluster k f).dbg = s.dbg := rfl
@[simp] theorem State.modCluster_fuses (s : State) (k : Nat) (f : Cluster → Cluster) : (s.modCluster k f).fuses = s.fuses := rfl
@[simp] theorem State.modCluster_pins (s : State) (k : Nat) (f : Cluster → Cluster) : (s.modCluster k f).pins = s.pins := rfl
@[simp] theorem State.modCluster_sloe (s : State) (k : Nat) (f : Cluster → Cluster) : (s.modCluster k f).sloe = s.sloe := rfl
@[simp] theorem State.modCluster_flash (s : State) (k : Nat) (f : Cluster → Cluster) : (s.modCluster k f).flash = s.flash := rfl
@[simp] theorem State.modCluster_jtag (s : State) (k : Nat) (f : Cluster → Cluster) : (s.modCluster k f).jtag = s.jtag := rfl
@[simp] theorem State.modCluster_counters (s : State) (k : Nat) (f : Cluster → Cluster) : (s.modCluster k f).counters = s.counters := rfl
@[simp] theorem State.modCluster_frozen (s : State) (k : Nat) (f : Cluster → Cluster) : (s.modCluster k f).frozen = s.frozen := rfl
@[simp] theorem State.modCluster_draws (s : State) (k : Nat) (f : Cluster → Cluster) : (s.modCluster k f).draws = s.draws := rfl
@[simp] theorem State.modCluster_w1Sets (s : State) (k : Nat) (f : Cluster → Cluster) : (s.modCluster k f).w1Sets = s.w1Sets := rfl
@[simp] theorem State.modCluster_out (s : State) (k : Nat) (f : Cluster → Cluster) : (s.modCluster k f).out = s.out := rfl

/-! modPort -/

@[simp] theorem State.modPort_pending (s : State) (p : Nat) (f : Port → Port) : (s.modPort p f).pending = s.pending := rfl
@[simp] theorem State.modPort_clk (s : State) (p : Nat) (f : Port → Port) : (s.modPort p f).clk = s.clk := rfl
@[simp] theorem State.modPort_tim (s : State) (p : Nat) (f : Port → Port) : (s.modPort p f).tim = s.tim := rfl
@[simp] theorem State.modPort_cores (s : State) (p : Nat) (f : Port → Port) : (s.modPort p f).cores = s.cores := rfl
@[simp] theorem State.modPort_clusters (s : State) (p : Nat) (f : Port → Port) : (s.modPort p f).clusters = s.clusters := rfl
@[simp] theorem State.modPort_streams (s : State) (p : Nat) (f : Port → Port) : (s.modPort p f).streams = s.streams := rfl
@[simp] theorem State.modPort_hall (s : State) (p : Nat) (f : Port → Port) : (s.modPort p f).hall = s.hall := rfl
@[simp] theorem State.modPort_tt (s : State) (p : Nat) (f : Port → Port) : (s.modPort p f).tt = s.tt := rfl
@[simp] theorem State.modPort_pan (s : State) (p : Nat) (f : Port → Port) : (s.modPort p f).pan = s.pan := rfl
@[simp] theorem State.modPort_cel (s : State) (p : Nat) (f : Port → Port) : (s.modPort p f).cel = s.cel := rfl
@[simp] theorem State.modPort_hearth (s : State) (p : Nat) (f : Port → Port) : (s.modPort p f).hearth = s.hearth := rfl
@[simp] theorem State.modPort_dbg (s : State) (p : Nat) (f : Port → Port) : (s.modPort p f).dbg = s.dbg := rfl
@[simp] theorem State.modPort_fuses (s : State) (p : Nat) (f : Port → Port) : (s.modPort p f).fuses = s.fuses := rfl
@[simp] theorem State.modPort_pins (s : State) (p : Nat) (f : Port → Port) : (s.modPort p f).pins = s.pins := rfl
@[simp] theorem State.modPort_sloe (s : State) (p : Nat) (f : Port → Port) : (s.modPort p f).sloe = s.sloe := rfl
@[simp] theorem State.modPort_flash (s : State) (p : Nat) (f : Port → Port) : (s.modPort p f).flash = s.flash := rfl
@[simp] theorem State.modPort_jtag (s : State) (p : Nat) (f : Port → Port) : (s.modPort p f).jtag = s.jtag := rfl
@[simp] theorem State.modPort_counters (s : State) (p : Nat) (f : Port → Port) : (s.modPort p f).counters = s.counters := rfl
@[simp] theorem State.modPort_frozen (s : State) (p : Nat) (f : Port → Port) : (s.modPort p f).frozen = s.frozen := rfl
@[simp] theorem State.modPort_draws (s : State) (p : Nat) (f : Port → Port) : (s.modPort p f).draws = s.draws := rfl
@[simp] theorem State.modPort_w1Sets (s : State) (p : Nat) (f : Port → Port) : (s.modPort p f).w1Sets = s.w1Sets := rfl
@[simp] theorem State.modPort_out (s : State) (p : Nat) (f : Port → Port) : (s.modPort p f).out = s.out := rfl

/-! emit, bump -/

@[simp] theorem State.emit_pending (s : State) (o : Out) : (s.emit o).pending = s.pending := rfl
@[simp] theorem State.emit_clk (s : State) (o : Out) : (s.emit o).clk = s.clk := rfl
@[simp] theorem State.emit_tim (s : State) (o : Out) : (s.emit o).tim = s.tim := rfl
@[simp] theorem State.emit_cores (s : State) (o : Out) : (s.emit o).cores = s.cores := rfl
@[simp] theorem State.emit_clusters (s : State) (o : Out) : (s.emit o).clusters = s.clusters := rfl
@[simp] theorem State.emit_streams (s : State) (o : Out) : (s.emit o).streams = s.streams := rfl
@[simp] theorem State.emit_hall (s : State) (o : Out) : (s.emit o).hall = s.hall := rfl
@[simp] theorem State.emit_tt (s : State) (o : Out) : (s.emit o).tt = s.tt := rfl
@[simp] theorem State.emit_ports (s : State) (o : Out) : (s.emit o).ports = s.ports := rfl
@[simp] theorem State.emit_pan (s : State) (o : Out) : (s.emit o).pan = s.pan := rfl
@[simp] theorem State.emit_cel (s : State) (o : Out) : (s.emit o).cel = s.cel := rfl
@[simp] theorem State.emit_hearth (s : State) (o : Out) : (s.emit o).hearth = s.hearth := rfl
@[simp] theorem State.emit_dbg (s : State) (o : Out) : (s.emit o).dbg = s.dbg := rfl
@[simp] theorem State.emit_fuses (s : State) (o : Out) : (s.emit o).fuses = s.fuses := rfl
@[simp] theorem State.emit_pins (s : State) (o : Out) : (s.emit o).pins = s.pins := rfl
@[simp] theorem State.emit_sloe (s : State) (o : Out) : (s.emit o).sloe = s.sloe := rfl
@[simp] theorem State.emit_flash (s : State) (o : Out) : (s.emit o).flash = s.flash := rfl
@[simp] theorem State.emit_jtag (s : State) (o : Out) : (s.emit o).jtag = s.jtag := rfl
@[simp] theorem State.emit_counters (s : State) (o : Out) : (s.emit o).counters = s.counters := rfl
@[simp] theorem State.emit_frozen (s : State) (o : Out) : (s.emit o).frozen = s.frozen := rfl
@[simp] theorem State.emit_draws (s : State) (o : Out) : (s.emit o).draws = s.draws := rfl
@[simp] theorem State.emit_w1Sets (s : State) (o : Out) : (s.emit o).w1Sets = s.w1Sets := rfl
@[simp] theorem State.emit_out (s : State) (o : Out) : (s.emit o).out = s.out ++ [o] := rfl
@[simp] theorem State.bump_pending (s : State) (sp off n : Nat) : (s.bump sp off n).pending = s.pending := rfl
@[simp] theorem State.bump_clk (s : State) (sp off n : Nat) : (s.bump sp off n).clk = s.clk := rfl
@[simp] theorem State.bump_tim (s : State) (sp off n : Nat) : (s.bump sp off n).tim = s.tim := rfl
@[simp] theorem State.bump_cores (s : State) (sp off n : Nat) : (s.bump sp off n).cores = s.cores := rfl
@[simp] theorem State.bump_clusters (s : State) (sp off n : Nat) : (s.bump sp off n).clusters = s.clusters := rfl
@[simp] theorem State.bump_streams (s : State) (sp off n : Nat) : (s.bump sp off n).streams = s.streams := rfl
@[simp] theorem State.bump_hall (s : State) (sp off n : Nat) : (s.bump sp off n).hall = s.hall := rfl
@[simp] theorem State.bump_tt (s : State) (sp off n : Nat) : (s.bump sp off n).tt = s.tt := rfl
@[simp] theorem State.bump_ports (s : State) (sp off n : Nat) : (s.bump sp off n).ports = s.ports := rfl
@[simp] theorem State.bump_pan (s : State) (sp off n : Nat) : (s.bump sp off n).pan = s.pan := rfl
@[simp] theorem State.bump_cel (s : State) (sp off n : Nat) : (s.bump sp off n).cel = s.cel := rfl
@[simp] theorem State.bump_hearth (s : State) (sp off n : Nat) : (s.bump sp off n).hearth = s.hearth := rfl
@[simp] theorem State.bump_dbg (s : State) (sp off n : Nat) : (s.bump sp off n).dbg = s.dbg := rfl
@[simp] theorem State.bump_fuses (s : State) (sp off n : Nat) : (s.bump sp off n).fuses = s.fuses := rfl
@[simp] theorem State.bump_pins (s : State) (sp off n : Nat) : (s.bump sp off n).pins = s.pins := rfl
@[simp] theorem State.bump_sloe (s : State) (sp off n : Nat) : (s.bump sp off n).sloe = s.sloe := rfl
@[simp] theorem State.bump_flash (s : State) (sp off n : Nat) : (s.bump sp off n).flash = s.flash := rfl
@[simp] theorem State.bump_jtag (s : State) (sp off n : Nat) : (s.bump sp off n).jtag = s.jtag := rfl
@[simp] theorem State.bump_frozen (s : State) (sp off n : Nat) : (s.bump sp off n).frozen = s.frozen := rfl
@[simp] theorem State.bump_draws (s : State) (sp off n : Nat) : (s.bump sp off n).draws = s.draws := rfl
@[simp] theorem State.bump_w1Sets (s : State) (sp off n : Nat) : (s.bump sp off n).w1Sets = s.w1Sets := rfl
@[simp] theorem State.bump_out (s : State) (sp off n : Nat) : (s.bump sp off n).out = s.out := rfl
@[simp] theorem State.bumpCore_pending (s : State) (c off n : Nat) : (s.bumpCore c off n).pending = s.pending := rfl
@[simp] theorem State.bumpCore_clk (s : State) (c off n : Nat) : (s.bumpCore c off n).clk = s.clk := rfl
@[simp] theorem State.bumpCore_tim (s : State) (c off n : Nat) : (s.bumpCore c off n).tim = s.tim := rfl
@[simp] theorem State.bumpCore_cores (s : State) (c off n : Nat) : (s.bumpCore c off n).cores = s.cores := rfl
@[simp] theorem State.bumpCore_clusters (s : State) (c off n : Nat) : (s.bumpCore c off n).clusters = s.clusters := rfl
@[simp] theorem State.bumpCore_streams (s : State) (c off n : Nat) : (s.bumpCore c off n).streams = s.streams := rfl
@[simp] theorem State.bumpCore_hall (s : State) (c off n : Nat) : (s.bumpCore c off n).hall = s.hall := rfl
@[simp] theorem State.bumpCore_tt (s : State) (c off n : Nat) : (s.bumpCore c off n).tt = s.tt := rfl
@[simp] theorem State.bumpCore_ports (s : State) (c off n : Nat) : (s.bumpCore c off n).ports = s.ports := rfl
@[simp] theorem State.bumpCore_pan (s : State) (c off n : Nat) : (s.bumpCore c off n).pan = s.pan := rfl
@[simp] theorem State.bumpCore_cel (s : State) (c off n : Nat) : (s.bumpCore c off n).cel = s.cel := rfl
@[simp] theorem State.bumpCore_hearth (s : State) (c off n : Nat) : (s.bumpCore c off n).hearth = s.hearth := rfl
@[simp] theorem State.bumpCore_dbg (s : State) (c off n : Nat) : (s.bumpCore c off n).dbg = s.dbg := rfl
@[simp] theorem State.bumpCore_fuses (s : State) (c off n : Nat) : (s.bumpCore c off n).fuses = s.fuses := rfl
@[simp] theorem State.bumpCore_pins (s : State) (c off n : Nat) : (s.bumpCore c off n).pins = s.pins := rfl
@[simp] theorem State.bumpCore_sloe (s : State) (c off n : Nat) : (s.bumpCore c off n).sloe = s.sloe := rfl
@[simp] theorem State.bumpCore_flash (s : State) (c off n : Nat) : (s.bumpCore c off n).flash = s.flash := rfl
@[simp] theorem State.bumpCore_jtag (s : State) (c off n : Nat) : (s.bumpCore c off n).jtag = s.jtag := rfl
@[simp] theorem State.bumpCore_frozen (s : State) (c off n : Nat) : (s.bumpCore c off n).frozen = s.frozen := rfl
@[simp] theorem State.bumpCore_draws (s : State) (c off n : Nat) : (s.bumpCore c off n).draws = s.draws := rfl
@[simp] theorem State.bumpCore_w1Sets (s : State) (c off n : Nat) : (s.bumpCore c off n).w1Sets = s.w1Sets := rfl
@[simp] theorem State.bumpCore_out (s : State) (c off n : Nat) : (s.bumpCore c off n).out = s.out := rfl
@[simp] theorem State.bumpPort_pending (s : State) (p off n : Nat) : (s.bumpPort p off n).pending = s.pending := rfl
@[simp] theorem State.bumpPort_clk (s : State) (p off n : Nat) : (s.bumpPort p off n).clk = s.clk := rfl
@[simp] theorem State.bumpPort_tim (s : State) (p off n : Nat) : (s.bumpPort p off n).tim = s.tim := rfl
@[simp] theorem State.bumpPort_cores (s : State) (p off n : Nat) : (s.bumpPort p off n).cores = s.cores := rfl
@[simp] theorem State.bumpPort_clusters (s : State) (p off n : Nat) : (s.bumpPort p off n).clusters = s.clusters := rfl
@[simp] theorem State.bumpPort_streams (s : State) (p off n : Nat) : (s.bumpPort p off n).streams = s.streams := rfl
@[simp] theorem State.bumpPort_hall (s : State) (p off n : Nat) : (s.bumpPort p off n).hall = s.hall := rfl
@[simp] theorem State.bumpPort_tt (s : State) (p off n : Nat) : (s.bumpPort p off n).tt = s.tt := rfl
@[simp] theorem State.bumpPort_ports (s : State) (p off n : Nat) : (s.bumpPort p off n).ports = s.ports := rfl
@[simp] theorem State.bumpPort_pan (s : State) (p off n : Nat) : (s.bumpPort p off n).pan = s.pan := rfl
@[simp] theorem State.bumpPort_cel (s : State) (p off n : Nat) : (s.bumpPort p off n).cel = s.cel := rfl
@[simp] theorem State.bumpPort_hearth (s : State) (p off n : Nat) : (s.bumpPort p off n).hearth = s.hearth := rfl
@[simp] theorem State.bumpPort_dbg (s : State) (p off n : Nat) : (s.bumpPort p off n).dbg = s.dbg := rfl
@[simp] theorem State.bumpPort_fuses (s : State) (p off n : Nat) : (s.bumpPort p off n).fuses = s.fuses := rfl
@[simp] theorem State.bumpPort_pins (s : State) (p off n : Nat) : (s.bumpPort p off n).pins = s.pins := rfl
@[simp] theorem State.bumpPort_sloe (s : State) (p off n : Nat) : (s.bumpPort p off n).sloe = s.sloe := rfl
@[simp] theorem State.bumpPort_flash (s : State) (p off n : Nat) : (s.bumpPort p off n).flash = s.flash := rfl
@[simp] theorem State.bumpPort_jtag (s : State) (p off n : Nat) : (s.bumpPort p off n).jtag = s.jtag := rfl
@[simp] theorem State.bumpPort_frozen (s : State) (p off n : Nat) : (s.bumpPort p off n).frozen = s.frozen := rfl
@[simp] theorem State.bumpPort_draws (s : State) (p off n : Nat) : (s.bumpPort p off n).draws = s.draws := rfl
@[simp] theorem State.bumpPort_w1Sets (s : State) (p off n : Nat) : (s.bumpPort p off n).w1Sets = s.w1Sets := rfl
@[simp] theorem State.bumpPort_out (s : State) (p off n : Nat) : (s.bumpPort p off n).out = s.out := rfl

/-! Reading back -/

theorem CoreRef.ix_inj {c d : CoreRef} (h : c.ix = d.ix) : c = d := by
  obtain ⟨k, i⟩ := c
  obtain ⟨k', i'⟩ := d
  have hk := k.isLt; have hi := i.isLt; have hk' := k'.isLt; have hi' := i'.isLt
  simp only [CoreRef.ix] at h
  have h1 : k = k' := Fin.ext (by omega)
  have h2 : i = i' := Fin.ext (by omega)
  rw [h1, h2]

@[simp] theorem State.core_modCore (s : State) (c : CoreRef) (f : Core → Core) : (s.modCore c f).core c = f (s.core c) := by
  simp [State.core, State.modCore, State.setCore]

theorem State.core_modCore_ne (s : State) {c d : CoreRef} (f : Core → Core) (h : d ≠ c) : (s.modCore c f).core d = s.core d := by
  have : d.ix ≠ c.ix := fun e => h (CoreRef.ix_inj e)
  simp [State.core, State.modCore, State.setCore, SMap.get_set_ne _ _ _ this]

theorem State.coreN_modCore_ne (s : State) (c : CoreRef) (f : Core → Core) {n : Nat} (h : n ≠ c.ix) :
    (s.modCore c f).coreN n = s.coreN n := by
  simp [State.coreN, State.modCore, State.setCore, SMap.get_set_ne _ _ _ h]

@[simp] theorem State.coreN_ix (s : State) (c : CoreRef) : s.coreN c.ix = s.core c := rfl

@[simp] theorem State.coreN_modCoreN (s : State) (n : Nat) (f : Core → Core) : (s.modCoreN n f).coreN n = f (s.coreN n) := by
  simp [State.coreN, State.modCoreN]

theorem State.coreN_modCoreN_ne (s : State) {n m : Nat} (f : Core → Core) (h : m ≠ n) : (s.modCoreN n f).coreN m = s.coreN m := by
  simp [State.coreN, State.modCoreN, SMap.get_set_ne _ _ _ h]

theorem State.modCoreN_ix (s : State) (c : CoreRef) (f : Core → Core) : s.modCoreN c.ix f = s.modCore c f := rfl

@[simp] theorem State.cluster_modCluster (s : State) (k : Nat) (f : Cluster → Cluster) :
    (s.modCluster k f).cluster k = f (s.cluster k) := by
  simp [State.cluster, State.modCluster, State.setCluster]

theorem State.cluster_modCluster_ne (s : State) {k j : Nat} (f : Cluster → Cluster) (h : j ≠ k) :
    (s.modCluster k f).cluster j = s.cluster j := by
  simp [State.cluster, State.modCluster, State.setCluster, SMap.get_set_ne _ _ _ h]

@[simp] theorem State.port_modPort (s : State) (p : Nat) (f : Port → Port) : (s.modPort p f).port p = f (s.port p) := by
  simp [State.port, State.modPort, State.setPort]

theorem State.port_modPort_ne (s : State) {p q : Nat} (f : Port → Port) (h : q ≠ p) : (s.modPort p f).port q = s.port q := by
  simp [State.port, State.modPort, State.setPort, SMap.get_set_ne _ _ _ h]

@[simp] theorem State.ctx_modCtx (s : State) (x : Nat) (f : Ctx → Ctx) : (s.modCtx x f).ctx x = f (s.ctx x) := by
  simp [State.ctx, State.modCtx]

theorem State.ctx_modCtx_ne (s : State) {x y : Nat} (f : Ctx → Ctx) (h : y ≠ x) : (s.modCtx x f).ctx y = s.ctx y := by
  simp [State.ctx, State.modCtx, SMap.get_upd_ne _ _ _ h]

/-- A counter that is added to shows the sum; every other counter stays (R396). -/
@[simp] theorem State.counters_bump (s : State) (sp off n : Nat) :
    (s.bump sp off n).counters.get 0#64 (ctrKey sp off) = s.counters.get 0#64 (ctrKey sp off) + BitVec.ofNat 64 n := by
  simp [State.bump]

theorem State.counters_bump_ne (s : State) {sp off key : Nat} (n : Nat) (h : key ≠ ctrKey sp off) :
    (s.bump sp off n).counters.get 0#64 key = s.counters.get 0#64 key := by
  simp [State.bump, SMap.get_upd_ne _ _ _ h]

end Sys2Proof.Machine
end

