-- ==== Sys2Proof/Laws/Issue.lean ====
section
/-! SUPPORT. When an instruction issues, enters a unit and leaves results in flight without a trap. -/

namespace Sys2Proof.Machine

theorem OnlyCore.modCore (s : State) (c : CoreRef) (f : Core → Core) : OnlyCore c s (s.modCore c f) :=
  ⟨rfl, fun _ h => State.coreN_modCore_ne s c f h⟩

/-- A legal instruction whose operands are readable runs (R58, R77). -/
theorem State.issue_run {s : State} {c : CoreRef} {slot : Nat} {legal : Bool} {reads : List Res} (f : State → State)
    (h : s.canIssue c slot reads) (hl : legal = true) : s.issue c slot legal reads f = f s := by
  have hr : reads.filter ((s.core c).inFlight s.clk.beat slot) = [] := by
    rw [List.filter_eq_nil_iff]; intro r hr; simp [h.2 r hr]
  simp [State.issue, h.1, hl, hr]

/-- Where a core does not issue, an instruction does nothing. -/
theorem State.issue_idle {s : State} {c : CoreRef} (slot : Nat) (legal : Bool) (reads : List Res) (f : State → State)
    (h : s.issues c = false) : s.issue c slot legal reads f = s := by simp [State.issue, h]

/-- An illegal instruction traps with kind 1 in either mode (R88). -/
theorem State.issue_illegal {s : State} {c : CoreRef} (slot : Nat) (reads : List Res) (f : State → State)
    (h : s.issues c = true) : s.issue c slot false reads f = s.trap c slot 1 0 := by simp [State.issue, h]

theorem State.collide_one {old : List Act} {a : Act} (h : ∀ d, a.dest = some d → ∀ x ∈ old, x.dest ≠ some d) :
    collide old [a] = none := by
  simp only [collide]
  split
  · rename_i d hd
    have := h d hd
    rw [if_neg]
    simpa using this
  · rfl

theorem State.bankMeet_none {old new : List Act} (h : ∀ a ∈ new, a.eff.banks = []) : bankMeet old new = none := by
  induction new generalizing old with
  | nil => rfl
  | cons a new ih =>
    have h1 := h a (List.mem_cons_self ..)
    simp only [bankMeet, h1, List.find?_nil]
    exact ih (fun b hb => h b (List.mem_cons_of_mem _ hb))

theorem State.badWords_nil {s : State} {n : Nat} {e : Eff} (h : e.spans = []) : s.badWords n e = [] := by
  simp [State.badWords, h]

/-- Results that are no accesses go in flight where they collide with none (Table 3.5). -/
theorem State.post_run {s : State} {c : CoreRef} {slot : Nat} {l : List Post} (f : State → State)
    (hb : ∀ p ∈ l, p.eff.spans = []) (hc : s.guarded = true → collide (s.core c).acts (s.mkActs c slot l) = none) :
    s.post c slot l f = f (s.modCore c (fun k => { k with acts := k.acts ++ s.mkActs c slot l })) := by
  have hs : ∀ a ∈ s.mkActs c slot l, a.eff.spans = [] := by
    intro a ha
    simp only [State.mkActs, List.mem_map] at ha
    obtain ⟨p, hp, rfl⟩ := ha
    exact hb p hp
  have hbad : ((s.mkActs c slot l).filter (fun a => a.due ≤ s.clk.beat)).flatMap (fun a => s.badWords c.ix a.eff) = [] := by
    rw [List.flatMap_eq_nil_iff]
    intro a ha
    exact State.badWords_nil (hs a (List.mem_filter.1 ha).1)
  have hm : bankMeet (s.core c).acts (s.mkActs c slot l) = none :=
    State.bankMeet_none (fun a ha => by simp [Eff.banks, hs a ha])
  unfold State.post
  simp only [hbad, hm]
  by_cases hg : s.guarded = true
  · simp [hg, hc hg]
  · simp [hg]

theorem Leaves.post {s : State} {c : CoreRef} {slot : Nat} {l : List Post}
    (hb : ∀ p ∈ l, p.eff.spans = []) (hc : s.guarded = true → collide (s.core c).acts (s.mkActs c slot l) = none) :
    Leaves c slot l s (s.post c slot l id) := by
  rw [State.post_run id hb hc]
  exact ⟨OnlyCore.modCore .., by simp⟩

/-- A scalar result goes in flight. -/
theorem State.wrS_run {s : State} {c : CoreRef} {slot lat : Nat} {d : BitVec 6} (x : W64) (f : State → State)
    (h : s.noCollision c 0 d.toNat (s.clk.beat + lat - 1)) :
    s.wrS c slot lat d x f = f (s.modCore c (fun k => { k with
      acts := k.acts ++ s.mkActs c slot [⟨s.clk.beat + lat - 1, .sreg d.toNat x, none, 0#4⟩] })) := by
  refine State.post_run f (by simp [Eff.spans]) (fun hg => State.collide_one ?_)
  intro e he a ha
  simp only [Act.dest] at he
  split at he
  · cases he
  · cases he; exact h hg a ha

end Sys2Proof.Machine
end

