-- ==== Sys2Proof/WellFormed.lean ====
section
/-! DEFINITION. The commands whose operands the manual's encodings and tables admit. A core refuses an ill-formed instruction as
illegal (R88); the meanings are total all the same. -/

namespace Sys2Proof

/-- A command's operands lie in the ranges the manual gives them: no reserved rounding mode, selector or condition (R88, R92, R95,
R100, R101, R107, R116, R120, R128, R130, R134, R136), a bank of the HBM stacks (R271), a version range in order (R279), an alarm source that Table 14.5
lists (R389). -/
def Instr.wf : Instr → Bool
  | .nop _ => true
  | .add _ _ _ _ => true
  | .sub _ _ _ _ => true
  | .and _ _ _ _ => true
  | .or _ _ _ _ => true
  | .xor _ _ _ _ => true
  | .shl _ _ _ _ => true
  | .shr _ _ _ _ => true
  | .sra _ _ _ _ => true
  | .slt _ _ _ _ => true
  | .sltu _ _ _ _ => true
  | .min _ _ _ _ => true
  | .max _ _ _ _ => true
  | .minu _ _ _ _ => true
  | .maxu _ _ _ _ => true
  | .mul _ _ _ _ => true
  | .mulh _ _ _ _ => true
  | .mulhu _ _ _ _ => true
  | .addi _ _ _ _ => true
  | .andi _ _ _ _ => true
  | .ori _ _ _ _ => true
  | .xori _ _ _ _ => true
  | .shli _ _ _ imm => imm.toNat < 64
  | .shri _ _ _ imm => imm.toNat < 64
  | .srai _ _ _ imm => imm.toNat < 64
  | .slti _ _ _ _ => true
  | .limm _ _ _ _ => true
  | .br _ cond _ _ => cond != 7#3
  | .jal _ _ _ => true
  | .jr _ _ => true
  | .loop _ _ _ => true
  | .loopi _ _ _ => true
  | .flrd _ _ g => g.toNat ≤ 16
  | .flclr _ g _ => g.toNat ≤ 16
  | .sysrd _ _ sel => sel.toNat ≤ 5
  | .waitbeat _ _ _ => true
  | .waitbeatRelease _ => true
  | .done _ _ => true
  | .doneComplete _ => true
  | .mnop _ => true
  | .lds _ _ _ _ _ _ => true
  | .sts _ _ _ _ _ => true
  | .vld _ _ _ _ => true
  | .vst _ _ _ _ => true
  | .hmov _ _ hops _ => hops != 0#6
  | .hallwayArrival _ => true
  | .ldg _ _ _ _ => true
  | .stg _ _ _ _ => true
  | .fsend _ _ _ _ _ => true
  | .fsendm _ _ _ _ _ => true
  | .pget _ _ _ => true
  | .pput _ _ _ => true
  | .patom _ _ _ => true
  | .pcopy _ _ _ _ => true
  | .waitcc _ _ _ _ => true
  | .guardRelease _ => true
  | .ccset _ _ _ _ => true
  | .ccadd _ _ _ _ => true
  | .ccrd _ _ _ => true
  | .queueAccept _ => true
  | .anop _ => true
  | .acfg _ _ => true
  | .wload _ _ _ => true
  | .wswap _ => true
  | .mma _ _ _ _ _ => true
  | .tclr _ _ _ => true
  | .drain _ _ _ _ rm _ dfmt _ => rm != 3#2 && dfmt != 3#2
  | .vnop _ => true
  | .vadd _ _ _ _ _ _ _ rm => rm != 3#2
  | .vsub _ _ _ _ _ _ _ rm => rm != 3#2
  | .vmul _ _ _ _ _ _ _ rm => rm != 3#2
  | .vmin _ _ _ _ _ _ _ rm => rm != 3#2
  | .vmax _ _ _ _ _ _ _ rm => rm != 3#2
  | .vabs _ _ _ _ _ _ rm => rm != 3#2
  | .vneg _ _ _ _ _ _ rm => rm != 3#2
  | .vfma _ _ _ _ _ _ _ rm => rm != 3#2
  | .vfms _ _ _ _ _ _ _ rm => rm != 3#2
  | .vfnma _ _ _ _ _ _ _ rm => rm != 3#2
  | .vfmaB _ _ _ _ _ _ _ rm => rm != 3#2
  | .vfmsB _ _ _ _ _ _ _ rm => rm != 3#2
  | .vfnmaB _ _ _ _ _ _ _ rm => rm != 3#2
  | .vfmaH _ _ _ _ _ _ _ rm => rm != 3#2
  | .vfmsH _ _ _ _ _ _ _ rm => rm != 3#2
  | .vfnmaH _ _ _ _ _ _ _ rm => rm != 3#2
  | .vand _ _ _ _ _ _ _ rm => rm != 3#2
  | .vor _ _ _ _ _ _ _ rm => rm != 3#2
  | .vxor _ _ _ _ _ _ _ rm => rm != 3#2
  | .vshl _ _ _ _ _ _ _ rm => rm != 3#2
  | .vshr _ _ _ _ _ _ _ rm => rm != 3#2
  | .vsra _ _ _ _ _ _ _ rm => rm != 3#2
  | .vcmp _ _ _ _ _ _ _ cond _ => cond != 7#3
  | .vsel _ _ _ _ _ _ _ rm => rm != 3#2
  | .vbcast _ _ _ _ _ => true
  | .vgetl _ _ _ _ _ _ => true
  | .viota _ _ _ _ => true
  | .vshuf _ _ _ _ _ _ => true
  | .plogic _ _ _ _ _ _ fn => fn.toNat ≤ 4
  | .vcvt _ _ _ _ _ _ _ _ _ rm => rm != 3#2
  | .vmxq _ _ _ _ _ _ _ _ rm => rm != 3#2
  | .vpk6 _ _ _ _ _ => true
  | .vup6 _ _ _ _ _ => true
  | .vsf _ _ _ _ _ fn => fn.toNat ≤ 5
  | .vrsum _ _ _ _ _ _ rm => rm != 3#2
  | .vrmax _ _ _ _ _ _ rm => rm != 3#2
  | .vrmin _ _ _ _ _ _ rm => rm != 3#2
  | .vsamp _ _ p _ _ => p == 0#4
  | .samplerStart _ => true
  | .samplerComplete _ => true
  | .tapDepartureRead _ => true
  | .slotFill _ => true
  | .rxFrame _ _ => true
  | .cellRelease _ => true
  | .landingWrite _ => true
  | .idleCellTimer _ => true
  | .replayTimerExpiry _ => true
  | .rekey _ _ => true
  | .barrierCell _ => true
  | .freezeCell _ => true
  | .stopCell _ => true
  | .beaconCell _ => true
  | .fbcCell _ => true
  | .repairReq _ => true
  | .repairRsp _ => true
  | .repairTimeout _ => true
  | .bypassCreditTimeout _ => true
  | .signalDetected _ => true
  | .equaliseDone _ _ => true
  | .alignDone _ _ _ => true
  | .capabilityMessage _ _ => true
  | .keysMessage _ _ _ _ _ => true
  | .measureDone _ _ _ => true
  | .trainTimeout _ => true
  | .backoffEnd _ => true
  | .quietWindow _ => true
  | .retrainDrainEnd _ => true
  | .lossOfSignal _ _ => true
  | .trainingPatternSeen _ => true
  | .graceExpiry _ => true
  | .retrain _ _ => true
  | .fullTrain _ => true
  | .lnkCtlEnable _ _ => true
  | .epochStart => true
  | .barrierReady => true
  | .barrierTimeout => true
  | .coreStart _ => true
  | .panCtlEnable => true
  | .panWinEnable _ => true
  | .ctxJobBlockEnable _ => true
  | .pieceOpen _ => true
  | .pantryRequest => true
  | .readReplyData => true
  | .statusCell => true
  | .statusCellTimeout => true
  | .pieceTimeout => true
  | .pieceSlotHoldEnd => true
  | .fence _ => true
  | .moverStart _ => true
  | .read _ => true
  | .write _ => true
  | .fill _ => true
  | .hashOpen _ => true
  | .hashClose _ => true
  | .moverChunkDone _ => true
  | .hashCompress _ => true
  | .refresh bank => bank < 8192
  | .patrolScrub => true
  | .correctionWriteback => true
  | .generate _ => true
  | .erase _ => true
  | .clrRegionEnable _ => true
  | .post _ => true
  | .mbxResponse _ => true
  | .porchWrite _ _ _ => true
  | .getInfo _ => true
  | .getStatus _ => true
  | .regRead _ => true
  | .regWrite _ => true
  | .ctxCreate _ => true
  | .ctxDestroy _ => true
  | .ctxSwitch _ => true
  | .ctxQuery _ => true
  | .jobLoad _ _ => true
  | .jobStart _ => true
  | .jobStop _ => true
  | .telemetrySlip _ _ => true
  | .telemetryCounters _ _ => true
  | .eventSubscribe _ => true
  | .mgmtConnectionClose _ => true
  | .setOperatingPoint _ => true
  | .operatingPointChange => true
  | .setPowerCap _ => true
  | .setPowerState _ => true
  | .selfTest _ _ => true
  | .calibrate _ _ => true
  | .deferredMaintenanceRun _ => true
  | .fwStage _ _ => true
  | .fwActivate _ => true
  | .fwCommit _ => true
  | .fullReset _ => true
  | .attest _ _ => true
  | .sessionOpen _ => true
  | .sessionClose _ => true
  | .debugBreak _ => true
  | .globalStop _ => true
  | .waitforGraph _ _ => true
  | .traceCtl _ => true
  | .freeze _ => true
  | .timedFreezeTrigger => true
  | .traceMarker => true
  | .traceFrame => true
  | .beaconSend _ => true
  | .loadProgram _ => true
  | .start _ => true
  | .wait _ => true
  | .stewardWaitRelease _ => true
  | .mover _ => true
  | .pantry _ => true
  | .stewardQueueAccept _ => true
  | .stream _ => true
  | .sectionEnd _ => true
  | .hearthWatchdog => true
  | .functionWatchdog _ _ => true
  | .barrinLinkDown => true
  | .barrinLinkUp _ minv maxv => minv.toNat ≤ maxv.toNat
  | .barrinVersionRetry minv maxv => minv.toNat ≤ maxv.toNat
  | .barrinTransaction _ _ => true
  | .powerCollection _ => true
  | .telemetryReport => true
  | .droop _ _ => true
  | .stretchToken => true
  | .clockSlip => true
  | .referenceLost => true
  | .referenceRestored => true
  | .fbcCellSend _ => true
  | .seed => true
  | .load => true
  | .apply => true
  | .txtsPop => true
  | .timestamp _ _ => true
  | .timePulseEnable _ => true
  | .pulseEdge _ => true
  | .pulseEnd _ => true
  | .ppsCapture _ => true
  | .idleEntry => true
  | .wakeFrame _ _ _ => true
  | .powerCapWindow _ _ => true
  | .recordEnable => true
  | .replayEntry _ => true
  | .measurementPass _ => true
  | .entropyFailure => true
  | .entropyRecovery _ => true
  | .mgmtHandshake _ _ => true
  | .opcaEnable _ => true
  | .alarmTrigger bit _ _ => bit.val ≤ 8 || 16 ≤ bit.val
  | .mergeWindowEnd => true
  | .level2Clear _ => true
  | .sloePowerOn => true
  | .strapSample _ => true
  | .sloeReset => true
  | .powerReset _ => true
  | .moduleReset _ => true
  | .bringUpStage _ _ => true
  | .stageTimeout => true
  | .supplyFault => true
  | .thermalTrip => true
  | .pantryAccessDone _ => true
  | .drainTimeout => true
  | .tapTck _ _ _ => true
  | .managementModeTry _ => true

end Sys2Proof
end

