-- ==== Sys2Proof/Tests/Slice0.lean ====
section
/-! SUPPORT. Tests: ill-formed commands that `Instr.wf` refuses, words of bundle slots written out from the encoding tables of the manual, and for every
statement of Obligations a state and operands that meet its hypotheses, clause by clause (named `witness_<statement>_…`). -/

namespace Sys2Proof.Test
-- One theorem at a time: elaborated side by side, the tests take a thread each and more memory than a check has.
set_option Elab.async false
open Sys2Proof Sys2Proof.Machine

/-! States -/

def c0 : CoreRef := ⟨0, 0⟩

/-- A guarded job on one cluster. -/
def job : Job where
  ctx := 0
  seed := 0#64
  ranks := 1
  fold := 1
  vrows := 2
  part := 0
  base := 0
  guarded := true
  profA1 := true
  setId := 0#64
  digest := 0#256
  plan := []
  phys := [(0, 0)]
  progs := []
  wins := []

/-- A Hearth in which that job's context runs. -/
def hearth : Hearth := { Hearth.reset with ready := true, running := some 0, ctxs := [(0, { Ctx.zero with state := 3, jobLoaded := true, jobRec := some job })] }

/-- A running core with the scalar registers `l` and a result in flight for s40. -/
def core (l : SMap W64) : Core :=
  { Core.zero with run := .running, pc := 5, sreg := l, acts := [⟨9, 0, 3, 0, false, .sreg 40 7#64, none, 0#4⟩] }

/-- The guarded job running, its first core as given, in beat 4 of an epoch of 1,000 beats. -/
def run (k : Core) : State :=
  { State.reset with
    clk := { Clk.reset with cluRun := [0], beat := 4, aligned := true, linkRun := true }
    cores := [(0, k)]
    hearth := hearth
    tt := { Timetable.zero with length := 1000 } }

/-- A core whose scalar registers are `l`. -/
def regs (l : SMap W64) : State := run (core l)

/-! Ill-formed commands -/

theorem test_wf_shift : Instr.wf (.shli c0 1 1 64) = false ∧ Instr.wf (.shri c0 1 1 64) = false ∧ Instr.wf (.srai c0 1 1 64) = false ∧
    Instr.wf (.shli c0 1 1 63) = true := by decide
theorem test_wf_branch : Instr.wf (.br c0 7 0 0) = false := by decide
theorem test_wf_flags : Instr.wf (.flrd c0 1 17) = false ∧ Instr.wf (.flclr c0 17 0) = false := by decide
theorem test_wf_sysrd : Instr.wf (.sysrd c0 1 6) = false := by decide
theorem test_wf_hmov : Instr.wf (.hmov c0 0 0 1) = false := by decide
theorem test_wf_drain : Instr.wf (.drain c0 0 0 0 3 0 0 0) = false ∧ Instr.wf (.drain c0 0 0 0 0 0 3 0) = false := by decide
theorem test_wf_vector_round : ∀ i ∈ [Instr.vadd c0 0 0 0 0 0 0 3, .vsub c0 0 0 0 0 0 0 3, .vmul c0 0 0 0 0 0 0 3, .vmin c0 0 0 0 0 0 0 3,
    .vmax c0 0 0 0 0 0 0 3, .vabs c0 0 0 0 0 0 3, .vneg c0 0 0 0 0 0 3, .vand c0 0 0 0 0 0 0 3, .vor c0 0 0 0 0 0 0 3,
    .vxor c0 0 0 0 0 0 0 3, .vshl c0 0 0 0 0 0 0 3, .vshr c0 0 0 0 0 0 0 3, .vsra c0 0 0 0 0 0 0 3, .vsel c0 0 0 0 0 0 0 3,
    .vcvt c0 0 0 0 0 0 0 0 0 3, .vmxq c0 0 0 0 0 0 0 0 3, .vrsum c0 0 0 0 0 0 3, .vrmax c0 0 0 0 0 0 3, .vrmin c0 0 0 0 0 0 3],
    i.wf = false := by decide
theorem test_wf_fused_round : ∀ i ∈ [Instr.vfma c0 0 0 0 0 0 0 3, .vfms c0 0 0 0 0 0 0 3, .vfnma c0 0 0 0 0 0 0 3,
    .vfmaB c0 0 0 0 0 0 0 3, .vfmsB c0 0 0 0 0 0 0 3, .vfnmaB c0 0 0 0 0 0 0 3, .vfmaH c0 0 0 0 0 0 0 3, .vfmsH c0 0 0 0 0 0 0 3,
    .vfnmaH c0 0 0 0 0 0 0 3], i.wf = false := by decide
theorem test_wf_selectors : Instr.wf (.vcmp c0 0 0 0 0 0 0 7 0) = false ∧ Instr.wf (.plogic c0 0 0 0 0 0 5) = false ∧
    Instr.wf (.vsf c0 0 0 0 0 6) = false ∧ Instr.wf (.vsamp c0 0 1 0 0) = false := by decide
theorem test_wf_module : Instr.wf (.refresh 8192) = false ∧ Instr.wf (.barrinVersionRetry 2 1) = false ∧
    (∀ b : Fin 20, 9 ≤ b.val → b.val ≤ 15 → Instr.wf (.alarmTrigger b false 0) = false) := by decide

/-! Words of slots -/

/-- ADD s3, s1, s2: opcode 0x01 in 31:26, d in 25:20, a in 19:14, b in 13:8 (Table 4.2). -/
theorem test_decode_add : decodeS c0 0b000001_000011_000001_000010_00000000 = some (.add c0 3 1 2) := by decide
/-- A nonzero reserved field is refused (R88). -/
theorem test_decode_add_reserved : decodeS c0 0b000001_000011_000001_000010_00000001 = none := by decide
/-- BR NE s5, 0x123: opcode 0x28, condition 2 in 25:23, a in 19:14, target in 12:0. -/
theorem test_decode_br : decodeS c0 0b101000_010_000_000101_0_0000100100011 = some (.br c0 2 5 0x123) := by decide
/-- LDS s7, [s2 - 8], SZ 3, SX 0: opcode 0x01 in 31:27, d in 26:21, a in 20:15, SZ in 14:13, SX in 12, offset in 11:0. -/
theorem test_decode_lds : decodeM c0 0b00001_000111_000010_11_0_111111111000 = some (.lds c0 7 2 3 0 0xFF8) := by decide
/-- MMA tile 1, M 7, s4, s5: opcode 4 in 23:20, tile in 19:18, M in 17:12, a in 11:6, b in 5:0. -/
theorem test_decode_mma : decodeA c0 0b0100_01_000111_000100_000101 = some (.mma c0 1 7 4 5) := by decide
/-- VADD v6, v1, v2, group 3, predicate 1, T 0, RM 2: opcode 0x01 in 39:34, G, p, d, a, b, T, RM. -/
theorem test_decode_vadd : decodeV c0 0b000001_0011_0001_000110_000001_000010_00_10_0000 = some (.vadd c0 3 1 6 1 2 0 2) := by decide

/-! Witnesses: the S slot -/

/-- s1 and s2 at the ends of their range. -/
def sAB : State := regs [(1, 0x8000000000000000#64), (2, 0xFFFFFFFFFFFFFFFF#64)]

theorem witness_ScalarArithmetic : sAB.canIssue c0 3 [.s 1, .s 2] ∧ sAB.noCollision c0 0 40 sAB.clk.beat ∧ sAB.guarded = true := by
  unfold State.canIssue State.noCollision; and_intros <;> decide
theorem witness_ScalarMultiply : sAB.canIssue c0 3 [.s 1, .s 2] ∧ sAB.noCollision c0 0 40 (sAB.clk.beat + 2) := by
  unfold State.canIssue State.noCollision; and_intros <;> decide
theorem witness_ScalarImmediate : sAB.noCollision c0 0 1 sAB.clk.beat ∧ sAB.canIssue c0 3 [.s 1] ∧ (63#14).toNat < 64 := by
  unfold State.canIssue State.noCollision; and_intros <;> decide
theorem witness_IllegalEncodingsTrap : sAB.issues c0 = true ∧ (sAB.core c0).run ≠ .faulted ∧ 64 ≤ (64#14).toNat ∧ 1#6 ≠ 0#6 ∧
    16 < (17#5).toNat ∧ 5 < (6#4).toNat ∧ 1 ≠ c0.ix := by decide
/-- No loop ends at pc 5 or 6. -/
theorem witness_Branches : (sAB.core c0).branch = none ∧ (∀ e ∈ (sAB.core c0).loops, e.stop ≠ (sAB.core c0).pc) ∧
    (∀ e ∈ (sAB.core c0).loops, e.stop ≠ (sAB.core c0).pc + 1) ∧ sAB.canIssue c0 3 [.s 1] ∧ sAB.canIssue c0 3 [] ∧
    BrCond 3#3 ((sAB.core c0).s 1) ∧ ¬ BrCond 4#3 ((sAB.core c0).s 1) ∧ BrCond 0#3 ((sAB.core c0).s 0) ∧
    sAB.noCollision c0 0 40 sAB.clk.beat ∧ 2 ^ 13 ≤ ((sAB.core c0).s 1).toNat ∧ ((sAB.core c0).s 0).toNat < 2 ^ 13 := by
  unfold State.canIssue State.noCollision BrCond; and_intros <;> decide

/-- A core at pc 5 inside `n` loops of the bundles 2 to 20; s1 is 0, s2 2^24, s3 one more. -/
def looped (n : Nat) : State :=
  run { core [(2, 0x1000000#64), (3, 0x1000001#64)] with loops := List.replicate n ⟨2, 20, 3⟩ }
def Inner (s : State) (stop : Nat) : Prop := ∀ e es, (s.core c0).loops = e :: es → e.start ≤ stop ∧ stop ≤ e.stop

theorem inner_looped (n stop : Nat) (h : 2 ≤ stop ∧ stop ≤ 20) : Inner (looped n) stop := by
  intro e es he
  have h1 : (looped n |>.core c0).loops = List.replicate n ⟨2, 20, 3⟩ := rfl
  rw [h1] at he
  cases n with
  | zero => simp at he
  | succ n => simp [List.replicate_succ] at he; rw [← he.1]; exact h
theorem witness_Loops_enter : (looped 3).canIssue c0 3 [.s 2] ∧ ((looped 3).core c0).branch = none ∧ ((looped 3).core c0).pc < (20#13).toNat ∧
    ((looped 3).core c0).loops.length < 4 ∧ 0 < (((looped 3).core c0).s 2).toNat ∧ (((looped 3).core c0).s 2).toNat ≤ 2 ^ 24 := by
  unfold State.canIssue; and_intros <;> decide
theorem witness_Loops_zero : Inner (looped 4) 20 ∧ (looped 4).canIssue c0 3 [.s 1] ∧ ((looped 4).core c0).branch = none ∧
    (((looped 4).core c0).s 1).toNat = 0 ∧ ((looped 4).core c0).pc < 20 :=
  ⟨inner_looped 4 20 (by decide), by unfold State.canIssue; and_intros <;> decide⟩
theorem witness_Loops_full : Inner (looped 4) 20 ∧ (looped 4).canIssue c0 3 [.s 3] ∧ 4 ≤ ((looped 4).core c0).loops.length ∧
    2 ^ 24 < (((looped 4).core c0).s 3).toNat :=
  ⟨inner_looped 4 20 (by decide), by unfold State.canIssue; and_intros <;> decide⟩
theorem witness_Loops_outside : (looped 1).canIssue c0 3 [.s 2] ∧ ((looped 1).core c0).branch = none ∧
    ((5#13).toNat ≤ ((looped 1).core c0).pc ∨ ¬ Inner (looped 1) 5) ∧ ¬ Inner (looped 1) 21 :=
  ⟨by unfold State.canIssue; and_intros <;> decide, by decide, .inl (by decide), fun h => absurd (h ⟨2, 20, 3⟩ [] rfl).2 (by decide)⟩

theorem witness_LoopBack : (∀ e ∈ [(⟨4, 7, 1⟩ : LoopEntry), ⟨3, 9, 5⟩], e.stop = 7 → e.count ≤ 1) ∧
    (⟨2, 7, 2⟩ : LoopEntry).stop = 7 ∧ 1 < (⟨2, 7, 2⟩ : LoopEntry).count := by decide
theorem witness_NextBundle : ({ Core.zero with branch := some 3 }).branch ≠ none ∧
    ({ Core.zero with loops := [⟨2, 20, 3⟩] }).skip = none ∧ (∀ e ∈ ({ Core.zero with loops := [⟨2, 20, 3⟩] }).loops, e.stop ≠ 19) ∧
    ({ Core.zero with loops := [⟨2, 20, 2⟩] }).branch = none ∧ 1 < (⟨2, 20, 2⟩ : LoopEntry).count := by decide
theorem witness_FlagsAndIdentity : sAB.canIssue c0 3 [.flags 16] ∧ (16#5).toNat ≤ 16 ∧ sAB.noCollision c0 0 40 sAB.clk.beat ∧
    sAB.canIssue c0 3 [] ∧ (5#4).toNat ≤ 5 ∧ sAB.job = some job ∧ sAB.tt.agreed = none := by
  unfold State.canIssue State.noCollision; and_intros <;> decide
/-- Targets at the epoch's length, below it past the next beat, at the next beat, and reached. -/
def sBeat : State := regs [(1, 1000#64), (2, 999#64), (3, 5#64), (4, 4#64)]
theorem witness_BeatsAndDone : sBeat.canIssue c0 3 [.s 1] ∧ (sBeat.core c0).branch = none ∧ sBeat.epochBeat = 4 ∧
    sBeat.tt.length ≤ ((sBeat.core c0).s 1).toNat ∧ ((sBeat.core c0).s 2).toNat < sBeat.tt.length ∧
    sBeat.epochBeat + 1 < ((sBeat.core c0).s 2).toNat ∧ ((sBeat.core c0).s 3).toNat = sBeat.epochBeat + 1 ∧
    ((sBeat.core c0).s 4).toNat ≤ sBeat.epochBeat ∧ sBeat.canIssue c0 3 [] := by
  unfold State.canIssue; and_intros <;> decide
def drained : State := run { Core.zero with run := .draining 255 }
theorem witness_BeatsAndDone_complete : (drained.core c0).run = .draining 255 ∧ (drained.core c0).acts = [] ∧ (drained.core c0).open_ = 0 ∧
    (drained.core c0).waits = [] ∧ ∀ u ∈ drained.hall, u.src ≠ c0.ix := by decide

/-! The M slot -/

/-- Addresses: s1 the last eight bytes of SRAM, s2 one past them, s3 aligned to a chunk, s4 the last vector of SRAM, s5 one chunk past it. -/
def sMem : State := regs [(1, 0x17FFF8#64), (2, 0x180000#64), (3, 0x1C0#64), (4, 0x17FC00#64), (5, 0x17FC40#64)]
/-- As `sMem` with an uncorrectable word in the first bank row. -/
def sBad : State := run { core [(1, 8#64)] with sramErr := [(0, 1#8), (1, 1#8)] }

theorem witness_ScalarMoves : sMem.canIssue c0 0 [.s 1] ∧ (sMem.core c0).sramErr = [] ∧ sMem.noBankMeet c0 sMem.clk.beat [0x17FFF8 / 64 % 24] ∧
    sMem.noCollision c0 0 40 (sMem.clk.beat + 5 + 1) ∧ sMem.canIssue c0 0 [.s 3] ∧
    (((sMem.core c0).s 1).toInt + (0#12).toInt) % 2 ^ 64 = 0x17FFF8 ∧ 0x17FFF8 % 2 ^ (3#2).toNat = 0 ∧ 0x17FFF8 < 0x180000 := by
  unfold State.canIssue State.noCollision State.noBankMeet; and_intros <;> decide
theorem witness_ScalarMoves_fault :sMem.canIssue c0 0 [.s 2] ∧ ¬ (0x180000 % 8 = 0 ∧ 0x180000 < 0x180000) ∧
    sBad.canIssue c0 0 [.s 1] := by
  unfold State.canIssue; and_intros <;> decide
/-- Two equal symbols in error are uncorrectable. -/
theorem witness_ScalarMoves_bad : sBad.badWords c0.ix (.loadS 1 8 8 false) = [0] := by decide +kernel
theorem witness_VectorMoves : sMem.canIssue c0 0 [.s 4] ∧ 0x17FC00 % 64 = 0 ∧ 0x17FC00 + 1023 < 0x180000 ∧ (sMem.core c0).sramErr = [] ∧
    sMem.noBankMeet c0 sMem.clk.beat ((List.range 16).map (fun i => (0x17FC00 / 64 + i) % 24)) ∧
    sMem.noCollision c0 2 7 (sMem.clk.beat + 5) ∧ sMem.canIssue c0 0 [.v 7] ∧ sMem.canIssue c0 0 [.s 5] ∧ ¬ (0x17FC40 + 1023 < 0x180000) := by
  unfold State.canIssue State.noCollision State.noBankMeet; and_intros <;> decide
theorem witness_AccessesLand : (sMem.coreN 0).sramErr = [] ∧ sMem.cel.wbSram = [] := by decide

/-- s1: two units from 0x100 to the last 256 bytes of SRAM, CCEN 1, counter 3; s2: a unit more, past the end. -/
def sHall : State := regs [(1, BitVec.ofNat 64 (2 ^ 57 + 3 * 2 ^ 49 + 2 ^ 42 + 0x17FF00 * 2 ^ 21 + 0x100)),
  (2, BitVec.ofNat 64 (2 * 2 ^ 42 + 0x17FF00 * 2 ^ 21 + 0x100))]
theorem witness_HallwayMoves : sHall.canIssue c0 0 [.s 1] ∧ (3#6) ≠ 0#6 ∧ Reaches c0 1 1 1 ∧ sHall.clusterUsed 0 = true ∧
    fld ((sHall.core c0).s 1) 63 58 = 0 ∧ fld ((sHall.core c0).s 1) 48 42 + 1 = 2 ∧ 0x17FF00 + 128 * 2 ≤ 0x180000 ∧
    (sHall.core c0).sramErr = [] ∧ sHall.linkMeet c0.ix 1 1 2 = false ∧
    sHall.noBankMeet c0 (sHall.clk.beat + 1) [0x180 / 64 % 24, (0x180 / 64 + 1) % 24] := by
  unfold State.canIssue State.noBankMeet Reaches; and_intros <;> decide
theorem witness_HallwayMoves_fault : sHall.canIssue c0 0 [.s 2] ∧ fld ((sHall.core c0).s 2) 63 58 = 0 ∧
    ¬ (0x17FF00 + 128 * (fld ((sHall.core c0).s 2) 48 42 + 1) ≤ 0x180000) := by
  unfold State.canIssue; and_intros <;> decide
/-- A unit that has made its one hop to core 1. -/
def unit : HallUnit := ⟨0, 1, 2, 1, 4, 0, 0x17FF80, 5#1024, some 3, 0⟩
theorem witness_HallwayMoves_arrival : ({ sHall with hall := [unit] }).arrival 1 = some unit ∧
    (sHall.coreN 1).bankAt ≠ sHall.clk.beat ∧ (sHall.coreN 1).sramErr = [] := by and_intros <;> decide +kernel

/-- Route 7 sends on port 2, route 8 multicasts. s1, s3: two cells of route 7 or 8 to the end of the index space; s2: from the last 128 bytes of
SRAM in the last beat of the epoch. -/
def sSend (deps : Nat) : State :=
  { regs [(1, BitVec.ofNat 64 (7 * 2 ^ 48 + 0xFFFFE * 2 ^ 28 + 1)), (2, BitVec.ofNat 64 (999 * 2 ^ 40 + 0x17FF80)),
      (3, BitVec.ofNat 64 (8 * 2 ^ 48 + 1))] with
    tt := { Timetable.zero with length := 1000, routes := [(7, 0xA0100000#32), (8, 0xC0300000#32)] }
    clusters := [(0, { Cluster.zero with deps := List.replicate deps ⟨1, false, 0, 7, 0, 9, 500, 0, 0, 0, false⟩ })] }
theorem witness_Departures : (sSend 31).canIssue c0 0 [.s 1, .s 2] ∧ fld ((sSend 31 |>.core c0).s 1) 27 15 = 0 ∧
    fld ((sSend 31 |>.core c0).s 2) 39 21 = 0 ∧ fld ((sSend 31 |>.core c0).s 1) 47 28 + 2 = 2 ^ 20 ∧
    fld ((sSend 31 |>.core c0).s 2) 63 40 < (sSend 31).tt.length ∧ 0x17FF80 % 64 = 0 ∧ 0x17FF80 + 64 * 2 = 0x180000 ∧
    rtValid ((sSend 31).route 7) = true ∧ rtRole ((sSend 31).route 7) = 1 ∧ (rtOut ((sSend 31).route 7)).length = 1 ∧
    rtLand ((sSend 31).route 7) = false ∧ ((sSend 31).cluster c0.k.val).deps.length < 32 ∧
    (∀ i ∈ List.range 8, i ≠ c0.i.val → (sSend 31).waitsFor c0.k.val i 0 = false) := by
  unfold State.canIssue; and_intros <;> decide
theorem witness_Departures_multicast_full : (sSend 32).canIssue c0 0 [.s 3, .s 2] ∧ rtValid ((sSend 32).route 8) = true ∧
    rtRole ((sSend 32).route 8) = 2 ∧ fld ((sSend 32 |>.core c0).s 3) 27 15 = 0 ∧ 32 ≤ ((sSend 32).cluster c0.k.val).deps.length := by
  unfold State.canIssue; and_intros <;> decide

/-- s1 the last eight bytes of a Pantry block of node 0, s2 8 bytes to the end of SRAM, s3 an atomic on the last 24 bytes, s4 a chunk, s5 64 bytes. -/
def sPan : State :=
  { regs [(1, 0xFFFFFFFFF8#64), (2, BitVec.ofNat 64 (3 * 2 ^ 56 + 7 * 2 ^ 43 + 0x17FFF8)),
      (3, BitVec.ofNat 64 (3 * 2 ^ 53 + 0x17FFE8)), (4, 0x40#64), (5, BitVec.ofNat 64 (5 * 2 ^ 56 + 63))] with
    pan := { Pantry.zero with enable := true } }
theorem witness_PantryOperations : sPan.ownWork = true ∧ (∀ i ∈ List.range 8, i ≠ c0.i.val → sPan.waitsFor c0.k.val i 1 = false) ∧ (sPan.cluster c0.k.val).panQ.length < 16 ∧ 0xFFFFFFFFF8 / 2 ^ 56 = 0 ∧
    0xFFFFFFFFF8 / 2 ^ 52 % 16 = sPan.hallId ∧ sPan.canIssue c0 0 [.s 1, .s 2] ∧ fld ((sPan.core c0).s 2) 42 21 = 0 ∧
    fld ((sPan.core c0).s 2) 55 43 + 1 = 8 ∧ 0xFFFFFFFFF8 % 8 = 0 ∧ fld ((sPan.core c0).s 2) 20 0 + 8 = 0x180000 := by
  unfold State.canIssue; and_intros <;> decide
theorem witness_PantryOperations_atomic : sPan.canIssue c0 0 [.s 1, .s 3] ∧ fld ((sPan.core c0).s 3) 42 21 = 0 ∧
    fld ((sPan.core c0).s 3) 52 43 = 0 ∧ fld ((sPan.core c0).s 3) 55 53 = 3 ∧ fld ((sPan.core c0).s 3) 20 0 + 24 = 0x180000 := by
  unfold State.canIssue; and_intros <;> decide
theorem witness_PantryOperations_copy : sPan.canIssue c0 0 [.s 4, .s 0, .s 5] ∧ fld ((sPan.core c0).s 5) 55 30 = 0 ∧
    (fld ((sPan.core c0).s 5) 29 0 + 1) % 64 = 0 ∧ ((sPan.core c0).s 4).toNat % 64 = 0 := by
  unfold State.canIssue; and_intros <;> decide
theorem witness_BoardAccesses : sPan.canIssue c0 0 [.s 1, .s 0] ∧ fld ((sPan.core c0).s 0) 55 21 = 0 ∧
    ((sPan.core c0).s 1).toNat % (8 * 2 ^ 0) = 0 ∧ sPan.onBoard (((sPan.core c0).s 1).toNat / 2 ^ 40 % 4096) = true ∧
    sPan.ownWork = true ∧ sPan.freeTag c0.ix ≠ none ∧ (sPan.core c0).sramErr = [] ∧ sPan.noBankMeet c0 sPan.clk.beat [0] := by
  unfold State.canIssue State.noBankMeet; and_intros <;> decide +kernel
/-- A core that waits to enter a list with one place left. -/
def sQueue : State := { sSend 31 with cores := [(0, { Core.zero with run := .running, waits := [.queue (.send ⟨0, false, 0, 7, 0, 1, 9, 0, 0, 4, false⟩)] })] }
theorem witness_QueueAccept : (sQueue.core c0).waits = [.queue (.send ⟨0, false, 0, 7, 0, 1, 9, 0, 0, 4, false⟩)] ∧
    (sQueue.cluster c0.k.val).deps.length < 32 := by and_intros <;> decide
theorem witness_CompletionCounters : sAB.canIssue c0 0 [.s 1] ∧ sAB.canIssue c0 0 [] ∧ sAB.noCollision c0 0 40 sAB.clk.beat := by
  unfold State.canIssue State.noCollision; and_intros <;> decide
theorem witness_ResultsLand : 63#6 ≠ 0#6 ∧ 15#4 ≠ 0#4 ∧ 63#6 ≠ 1#6 := by decide

/-! The A slot -/

/-- The array configuration `cfg` in a core, the active buffer loaded with its formats; s1 and s2 SRAM addresses. -/
def sArr (cfg : BitVec 20) (a b : W64) : State :=
  run { core [(1, a), (2, b)] with acfg := cfg, wb0 := { WBuf.zero with cfg := BitVec.ofNat 9 cfg.toNat } }
/-- 4,096 bytes of weights and 128 of scales that end with SRAM. -/
def sLoad : State := sArr 0x80 0x17F000#64 0x17FF80#64
theorem witness_WeightBuffers : sLoad.canIssue c0 1 [.s 1] ∧ sLoad.noCollision c0 3 0 sLoad.clk.beat ∧ sLoad.canIssue c0 1 [.s 1, .acfg] ∧
    sLoad.canIssue c0 1 [.s 2] ∧ cfgBsc 0x80 = true ∧ cfgOk 0x80 = true ∧ (sLoad.core c0).wbFree ≤ sLoad.clk.beat ∧
    0x17F000 % 64 = 0 ∧ 0x17F000 + 64 * cfgK 0x80 * codeBits (cfgB 0x80) / 8 = 0x180000 ∧ 0x17FF80 + 2 * cfgK 0x80 = 0x180000 ∧
    sLoad.canIssue c0 1 [] := by
  unfold State.canIssue State.noCollision; and_intros <;> decide
theorem witness_WeightBuffers_clear : sLoad.clear c0 1 ((List.range 8).map (fun i => ⟨4 + i, .wload (0x17F000 + 512 * i) i true, none, 0#4⟩)
    ++ [⟨12, .wscale 0x17FF80 128 true, none, 0#4⟩] ++ [⟨12, .wcfg 0x80 true, none, 0#4⟩]) := by
  unfold State.clear; and_intros <;> decide +kernel
theorem witness_WeightBuffers_fault : (sArr 0 0x17F040#64 0#64).canIssue c0 1 [.s 1, .acfg] ∧ ¬ (0x17F040 + 4096 ≤ 0x180000) ∧ cfgOk 0 = true ∧
    cfgOk 0x100 = false ∧ (sArr 0x100 0 0).canIssue c0 1 [.s 1, .acfg] := by
  unfold State.canIssue; and_intros <;> decide
def sBusy : State := run { core [] with wbFree := 5 }
theorem witness_WeightBuffers_busy : sBusy.canIssue c0 1 [] ∧ sBusy.clk.beat < (sBusy.core c0).wbFree ∧ sBusy.guarded = true := by
  unfold State.canIssue; and_intros <;> decide

def Legal (s : State) (tile : Nat) (x : Nat) : Bool :=
  let k := s.core c0
  fld k.acfg 8 0 == k.active.cfg.toNat && (k.tile tile).int32 == bitOf k.acfg 8 && !(bitOf k.acfg 6 && 5 ≤ fld k.acfg 2 0) &&
    !(bitOf k.acfg 7 && 5 ≤ fld k.acfg 5 3) && x % 32 == 0
/-- Two rows of 64 bytes, stride 64, that end with SRAM, with their scales. -/
def sMma : State := sArr 0x440 0x17FF80#64 0x17FFFC#64
theorem witness_MatrixMultiply : sMma.canIssue c0 1 [.s 1, .acfg, .mode 3] ∧ sMma.canIssue c0 1 [.s 2] ∧ Legal sMma 3 0x17FF80 = true ∧
    fld 0x440#20 2 0 = 0 ∧ 0x17FF80 + 32 * fld 0x440#20 19 9 + 64 = 0x180000 ∧ 0x17FFFC + 2 * (cfgK 0x440 / 32) = 0x180000 ∧
    (sMma.core c0).arFree ≤ sMma.clk.beat := by
  unfold State.canIssue; and_intros <;> decide
theorem witness_MatrixMultiply_clear : sMma.clear c0 1 ((List.range 2).map (fun i => ⟨4 + i, .mmaRow 3 i (0x17FF80 + 64 * i) 64
    (some (0x17FFFC + 2 * i)) (sMma.core c0).active 0x440, some 16, 0#4⟩)) := by
  unfold State.clear; and_intros <;> decide +kernel
/-- One row of 64 elements of 16 bits. -/
def sWide : State := sArr 0x2D 0x17FF80#64 0#64
theorem witness_MatrixMultiply_wide : sWide.canIssue c0 1 [.s 1, .acfg, .mode 0] ∧ Legal sWide 0 0x17FF80 = true ∧ fld 0x2D#20 2 0 = 5 ∧
    cfgK 0x2D * codeBits 5 / 8 + 0x17FF80 = 0x180000 ∧ sWide.clear c0 1 [⟨4, .mmaHalf 0 0 0x17FF80 false none (sWide.core c0).active 0x2D, some 16, 0#4⟩,
      ⟨5, .mmaHalf 0 0 0x17FFC0 true none (sWide.core c0).active 0x2D, some 16, 0#4⟩] := by
  unfold State.canIssue State.clear; and_intros <;> decide +kernel
theorem witness_MatrixMultiply_fault : (sArr 0 0x17FFE0#64 0#64).canIssue c0 1 [.s 1, .acfg, .mode 0] ∧ Legal (sArr 0 0x17FFE0#64 0#64) 0 0x17FFE0 = true ∧
    0x180000 < 0x17FFE0 + 64 ∧ Legal (sArr 0 0x17FFE8#64 0#64) 0 0x17FFE8 = false := by
  unfold State.canIssue; and_intros <;> decide
theorem witness_TileClearAndDrain : (sArr 0 0 0 |>.core c0).acFree ≤ 4 ∧ (sArr 0 0 0).canIssue c0 1 [.tile 3] ∧
    (sArr 0 0 0).canIssue c0 1 [.mode 3, .row 3 60, .row 3 61, .row 3 62, .row 3 63] ∧ (sArr 0 0 0).noCollision c0 2 63 6 ∧
    1#2 ≠ 3#2 ∧ (sArr 0 0 0 |>.core c0 |>.tile 3).int32 = false := by
  unfold State.canIssue State.noCollision; and_intros <;> decide
theorem witness_ArrayLands : (List.replicate 64 (2 ^ 31 : Int)).length = 64 := by decide

/-! The V slot -/

/-- Group 15 holds v60 to v63; s1 a value; the special functions' tables loaded. -/
def sVec : State :=
  { run { core [(1, 0xFFFFFFFFFFFFFFFF#64)] with groups := [(15, 0x813C#16)] } with hearth := { hearth with sfuTables := true } }
theorem witness_VectorArithmetic : sVec.vReady c0 15 15 [63, 60, 61] [.v 60, .v 61] ∧ sVec.noCollision c0 2 63 (sVec.clk.beat + 3) ∧
    sVec.noCollision c0 2 63 (sVec.clk.beat + 1) ∧ 2#2 ≠ 3#2 := by
  unfold State.vReady State.canIssue State.noCollision; and_intros <;> decide
theorem witness_VectorFused : sVec.vReady c0 15 0 [63, 60, 61, 62] [.v 60, .v 61, .v 62] ∧ sVec.noCollision c0 2 63 (sVec.clk.beat + 3) := by
  unfold State.vReady State.canIssue State.noCollision; and_intros <;> decide
theorem witness_VectorLogicAndLanes : sVec.vReady c0 15 15 [63] [.s 1] ∧ sVec.vReady c0 15 15 [63] [] ∧ sVec.vReady c0 15 0 [60] [.v 60] ∧
    sVec.noCollision c0 2 63 (sVec.clk.beat + 2) ∧ sVec.noCollision c0 0 40 (sVec.clk.beat + 1) := by
  unfold State.vReady State.canIssue State.noCollision; and_intros <;> decide
theorem witness_VectorPredicates : sVec.noCollision c0 1 15 (sVec.clk.beat + 1) ∧ sVec.vReady c0 15 0 [60, 61] [.v 60, .v 61] ∧
    6#3 ≠ 7#3 ∧ (tFmt 1).wid = 16 ∧ sVec.vReady c0 15 0 [] [.p 15] ∧ sVec.canIssue c0 2 [.p 14] ∧ (4#3).toNat ≤ 4 := by
  unfold State.vReady State.canIssue State.noCollision; and_intros <;> decide
theorem witness_VectorConversions : sVec.vReady c0 15 15 [63, 60] [.v 60] ∧ sVec.noCollision c0 2 63 (sVec.clk.beat + 2) ∧
    Fmt.ofCode (2#4).toNat = some .e2m3 ∧ Fmt.e2m3.wid < 32 ∧ (3#3).toNat < 32 / Fmt.e2m3.wid ∧ Fmt.ofCode (3#4).toNat = some .e2m1 ∧
    (7#3).toNat < 32 / Fmt.e2m1.wid ∧ Fmt.ofCode (0#4).toNat = some .e4m3 ∧ Fmt.e4m3.alwaysSat = false ∧ 0#2 ≠ 3#2 := by
  unfold State.vReady State.canIssue State.noCollision; and_intros <;> decide
theorem witness_VectorQuantiseAndPack : sVec.vReady c0 15 0 [63, 60, 62] [.v 60] ∧ 63#6 ≠ 62#6 ∧ Fmt.ofCode (4#3).toNat = some .int8 ∧
    (4#3).toNat ≤ 4 ∧ (3#3).toNat < 32 / Fmt.int8.wid ∧ sVec.noCollision c0 2 63 (sVec.clk.beat + 5) ∧
    sVec.noCollision c0 2 62 (sVec.clk.beat + 5) ∧ sVec.vReady c0 15 0 [63, 60] [.v 60] := by
  unfold State.vReady State.canIssue State.noCollision; and_intros <;> decide
theorem witness_SpecialAndReductions : sVec.vReady c0 15 15 [63, 60] [.v 60] ∧ sVec.hearth.sfuTables = true ∧ (5#3).toNat ≤ 5 ∧
    (sVec.core c0).sfFree ≤ sVec.clk.beat ∧ sVec.noCollision c0 2 63 (sVec.clk.beat + sVec.sfuLat - 1) ∧
    (sVec.core c0).rdFree ≤ sVec.clk.beat ∧ sVec.noCollision c0 2 63 (sVec.clk.beat + 11 - 1) := by
  unfold State.vReady State.canIssue State.noCollision; and_intros <;> decide
theorem witness_ReductionTree : Fmt.fp32 ≠ .int32 ∧ [1, 2].length = 2 ^ 1 ∧ [3, 4].length = 2 ^ 1 := by decide

/-! Samplers and taps -/

/-- A descriptor in the last 80 bytes of SRAM: one segment of 4 FP32 logits at address 0, scale 1.0, top-K 4, top-P 1.0, the record at 0x100. -/
def desc : Nat := 0x3F800000 + 0x3F800000 * 2 ^ 32 + 4 * 2 ^ 64 + 2 ^ 84 + 3 * 2 ^ 88 + 0x100 * 2 ^ 96 + 4 * 2 ^ (128 + 24)
def sramDesc : Mem := Mem.write [] 0x17FFB0 (leBytes 80 desc)
/-- Stream 5 valid, of rank 0 and core 0, its draw sequence at 9. -/
def sSamp (q : List SampleReq) (v : Option Serving) (busy : Nat) : State :=
  { run { core [(1, 0x17FFB0#64), (2, 0x180000#64)] with groups := [(15, 0x813C#16)], sram := sramDesc } with
    clusters := [(0, { Cluster.zero with sampQ := q, samp := v })]
    streams := [(5, BitVec.ofNat 128 (2 ^ 127 + busy * 2 ^ 126 + 9))] }
theorem witness_SampleRequests_vsamp : (sSamp [] none 0).canIssue c0 2 [.s 1] ∧ (sSamp [] none 0 |>.core c0).groupOk 15 [] = true ∧
    0x17FFB0 % 16 = 0 ∧ 0x17FFB0 + 16 + 8 * ((sSamp [] none 0 |>.core c0).sram.readNat 0x17FFB0 16 / 2 ^ 84 % 16) ≤ 0x180000 ∧
    (sSamp [] none 0 |>.cluster c0.k.val).sampQ.length < 4 ∧ (sSamp [] none 0).canIssue c0 2 [.s 2] ∧ ¬ (0x180000 + 16 ≤ 0x180000) := by
  unfold State.canIssue; and_intros <;> decide +kernel
theorem witness_SampleRequests_alone (i : Nat) (h : i < 8) : (sSamp [] none 0).waitsFor c0.k.val i 2 = false := by
  revert i; decide +kernel
def req : SampleReq := ⟨0, 5, 0x17FFB0, 0, 0, 0⟩
theorem witness_SampleRequests_start : (sSamp [req] none 0 |>.cluster 0).samp = none ∧ (sSamp [req] none 0 |>.cluster 0).sampQ = [req] ∧
    bitOf ((sSamp [req] none 0).strm 5) 127 = true ∧ bitOf ((sSamp [req] none 0).strm 5) 126 = false := by and_intros <;> decide +kernel
/-- The request in service with `d` of its descriptor and the logits `l` read. -/
def serving (d : Nat) (l : List (List Byte)) : Serving := ⟨req, 0, true, (leBytes 80 desc).take d, l, l.length * 16, false⟩
def sServe (d : Nat) (l : List (List Byte)) : State :=
  { sSamp [] (some (serving d l)) 1 with clk := { Clk.reset with cluRun := [0], beat := 97, aligned := true } }
/-- Its first chunk of the descriptor, then its logits. -/
theorem witness_SampleRequests_read : (sServe 0 []).sampNext 0 (serving 0 []) = some (0, 0x17FFB0, 16) ∧
    (sServe 24 []).sampNext 0 (serving 24 []) = some (0, 0, 16) ∧ ((sServe 24 []).coreN 0).sramErr = [] ∧
    (sServe 24 []).banksFree 0 0 16 = true := by and_intros <;> decide +kernel
/-- All is read; the record is due in this beat. -/
def served : Serving := serving 24 [List.replicate 16 0#8]
def sDone : State := sServe 24 [List.replicate 16 0#8]
theorem witness_SampleRequests_complete : (sDone.cluster 0).samp = some served ∧ served.start + (served.d.total + 255) / 256 + 96 ≤ sDone.clk.beat ∧
    sDone.sampNext 0 served = none ∧ served.bad = false ∧ served.busy = true ∧ served.d.ok = true ∧ served.d.result = 0x100 ∧
    sDone.banksFree 0 0x100 16 = true ∧ (sDone.coreN 0).sramErr = [] ∧ sDone.cel.wbSram = [] ∧ bitOf (sDone.strm 5) 127 = true ∧
    fld (sDone.strm 5) 95 80 = (sDone.coreN 0).vrank.toNat ∧ fld (sDone.strm 5) 79 64 = (sDone.coreN 0).vcore.toNat ∧
    served.d.bf16 = false ∧ served.data.reverse.flatten.length / 4 = 4 := by and_intros <;> decide +kernel

/-- A departure on route 7 whose last cell, the last 64 bytes of SRAM, is due in this beat. -/
def dep : Departure := ⟨0, true, 255, 7, 0xFFFFF, 2, 3, 0x17FF80, 1, 3, false⟩
def sTap : State := { sSend 0 with clusters := [(0, { Cluster.zero with deps := [dep] })] }
theorem witness_TapWork : (sTap.cluster 0).deps = [dep] ∧ dep.done < dep.n ∧ rtShare (sTap.route dep.route) ≤ 1 ∧
    dep.dep + dep.done = sTap.clk.beat ∧ dep.issue ≤ sTap.clk.beat ∧ rtOut (sTap.route dep.route) = [2] ∧
    rtLand (sTap.route dep.route) = false ∧ (sTap.port 2).slip.length < 64 ∧ (sTap.port 2).holdsNone = false ∧
    sTap.banksFree 0 (0x17FF80 + 64) 64 = true ∧ (sTap.coreN 0).sramErr = [] ∧ (sTap.cluster 0).tapOut < 8 * (sTap.clk.beat + 1) := by and_intros <;> decide +kernel
def landing : Landing := ⟨4, 7, 0x17FFC0, 64, 0xFF#512, 255, 2, 16383, .cell (some 2) 5⟩
def sLand : State := { regs [] with clusters := [(0, { Cluster.zero with landQ := [landing] })] }
theorem witness_TapWork_landing : sLand.pan.fenced = false ∧ (sLand.cluster 0).landQ = [landing] ∧ landing.due ≤ sLand.clk.beat ∧
    sLand.banksFree 7 0x17FFC0 64 = true ∧ (sLand.coreN 7).sramErr = [] ∧ sLand.cel.wbSram = [] ∧
    (sLand.cluster 0).tapIn < 8 * (sLand.clk.beat + 1) ∧
    ({ regs [] with pan := { Pantry.zero with fenced := true } }).pan.fenced = true := by and_intros <;> decide +kernel

/-! Ports -/

/-- Port 0 as given, and port 2 up. -/
def lit (q : Machine.Port) : State := { regs [] with ports := [(0, q), (2, { Port.zero with state := 7 })] }
/-- A port up at width 3, its slots of the beat as `slotsOf` says. -/
def up : Machine.Port := { Port.zero with ctl := 0x98020064#32, state := 7, width := 3 }
def cellA : Cell := ⟨0#2, 0x70#40, 0x55#512⟩
def mark (n : Nat) : Replay := ⟨2047, cellA, 0, 15, some n⟩
def entry : TxEntry := ⟨cellA, 4, 4, 4, 9, false⟩

theorem witness_TransmitSlots_dark : (lit Port.zero |>.port 0).state < 3 := by decide
theorem witness_TransmitSlots : (lit up |>.port 0).state = 7 ∧ slotsOf 1 (7 - 0) = 1 ∧ [0#592].length = 1 ∧ (List.replicate 14 (0#592)).length < 15 := by
  decide +kernel
/-- In beat 7 of a link of width 1, with frames of 1 and 14 slots: a due mark, a cell to send, nothing to send. -/
def slotState (n : Nat) (r : List Replay) (l : List TxEntry) : State :=
  { lit { up with width := 1, frame := List.replicate n (0#592), replay := r, slip := l, nextSeq := 2047 } with
    clk := { Clk.reset with beat := 7, aligned := true } }
theorem witness_TransmitSlots_again : (slotState 1 [mark 7] [entry] |>.port 0).inbound = [] ∧
    slotsOf (slotState 1 [mark 7] [entry] |>.port 0).width 7 = 1 ∧ (slotState 1 [mark 7] [entry] |>.port 0).replay = [mark 7] ∧
    (mark 7).marked = some 7 ∧ (slotState 1 [mark 7] [entry] |>.port 0).frame.length = 1 := by decide +kernel
theorem witness_TransmitSlots_new : (slotState 14 [mark 8] [entry] |>.port 0).inbound = [] ∧ (mark 8).marked ≠ some 7 ∧
    (slotState 14 [mark 8] [entry] |>.port 0).slip = [entry] ∧ (slotState 14 [mark 8] [entry] |>.port 0).held = false ∧
    (slotState 14 [mark 8] [entry] |>.port 0).excluded = false ∧ (slotState 14 [mark 8] [entry] |>.port 0).replay.length < 1024 ∧
    (slotState 14 [mark 8] [entry]).clk.aligned = true ∧ (slotState 14 [mark 8] [entry] |>.port 0).frame.length < 15 := by decide +kernel
theorem witness_TransmitSlots_none : (slotState 14 [] [] |>.port 0).replay = [] ∧ (slotState 14 [] [] |>.port 0).slip = [] ∧
    (slotState 14 [] [] |>.port 0).rplQ = [] ∧ (slotState 14 [] [] |>.port 0).reqQ = [] ∧ (slotState 14 [] [] |>.port 0).idleAt = [] := by decide +kernel

/-- A cell of sequence number `seq` on route 9 with class `cls`. -/
def rxCell (ok : Bool) (cls seq : Nat) : RxCell := ⟨ok, false, 4, BitVec.ofNat 80 (cls * 2 ^ 78 + seq * 2 ^ 67 + 9 * 2 ^ 4), 0x77#512⟩
def relay (q : Machine.Port) : State :=
  { lit q with tt := { Timetable.zero with length := 1000, routes := [(9, 0x80100000#32)] } }
theorem witness_ReleasedCells_idle : (relay up |>.port 0).rx = [] := by decide
def failed : State := relay { up with rx := [rxCell false 0 0] }
theorem witness_ReleasedCells_failed : (failed.port 0).rx = [rxCell false 0 0] ∧ (rxCell false 0 0).rel ≤ failed.clk.beat ∧
    (rxCell false 0 0).ok = false := by decide +kernel
theorem witness_ReleasedCells_null : (rxCell true 3 0).ok = true ∧ fld (rxCell true 3 0).hdr 79 78 = 3 ∧ fld (rxCell true 3 0).hdr 39 36 ≠ 1 ∧
    (relay { up with rx := [rxCell true 3 0] } |>.port 0).rx = [rxCell true 3 0] := by decide +kernel
def dup : State := relay { up with rx := [rxCell true 0 2047], rxCum := 0, rxMarks := [1023] }
theorem witness_ReleasedCells_duplicate : (dup.port 0).rx = [rxCell true 0 2047] ∧ fld (rxCell true 0 2047).hdr 79 78 ≠ 3 ∧
    (dup.port 0).replay = [] ∧ fld (rxCell true 0 2047).hdr 66 56 = (dup.port 0).ackCum ∧
    precedes (fld (rxCell true 0 2047).hdr 77 67) (dup.port 0).rxCum = true ∧ 1023 ∈ (dup.port 0).rxMarks := by decide +kernel
def next : State := relay { up with rx := [rxCell true 0 2047], rxCum := 2047, expect := 2047 }
theorem witness_ReleasedCells_next : (next.port 0).rx = [rxCell true 0 2047] ∧ fld (rxCell true 0 2047).hdr 77 67 = (next.port 0).rxCum ∧
    (next.port 0).expect = 2047 ∧ (next.port 0).rxMarks = [] ∧ fld (rxCell true 0 2047).hdr 79 78 = 0 ∧ rtValid (next.route 9) = true ∧
    rtRole (next.route 9) = 0 ∧ rtIn (next.route 9) = 0 ∧ rtLand (next.route 9) = false ∧ rtOut (next.route 9) = [2] ∧
    (next.port 2).holdsNone = false := by decide +kernel

/-- Beat 512 and beat 4,096. -/
def lateAt (b : Nat) (q : Machine.Port) : State := { lit q with clk := { Clk.reset with beat := b } }
def timed : Machine.Port := { up with replay := [⟨3, cellA, 0, 15, none⟩], outst := [0], window := 4, keyed := true, txCtr := 2 ^ 40, rxCtr := 2 ^ 40 }
theorem witness_PortTimers : (lateAt 512 timed |>.port 0).lastNonNull + 512 ≤ (lateAt 512 timed).clk.beat ∧ 512 ∉ (lateAt 512 timed |>.port 0).idleAt ∧
    (lateAt 511 timed).clk.beat < (lateAt 511 timed |>.port 0).lastNonNull + 512 ∧
    (lateAt 1024 timed |>.port 0).timerBase + 1024 ≤ (lateAt 1024 timed).clk.beat ∧ (lateAt 4096 timed |>.port 0).outst = [0] ∧
    0 + 4096 ≤ (lateAt 4096 timed).clk.beat ∧ 3 < (lateAt 4096 timed |>.port 0).window ∧ (lateAt 0 timed |>.port 0).keyed = true ∧
    2 ^ 40 ≤ (lateAt 0 timed |>.port 0).txCtr ∧ 2 ^ 40 ≤ (lateAt 0 timed |>.port 0).rxCtr ∧ (lateAt 0 up |>.port 0).txCtr < 2 ^ 40 := by
  and_intros <;> decide +kernel

/-- A bypass cell of a type with body `w`, in hand since beat 0. -/
def byp (type : Nat) (w : Nat) : BypRx := ⟨0, 5#64, 0#65, BitVec.ofNat 256 (type * 2 ^ 248 + w), true⟩
/-- It waits at port 0 in beat `b`; tracing with beacons is on. -/
def bypAt (b : Nat) (x : BypRx) : State :=
  { lit { up with bypRx := [x] } with clk := { Clk.reset with beat := b }, dbg := { Dbg.reset with ctl := 0xA1000000#32 } }
def barrier : BypRx := byp 1 (1 * 2 ^ 8)
theorem witness_BypassCells_barrier : (bypAt 98 barrier |>.port 0).bypRx = [barrier] ∧ barrier.rel + 98 ≤ (bypAt 98 barrier).clk.beat ∧
    bypType barrier.cell = 1 ∧ fld (bypBody barrier.cell) 11 8 = 1 ∧ fld (bypBody barrier.cell) 3 2 ≠ 3 ∧
    fld (bypBody barrier.cell) 27 12 = (bypAt 98 barrier).tt.index.toNat % 2 ^ 16 ∧ fld (bypBody barrier.cell) 39 28 = (bypAt 98 barrier).tt.desc ∧
    (bypAt 98 barrier).pan.fenced = false ∧ (bypAt 98 barrier).tt.state ≠ 3 ∧ fld (bypBody (byp 1 0).cell) 11 8 = 0 := by
  and_intros <;> decide +kernel
def freezeX : BypRx := byp 2 (0xFFF * 2 ^ 180 + 7 * 2 ^ 160 + 8 * 2 ^ 156)
theorem witness_BypassCells_freeze : (bypAt 98 freezeX |>.port 0).bypRx = [freezeX] ∧ bypType freezeX.cell = 2 ∧
    fld (bypBody freezeX.cell) 191 180 = 0xFFF ∧ fld (bypBody freezeX.cell) 179 160 = 7 ∧ (0xFFF, 7) ∉ (bypAt 98 freezeX).dbg.seenFreeze ∧
    fld (bypBody freezeX.cell) 159 156 = 8 ∧ (bypAt 98 freezeX).frozen = none ∧ (bypAt 98 freezeX).dbg.cutAt = none ∧
    (0xFFF, 7) ∈ ({ Dbg.reset with seenFreeze := [(0xFFF, 7)] }).seenFreeze := by and_intros <;> decide +kernel
def stopX : BypRx := byp 4 (3 * 2 ^ 180 + 7 * 2 ^ 160 + 8 * 2 ^ 156)
theorem witness_BypassCells_stop : (bypAt 98 stopX |>.port 0).bypRx = [stopX] ∧ bypType stopX.cell = 4 ∧ (3, 7) ∉ (bypAt 98 stopX).dbg.seenStop ∧
    fld (bypBody stopX.cell) 159 156 = 8 ∧ (bypAt 98 stopX).stopped = false ∧ (bypAt 98 stopX).dbg.stopAt = none := by and_intros <;> decide +kernel
theorem witness_BypassCells_beacon : (bypAt 0 (byp 3 0) |>.port 0).bypRx = [byp 3 0] ∧ (byp 3 0).rel ≤ 0 ∧ bypType (byp 3 0).cell = 3 ∧
    bitOf (bypAt 0 (byp 3 0)).dbg.ctl 31 = true ∧ bitOf (bypAt 0 (byp 3 0)).dbg.ctl 24 = true ∧ (bypAt 0 (byp 3 0)).dbg.trace.length < 4096 := by
  and_intros <;> decide +kernel
/-- An FBC cell of root 0 at distance 253 and operating point 0; one of operating point 1. -/
def fbcX (op : Nat) : BypRx := byp 5 (253 * 2 ^ 108 + op * 2 ^ 105 + 2 ^ 104)
def free (x : BypRx) : State := { bypAt 0 x with hearth := Hearth.reset }
theorem witness_BypassCells_fbc : (free (fbcX 0) |>.port 0).bypRx = [fbcX 0] ∧ bypType (fbcX 0).cell = 5 ∧ bitOf (bypBody (fbcX 0).cell) 104 = true ∧
    fld (bypBody (fbcX 0).cell) 127 116 = (free (fbcX 0)).tim.root ∧ fld (bypBody (fbcX 0).cell) 107 105 = (free (fbcX 0)).clk.baseOp ∧
    fld (bypBody (fbcX 0).cell) 115 108 < 254 ∧ (free (fbcX 0)).clk.valid = false ∧ bitOf (free (fbcX 0)).tim.fbcCtl 30 = false ∧
    (free (fbcX 0)).job = none ∧ fld (bypBody (fbcX 1).cell) 107 105 ≠ (free (fbcX 1)).clk.baseOp := by and_intros <;> decide +kernel
theorem witness_SentBypassCells : (bypAt 0 barrier |>.port 0).state = 7 ∧ (bypAt 0 barrier |>.port 0).excluded = false ∧
    (bypAt 0 barrier |>.port 0).holdsNone = false ∧ bitOf (bypAt 0 barrier).dbg.ctl 29 = true ∧ bitOf (bypAt 0 barrier).dbg.ctl 31 = true ∧
    0 % 2 ^ fld (bypAt 0 barrier).dbg.ctl 18 14 = 0 ∧ bitOf (lit up).dbg.ctl 29 = false ∧
    (bypAt 0 barrier).tim.fbcSent.get 0 0 ≠ (bypAt 0 barrier).rbc / 2 ^ (bypAt 0 barrier).tim.period + 1 := by and_intros <;> decide +kernel

def sentF : SentFrame := ⟨2 ^ 40 + 5, 0#128, 0#72, 0#9600⟩
/-- Frame 5, all its parts. -/
def repair (type : Nat) : BypRx := byp type (5 * 2 ^ 152 + 0x3FFFF * 2 ^ 134)
theorem witness_FrameRepair_request : (bypAt 0 (repair 6) |>.port 0).bypRx = [repair 6] ∧ bypType (repair 6).cell = 6 ∧
    (bypAt 0 (repair 6) |>.port 0).holdsNone = false ∧ (bypAt 0 (repair 6) |>.port 0).sent = [] ∧
    sentF.fctr % 2 ^ 40 = fld (bypBody (repair 6).cell) 191 152 := by and_intros <;> decide +kernel
def pendF : PendFrame := ⟨5, 0#128, 0#128, 0#128, 0x3FFFF#18, 0, 2⟩
theorem witness_FrameRepair_answer : bypType (repair 7).cell = 7 ∧ (repair 7).ok = true ∧ pendF.fctr % 2 ^ 40 = fld (bypBody (repair 7).cell) 191 152 ∧
    fld (bypBody (repair 7).cell) 151 134 = pendF.mask.toNat ∧ pendF.mask.toNat ≠ 0 ∧
    pendF.tag = pendF.ekj0 ^^^ pendF.part ^^^ BitVec.ofNat 128 (fld (bypBody (repair 7).cell) 127 0) := by and_intros <;> decide +kernel
theorem witness_FrameRepair_timeout : pendF.asked + 1024 ≤ (lateAt 1024 { up with pend := [pendF] }).clk.beat ∧ pendF.tries < 3 ∧
    (lateAt 1024 { up with pend := [pendF] } |>.port 0).pend = [pendF] ∧ (lateAt 1023 { up with pend := [pendF] }).clk.beat < pendF.asked + 1024 := by
  and_intros <;> decide +kernel

/-! Training -/

/-- Port 0 in state `st` since wall time 0, all its lanes good, at wall time `w`. -/
def train (st w : Nat) : State :=
  let s := lit { up with state := st, stateAt := 0, lanesOk := 0xFFFF#16, backoff := 7, partNode := 1, hop := 0 }
  { s with clk := { s.clk with wall := w } }
theorem witness_TrainingStates_detect : (train 1 0 |>.port 0).state = 1 ∧ (train 1 0).clk.linkRun = true ∧ (train 2 0 |>.port 0).state ≠ 1 ∧
    (train 2 0 |>.port 0).state = 2 := by decide
/-- Lanes 0 to 7 and one of the upper eight: width 2 in group 0; lanes 1, 5, 9 and 13 bad: no group. -/
theorem witness_TrainingStates_align : (train 3 0 |>.port 0).state = 3 ∧ (train 3 0 |>.port 0).reqWidth < 4 ∧
    2 ≤ (train 3 0 |>.port 0).widthLimit 0 0 ∧ WholeGroup 0 ((train 3 0 |>.port 0).lanesOk &&& 0x01FF#16) 2 0 ∧
    ¬ WholeGroup 0 ((train 3 0 |>.port 0).lanesOk &&& 0x01FF#16) 3 0 :=
  ⟨by decide, by decide, by decide, by unfold WholeGroup; decide +kernel,
    fun h => absurd (h.2 15 (by decide)) (by decide)⟩
theorem witness_TrainingStates_narrow (w g : Nat) :
    ¬ WholeGroup 0 ((train 3 0 |>.port 0).lanesOk &&& 0#16) w g := by
  intro hw
  have := hw.2 0 (Nat.two_pow_pos _)
  have e : (train 3 0 |>.port 0).lanesOk &&& 0#16 = 0#16 := by decide
  rw [e] at this
  simp at this
theorem witness_TrainingStates_timeout : (train 6 0 |>.port 0).stateAt + quUs 50 ≤ (train 6 (quUs 50)).clk.wall ∧
    (train 6 (quUs 50 - 1)).clk.wall < (train 6 0 |>.port 0).stateAt + quUs 50 ∧ (train 10 7 |>.port 0).state = 10 ∧
    (train 10 7 |>.port 0).backoff ≤ (train 10 7).clk.wall ∧ (train 10 6).clk.wall < (train 10 6 |>.port 0).backoff := by decide +kernel
/-- The capabilities of the module at the far end of XP: its port XN of node 1. -/
def msgOk (proto : Nat) : BitVec 128 := BitVec.ofNat 128 (1 * 2 ^ 46 + 1 * 2 ^ 42 + 1 * 2 ^ 26 + proto * 2 ^ 50 + 1 * 2 ^ 54 + 1 * 2 ^ 58 + 1 * 2 ^ 62 + 2 ^ 66)
theorem witness_TrainingMessages_caps : (train 4 0 |>.port 0).state = 4 ∧ (train 4 0).hearth.entropyOk = true ∧
    (train 4 0 |>.port 0).trained = false ∧ CapsFit (train 4 0) 0 (msgOk 1) ∧ 1 < fld (msgOk 2) 53 50 := by
  unfold CapsFit; and_intros <;> decide +kernel
theorem witness_TrainingMessages_measure : (train 6 0 |>.port 0).state = 6 ∧ fld (train 6 0 |>.port 0).limits 8 0 < max ((558 + 1) / 2) 0 + 1 ∧
    fld (train 6 0 |>.port 0).limits 8 0 < max ((559 + 1) / 2) 3 ∧ max ((558 + 1) / 2) 279 ≤ fld (train 6 0 |>.port 0).limits 8 0 ∧
    (train 5 0 |>.port 0).state = 5 := by decide +kernel
theorem witness_RetrainAndLinkDown : bitOf (train 7 0 |>.port 0).ctl 31 = true ∧ (lit { up with retrain := true } |>.port 0).state = 7 ∧
    (lit { up with retrain := true } |>.port 0).retrain = true ∧ ({ lit { up with retrain := true } with hearth := Hearth.reset }).quiet 0 = true ∧
    (train 7 0 |>.port 0).grace = none ∧ (train 0 0 |>.port 0).state = 0 := by decide +kernel
/-- A job that runs keeps the link busy below 65,536 beats. -/
def busy : State :=
  { lit { up with retrain := true } with
    hearth := { hearth with ctxs := [(0, { Ctx.zero with state := 3, job := 1, jobLoaded := true, jobRec := some job })] } }
theorem witness_RetrainAndLinkDown_busy : busy.quiet 0 = false := by decide +kernel
theorem witness_RetrainAndLinkDown_drain : (train 8 0 |>.port 0).state = 8 ∧ (train 8 0 |>.port 0).replay = [] ∧
    (lit { up with state := 8, replay := [mark 9] } |>.port 0).replay ≠ [] ∧
    (lit { up with state := 8, replay := [mark 9] }).clk.beat < (lit { up with state := 8, replay := [mark 9] } |>.port 0).stateBeat + 2048 ∧
    0 + 2048 ≤ (lateAt 2048 { up with state := 8, replay := [mark 9] }).clk.beat := by decide +kernel
def graced (w : Nat) : State :=
  let s := lit { up with state := 1, grace := some 7 }
  { s with clk := { s.clk with wall := w } }
theorem witness_RetrainAndLinkDown_grace : (graced 7 |>.port 0).grace = some 7 ∧ (graced 7 |>.port 0).state ≠ 7 ∧ (graced 7 |>.port 0).state ≠ 8 ∧
    (graced 6).clk.wall < 7 ∧ 7 ≤ (graced 7).clk.wall ∧ (graced 7 |>.port 0).reqQ = [] ∧ (graced 7 |>.port 0).rplQ = [] ∧
    (graced 7 |>.port 0).replay = [] ∧ (graced 7 |>.port 0).pend = [] := by decide +kernel
def offPort (g : Nat) : Machine.Port := { Port.zero with limits := BitVec.ofNat 32 g }
/-- At the longest latency that the reset credits cover, and one past it; a grace of 10 and of 9. -/
theorem witness_PortEnable : bitOf (Port.zero).ctl 31 = false ∧ bitOf (0x9802000A#32) 31 = true ∧ bitOf (0x9802000A#32) 30 = false ∧
    bitOf (0x9802000A#32) 29 = false ∧ fld (0x9802000A#32) 28 27 = 3 ∧ ¬ fld (0x9802000A#32) 16 0 < 10 ∧ fld (0x9802000A#32) 24 17 ≠ 0 ∧
    fld (offPort 279).panCtl 27 23 = 16 ∧ fld (offPort 279).panCtl 22 12 + fld (offPort 279).panCtl 11 0 ≤ 2048 ∧
    fld (offPort 279).schedCtl 11 0 + fld (offPort 279).schedCtl 23 12 ≤ 2048 ∧
    ¬ 4 * fld (offPort 279).schedCtl 11 0 < 12 * (2 * 279 + 8) ∧ ¬ 64 * fld (offPort 279).panCtl 22 12 < 16 * (12 * (2 * 279 + 8)) ∧
    4 * fld (offPort 280).schedCtl 11 0 < 12 * (2 * 280 + 8) ∧ fld (0x98020009#32) 16 0 < 10 ∧ bitOf (0x00000000#32) 31 = false ∧
    (train 1 0 |>.port 0).grace = none ∧ bitOf (train 1 0 |>.port 0).ctl 31 = true := by decide +kernel

/-- A chain of a device and an intermediate under a root whose digest the ROM holds. -/
def g512 : BitVec 512 := BitVec.ofNat 512 (p256gx * 2 ^ 256 + p256gy)
def sigX : BitVec 512 := BitVec.ofNat 512 (p256gx * 2 ^ 256 + p256gx)
/-- The far end: its ephemeral key of private key 3, its identity key of private key 2, its signature (RFC 6979) of the digest of R214. -/
def keysState : State := lit { up with state := 5, ephKey := 1#256, partNode := 1, txSid := 7#32, capOwn := 0#128, capPart := 0#128 }
def idPub : BitVec 512 := 0x7cf27b188d034f7e8a52380304b51ac3c08969e277f21b35a60b48fc4766997807775510db8ed040293d9ac69f7430dbba7dade63ce982299e04b79d227873d1#512
def keysSig : BitVec 512 := 0xdb273f38d1d8de675fdbed153c646480327c5f9e4cf11fd56a2925dbc3af56c9cceab2cbf80e58d6a5c740482f03af25240470c4e47b60bea1bbfda12e7135dc#512
theorem witness_TrainingMessages_keys : (keysState.port 0).state = 5 ∧ keysState.nodeId < (keysState.port 0).partNode ∧
    pubOk (pubX (pubOf 3)) (pubY (pubOf 3)) = true := by and_intros <;> decide +kernel
theorem witness_TrainingMessages_signature : ecdsaVerify idPub (keysDigest (keysState.port 0).capOwn (keysState.port 0).capPart
    (pubOf (keysState.port 0).ephKey.toNat) (pubOf 3) (keysState.port 0).txSid 9#32) keysSig = true := by decide +kernel
def farChain : List Cert := [⟨idPub, [], 0#256, sigX, 0, 0, []⟩, ⟨g512, [], 0#256, sigX, 0, 0, []⟩]
def rootedState : State := { keysState with flash := { keysState.flash with rootKey := g512 } }
theorem farChain_signed : chainSigned g512 farChain = true := by decide +kernel
theorem rooted_of {s : State} {chain : List Cert} (h : sha256 (beBytes 64 s.flash.rootKey.toNat) = Config.rootDigest.toNat)
    (h2 : chain.length = 2) (h3 : chainSigned s.flash.rootKey chain = true) : s.chainRooted chain = true := by
  unfold State.chainRooted; rw [h, h2, h3]; simp
theorem witness_TrainingMessages_chain (h : sha256 (beBytes 64 g512.toNat) = Config.rootDigest.toNat) :
    rootedState.chainRooted farChain = true := rooted_of (s := rootedState) h rfl farChain_signed
theorem witness_TrainingMessages_unproved : rootedState.chainRooted [] = false := by
  unfold State.chainRooted; simp

/-! Epochs and stewards -/

/-- Epoch state `st`, the RBC at 1,999 and the start at S = 1,000 with L = 1,000 and Δ = 0; the FBC valid or not. -/
def epoch (st rbc : Nat) (valid : Bool) : State :=
  let s := regs []
  { s with
    clk := { s.clk with rbcHalf := BitVec.ofNat 65 (2 * rbc), valid := valid, beat := 2000 }
    tt := { s.tt with state := st, start := 1000#64, length := 1000, epochs := [(0, 999#64)] }
    clusters := [(0, { Cluster.zero with stw := { Steward.zero with run := .finished } })] }
theorem witness_EpochsStart : (epoch 4 2000 true).tt.state = 4 ∧ (epoch 4 2000 true).pan.fenced = false ∧ (epoch 4 2000 true).clk.valid = true ∧
    (epoch 4 2000 true).tt.start.toNat + ((epoch 4 2000 true).tt.length + (epoch 4 2000 true).tt.lateness) = 2000 ∧
    2000 ≤ (epoch 4 2000 true).clk.rbcHalf.toNat / 2 ∧ (epoch 4 1999 true).clk.rbcHalf.toNat / 2 < 2000 ∧
    1000 ≤ (epoch 1 1000 true).clk.rbcHalf.toNat / 2 ∧ (epoch 1 0 true).tt.state = 1 ∧ (epoch 4 0 false).clk.valid = false ∧
    (epoch 4 0 false).hearth.running = some 0 := by and_intros <;> decide +kernel
theorem witness_BarrierReadiness : (epoch 4 0 true).tt.state ≠ 2 ∧ (epoch 2 0 true).tt.state = 2 ∧ (epoch 2 0 true).pan.fenced = false ∧
    (∀ k ∈ (epoch 2 0 true).jobClusters, ((epoch 2 0 true).cluster k).stw.run = .finished) ∧
    (∀ p ∈ List.range 6, ((epoch 2 0 true).port p).slip = [] ∧ ((epoch 2 0 true).port p).inbound = [] ∧
      (epoch 2 0 true).storeUsed p = ((epoch 2 0 true).port p).resSched ∧ ((epoch 2 0 true).port p).replay = []) ∧
    (epoch 2 0 true).clk.capTarget = none ∧ (∀ a ∈ List.range 3, ((epoch 2 0 true).line a).1 = 1 ∧ ((epoch 2 0 true).line a).2.1 = 0) ∧
    (epoch 2 0 true).tt.stopNext = false ∧ (epoch 2 0 true).tt.pauseNext = false := by and_intros <;> decide +kernel
/-- A block of two modules in x. -/
def pair : State := { epoch 2 0 true with pan := { Pantry.zero with jobBlock := [(0, 0x80010000#32)] } }
theorem witness_BarrierReadiness_pair : 1 < (pair.line 0).1 ∧ 1 ≠ (pair.line 0).2.1 ∧ (∀ h ∈ pair.tt.heard, h.1 = 0 → h.2.1 ≠ 1) := by
  and_intros <;> decide +kernel
def waiting (w : Nat) : State := { epoch 3 0 true with clk := { Clk.reset with wall := w } }
theorem witness_BarrierTimeout : (waiting 0).tt.state = 3 ∧ 0x0712 * 16 + 8 ∉ (waiting 0).tt.seenEvents ∧ (waiting 0).stopped = false ∧
    (waiting 0).tt.readyAt + quUs (min (max (fld (waiting 0).tt.ctl 16 0) 10) 100000) ≤ (waiting (quUs 1000)).clk.wall ∧
    (waiting (quUs 1000 - 1)).clk.wall < (waiting 0).tt.readyAt + quUs (min (max (fld (waiting 0).tt.ctl 16 0) 10) 100000) := by
  and_intros <;> decide +kernel

/-- A command of kind `n` with arguments `w`. -/
def cmd (n w : Nat) : BitVec 256 := BitVec.ofNat 256 (n * 2 ^ 216 + w)
/-- The Cellar with block 0 sealed for context 0 under the secret `z`, its region enabled. -/
def celZ (z : BitVec 256) : Cellar :=
  { Cellar.reset with
    ready := true, keys := [(0, ⟨true, 0#8, z⟩)], regions := [(0, BitVec.ofNat 128 (2 ^ 127 + 0x1FFFFF * 2 ^ 64))]
    blocks := [(0, some ⟨0#2048, BitVec.ofNat 64 (hbmTag z 0 0#8 0 (leBytes 256 (0#2048).toNat))⟩)] }
/-- Steward 0 at that command, the last of its store, in a run state; its core's SRAM and program as given, HBM block 0 sealed for context 0. -/
def stw (n w : Nat) (r : StewardRun) : State :=
  { run Core.zero with
    clk := { Clk.reset with cluRun := [0], beat := 4, celRun := true }
    pan := { Pantry.zero with enable := true, ranks := [(7, 0x80000000#32)] }
    hearth := { hearth with ctxs := [(0, { Ctx.zero with state := 3, jobLoaded := true, jobRec := some { job with progs := [⟨7, 255, 0, 48⟩] } })] }
    cel := celZ 0#256
    clusters := [(0, { Cluster.zero with stw := { Steward.zero with store := [(8191, cmd n w)], pos := 8191, run := r } })] }
def Begins (s : State) (n : Nat) : Bool :=
  let t := (s.cluster 0).stw
  t.run == .ready && !t.halted && cmdKind t.cmd == n && s.clk.cluRun.contains 0 && !s.pan.fenced && s.breakHit 0 == none
theorem Begins.stwBegins {s : State} {n : Nat} (h : Begins s n = true) : StwBegins s 0 n := by
  simp only [Begins, Bool.and_eq_true, beq_iff_eq, Bool.not_eq_true', List.contains_iff_mem] at h
  exact ⟨h.1.1.1.1.1, h.1.1.1.1.2, h.1.1.1.2, h.1.1.2, h.1.2, h.2⟩

/-- Program 255 to core 7: mask 0x80 in 191:184, program in 183:176. -/
def sLoadP : State := stw 1 (0x80 * 2 ^ 184 + 255 * 2 ^ 176) .ready
theorem witness_LoadProgram : StwBegins sLoadP 0 1 ∧ maskCores 0 (cmdArgs (sLoadP.cluster 0).stw.cmd) = [7] ∧ (sLoadP.coreN 7).mayLoad = true ∧
    ((sLoadP.job.map (fun j => j.progs)).getD []).find? (fun p => p.core == 7 && p.num == fld (cmdArgs (sLoadP.cluster 0).stw.cmd) 183 176) =
      some ⟨7, 255, 0, 48⟩ ∧ sLoadP.cel.symErr = [] ∧ sLoadP.hearth.running.getD 0 = 0 ∧ ({ Core.zero with run := .running }).mayLoad = false :=
  ⟨Begins.stwBegins (by decide +kernel), by decide +kernel, by decide +kernel, by decide +kernel, by decide +kernel, by decide +kernel, by decide +kernel⟩
theorem hbmTag_lt (z : BitVec 256) (c : Nat) (e : Byte) (b : Nat) (ct : List Byte) : hbmTag z c e b ct < 2 ^ 56 := by
  unfold hbmTag; exact Nat.mod_lt _ (by decide)
theorem pair_zero {α : Type} (p : α × Nat) (h : p.2 = 0) : ∃ a, p = (a, 0) := ⟨p.1, by rw [← h]⟩
theorem read_of {s : State} {z : BitVec 256} {c : BitVec 2048} (ha : s.hbmAllowed 0 0 48 = true) (hs : s.cel.symErr = [])
    (hk : s.cel.keys.get KeySet.zero 0 = ⟨true, 0#8, z⟩)
    (hc : s.cel.block 0 = ⟨c, BitVec.ofNat 64 (hbmTag z 0 0#8 0 (leBytes 256 c.toNat))⟩) : ∃ bs, (s.hbmRead 0 0 48).2 = (bs, 0) := by
  have hb : s.hbmRaw 0 = (s, some (leBytes 256 c.toNat, (BitVec.ofNat 64 (hbmTag z 0 0#8 0 (leBytes 256 c.toNat))).toNat)) := by
    unfold State.hbmRaw; rw [if_pos hs, hc]
  generalize leBytes 256 c.toNat = ct at hb
  have ht := hbmTag_lt z 0 0#8 0 ct
  have h1 : (s.hbmBlock 0 0).2.2 = 0 := by
    unfold State.hbmBlock
    rw [hb]
    simp only [hk, BitVec.toNat_ofNat]
    rw [Nat.mod_eq_of_lt (a := hbmTag _ _ _ _ _) (by omega), if_neg (by simp; omega), if_neg (by simp; omega)]
  apply pair_zero
  unfold State.hbmRead
  rw [ha]
  have h2 : (List.range ((0 + 48 - 1) / 256 - 0 / 256 + 1)) = [0] := rfl
  simp only [Bool.not_true, Bool.false_eq_true, if_false, h2, List.foldl_cons, List.foldl_nil]
  simp [h1]
theorem witness_LoadProgram_read : ∃ bs, (sLoadP.hbmRead 0 0 48).2 = (bs, 0) :=
  read_of (z := 0#256) (c := 0#2048) (by decide +kernel) rfl rfl rfl
/-- START of core 7 at epoch beat 5 and 4, and of a core that waits for its beat. -/
def sStart (beat : Nat) : State := stw 2 (0x80 * 2 ^ 184 + beat * 2 ^ 160) .ready
theorem witness_Start : StwBegins (sStart 5) 0 2 ∧ maskCores 0 (cmdArgs ((sStart 5).cluster 0).stw.cmd) = [7] ∧ ((sStart 5).coreN 7).mayStart = true ∧
    (sStart 5).clk.beat < (sStart 5).tt.beat0 + fld (cmdArgs ((sStart 5).cluster 0).stw.cmd) 183 160 ∧ StwBegins (sStart 4) 0 2 ∧
    (sStart 4).tt.beat0 + fld (cmdArgs ((sStart 4).cluster 0).stw.cmd) 183 160 ≤ (sStart 4).clk.beat :=
  ⟨Begins.stwBegins (by decide +kernel), by decide +kernel, by decide +kernel, by decide +kernel, Begins.stwBegins (by decide +kernel), by decide +kernel⟩
theorem witness_CoreStart : ((run { Core.zero with start := some 4 }).core c0).start = some 4 ∧ (4 < 5) ∧
    (run { Core.zero with start := some 4 }).stwIn 0 2 = false ∧ 0 ∈ (run { Core.zero with start := some 4 }).clk.cluRun ∧
    4 ≤ (run { Core.zero with start := some 4 }).clk.beat := by and_intros <;> decide +kernel
/-- WAIT for counter 0 of core 0 to reach 0x80000000, which 0 has reached, and 1, which it has not. -/
def sWait (target : Nat) (r : StewardRun) : State := stw 3 (target * 2 ^ 149) r
theorem witness_Wait : StwBegins (sWait 1 .ready) 0 3 ∧ ((sWait 1 .waiting).cluster 0).stw.run = .waiting ∧
    cmdKind ((sWait 1 .waiting).cluster 0).stw.cmd = 3 ∧ 2 ^ 31 ≤ (0 + 2 ^ 32 - 1) % 2 ^ 32 ∧ (0 + 2 ^ 32 - 0x80000001) % 2 ^ 32 < 2 ^ 31 ∧
    fld (cmdArgs ((sWait 0x80000001 .waiting).cluster 0).stw.cmd) 180 149 = 0x80000001 :=
  ⟨Begins.stwBegins (by decide +kernel), by decide +kernel, by decide +kernel, by decide +kernel, by decide +kernel, by decide +kernel⟩
theorem witness_Mover : StwBegins (stw 4 (3 * 2 ^ 60) .ready) 0 4 ∧ mvFormOk (cmdArgs ((stw 4 (3 * 2 ^ 60) .ready).cluster 0).stw.cmd) = true ∧
    ((stw 4 (3 * 2 ^ 60) .ready).cluster 0).movQ.length < 16 ∧ cmdKind ((stw 4 (3 * 2 ^ 60) .waiting).cluster 0).stw.cmd = 4 ∧
    16 ≤ (List.replicate 16 (⟨0, 0#192, 0#16, 0#16, 0⟩ : MoverCmd)).length :=
  ⟨Begins.stwBegins (by decide +kernel), by decide +kernel, by decide +kernel, by decide +kernel, by decide +kernel⟩
/-- A PUT of rank 7, 8 bytes from the end of SRAM. -/
def sPantry : State := stw 5 (7 * 2 ^ 176 + 1 * 2 ^ 132 + 0x17FFF8 * 2 ^ 100 + 7 * 2 ^ 88) .ready
theorem witness_StewardPantry : StwBegins sPantry 0 5 ∧ bitOf (sPantry.pan.ranks.get 0#32 7) 31 = true ∧ sPantry.ownWork = true ∧
    fld (cmdArgs (sPantry.cluster 0).stw.cmd) 191 176 = 7 ∧ fld (cmdArgs (sPantry.cluster 0).stw.cmd) 135 132 = 1 ∧
    fld (cmdArgs (sPantry.cluster 0).stw.cmd) 99 88 + 1 = 8 ∧ fld (cmdArgs (sPantry.cluster 0).stw.cmd) 120 100 + 8 = 0x180000 ∧
    fld (cmdArgs (sPantry.cluster 0).stw.cmd) 175 136 % 8 = 0 ∧ fld (sPantry.pan.ranks.get 0#32 7) 15 0 * 2 ^ 24 < 2 ^ 40 :=
  ⟨Begins.stwBegins (by decide +kernel), by decide +kernel, by decide +kernel, by decide +kernel, by decide +kernel, by decide +kernel, by decide +kernel,
    by decide +kernel, by decide +kernel⟩
theorem witness_Stream : StwBegins (stw 6 (7 * 2 ^ 186) .ready) 0 6 ∧ fld (cmdArgs ((stw 6 (7 * 2 ^ 186) .ready).cluster 0).stw.cmd) 191 189 = 0 ∧
    (∀ j ∈ List.range 8, bitOf ((stw 6 (7 * 2 ^ 186) .ready).strm j) 127 = false) ∧ StwBegins (stw 6 (2 ^ 189) .ready) 0 6 ∧
    fld (cmdArgs ((stw 6 (2 ^ 189) .ready).cluster 0).stw.cmd) 191 189 = 1 ∧ StwBegins (stw 7 0 .ready) 0 7 :=
  ⟨Begins.stwBegins (by decide +kernel), by decide +kernel, by decide +kernel, Begins.stwBegins (by decide +kernel), by decide +kernel,
    Begins.stwBegins (by decide +kernel)⟩

/-! The Pantry class -/

theorem witness_PantryEnables : State.reset.pan.enable = false := rfl
/-- A node map with node 1 at node 0's place fails the check of R228. -/
def mapped (l : SMap W16) : State := { State.reset with pan := { Pantry.zero with nodeMap := l } }
/-- A window on the last SRAM chunk of core 0 for context 0, in `l`. -/
def win (lo hi ctx : Nat) : BitVec 128 := BitVec.ofNat 128 (lo + hi * 2 ^ 64 + ctx * 2 ^ 123)
def winState (v : BitVec 128) (l : SMap (BitVec 128)) : State := { sPan with pan := { Pantry.zero with win := (0, v) :: l } }
theorem witness_PanWinEnable : bitOf (win 0xF00017FFC0 0xF00017FFFF 0) 127 = false ∧ 0xF00017FFC0 % 64 = 0 ∧ (0xF00017FFFF + 1) % 64 = 0 ∧
    (winState (win 0xF00017FFC0 0xF00017FFFF 0) []).rangeMapped 0xF00017FFC0 0xF00017FFFF = true ∧
    (winState (win 0xF00017FFC0 0xF00018003F 0) []).rangeMapped 0xF00017FFC0 0xF00018003F = false ∧ ¬ (0xF00017FFC0 < 0x8B80000000) ∧
    bitOf (win 0xF000000000 0xF00017FFFF 0 + BitVec.ofNat 128 (2 ^ 127)) 127 = true ∧ 0x8B7FFFFFC0 < 0x8B80000000 ∧
    (winState (win 0x8B7FFFFFC0 0x8B7FFFFFFF 0) []).inRegions 0 0x8B7FFFFFC0 64 = false := by and_intros <;> decide +kernel
def blockState (b : W32) (state : Nat) (topo : W32) : State :=
  { State.reset with
    pan := { Pantry.zero with jobBlock := [(0, b)], topoCtl := topo }
    hearth := { Hearth.reset with ctxs := [(0, { Ctx.zero with state := state })] } }
/-- A block of one module; one that ends past a line of 16; one across two racks of a machine of more. -/
theorem witness_CtxJobBlockEnable : (∀ a ∈ List.range 3, 0 < (blockState 0 2 0x7FFF).ring a) ∧ ((blockState 0 2 0x7FFF).ctx 0).state = 2 ∧
    (blockState 0 2 0x7FFF).inBlock 0x80000000#32 ((blockState 0 2 0x7FFF).nodeEntry 0) = true ∧ ((blockState 0 0 0x7FFF).ctx 0).state = 0 ∧
    (blockState 0x00010000 2 0).ring 0 < 2 ∧ bitOf (blockState 0x00040000 2 0x7FFF).pan.topoCtl 16 = false ∧
    (0 + 4) % (blockState 0x00040000 2 0x7FFF).ring 0 / 4 ≠ 0 / 4 ∧ 4 < fld (0x00040000#32) 19 16 + 1 := by and_intros <;> decide +kernel

/-- A request of operation `op` on the last bytes of core 0's SRAM. -/
def request (op len : Nat) : RxPan :=
  ⟨4, 2, ⟨1#2, BitVec.ofNat 40 (0 * 2 ^ 28 + 1 * 2 ^ 16 + 5), BitVec.ofNat 512 (0xF00017FFF8 + op * 2 ^ 40 + (len - 1) * 2 ^ 48 + 9 * 2 ^ 64)⟩, []⟩
def reqState (x : RxPan) (w : SMap (BitVec 128)) : State := { sPan with pan := { Pantry.zero with enable := true, inReq := [x], serving := [x], win := w } }
def openWin : BitVec 128 := win 0xF000000000 0xF00017FFFF 0 + BitVec.ofNat 128 (2 ^ 127 + 0xF * 2 ^ 119)
theorem witness_PantryTarget : (reqState (request 1 8) []).pan.inReq = [request 1 8] ∧ (request 1 8).elig ≤ (reqState (request 1 8) []).clk.beat ∧
    (3 < (request 1 8).elig) ∧ (∀ g ∈ (reqState (request 1 8) []).pan.gather, g.node ≠ (request 1 8).cell.src) ∧
    (reqState (request 1 8) []).pan.win = [] := by and_intros <;> decide +kernel
theorem witness_PantryTarget_admitted : Admitted (reqState (request 1 8) [(0, openWin)]) (request 1 8).cell :=
  ⟨by decide +kernel, by decide +kernel, by decide +kernel, by decide +kernel, (0, openWin), by decide +kernel, by decide +kernel, by decide +kernel, by decide +kernel,
    by decide +kernel, by decide +kernel, .inl (by decide +kernel)⟩
theorem witness_PantryTarget_access : (reqState (request 5 8) []).pan.serving = [request 5 8] ∧
    (reqState (request 5 8) []).tapRoom 0 false ≠ 0 ∧ (reqState (request 5 8) []).tapRoom 0 true ≠ 0 ∧ (reqState (request 5 8) []).cel.wbSram = [] ∧
    (reqState (request 5 8) []).localOf (fld (request 5 8).cell.word 39 0) = .sram 0 0x17FFF8 ∧ ((reqState (request 5 8) []).coreN 0).sramErr = [] ∧
    (reqState (request 5 8) []).banksFree 0 0x17FFF8 8 = true ∧ fld (request 5 8).cell.word 43 40 = 5 := by and_intros <;> decide +kernel

/-- A GET of 8 bytes of node 1 to the end of core 0's SRAM, its engine 0, port 0 up. -/
def getOp (opc : Nat) : EngOp := ⟨3, 0, ⟨0, 0, false, opc, 1 * 2 ^ 40, 0, 0x17FFF8, 8, 0, 255, 0, 0#512, 0, 0, 0, 0⟩, 0, none⟩
def askState (x : EngOp) (p : List Piece) (r : List RxPan) : State :=
  { run Core.zero with pan := { Pantry.zero with ops := [x], pieces := p, inRpl := r }, ports := [(0, { Port.zero with state := 7 })] }
theorem witness_PantryRequester_open : (askState (getOp 0x10) [] []).pan.ops = [getOp 0x10] ∧ (getOp 0x10).next < (getOp 0x10).op.n ∧
    (askState (getOp 0x10) [] []).ownWork = false ∧ (askState (getOp 0x10) [] []).freeSlot 0 = some 0 ∧
    (askState (getOp 0x10) [] []).pantryNext ((getOp 0x10).op.p / 2 ^ 40 % 4096) 1 true = .port 0 ∧
    ((askState (getOp 0x10) [] []).port 0).usable = true ∧ (∀ y ∈ (askState (getOp 0x10) [] []).pan.pieces, y.need ≤ y.have_) := by and_intros <;> decide +kernel
def full (opc : Nat) : EngOp := { getOp opc with next := 8 }
def piece (k : PieceKind) : Piece := ⟨64, 3, k, 0, 8, [], 0, [], 0, 0, 0, none⟩
def reply (rid : Nat) (w : Nat) : RxPan := ⟨4, 0, ⟨2#2, BitVec.ofNat 40 (1 * 2 ^ 16 + rid), BitVec.ofNat 512 w⟩, []⟩
def readState : State := askState (full 0x10) [piece .read] [reply 64 77]
theorem witness_PantryRequester_read : readState.pan.inRpl = [reply 64 77] ∧ (reply 64 77).elig ≤ readState.clk.beat ∧ readState.pan.ops = [full 0x10] ∧
    readState.pan.pieces = [piece .read] ∧ (full 0x10).op.n ≤ (full 0x10).next ∧ (reply 64 77).cell.reqId = (piece .read).rid ∧
    readState.banksFree 0 0x17FFF8 8 = true ∧ (readState.coreN 0).sramErr = [] ∧ readState.tapRoom 0 false ≠ 0 ∧ readState.cel.wbSram = [] := by and_intros <;> decide +kernel
def status : RxPan := reply 0xFFFF (64 + 2 ^ 31 + 8 * 2 ^ 32)
theorem witness_PantryRequester_status : status.cell.reqId = 0xFFFF ∧ status.cell.payload.toNat / 2 ^ 128 = 0 ∧ bitOf status.cell.payload 31 = true ∧
    fld status.cell.payload 15 0 = 64 ∧ fld status.cell.payload 23 16 = 0 ∧ (piece .write).n ≤ (piece .write).bytes + fld status.cell.payload 47 32 ∧
    (askState (full 0x11) [] [reply 64 77]).pan.pieces = [] ∧ (reply 64 77).cell.reqId ≠ 0xFFFF := by and_intros <;> decide +kernel
def gatherAt (b : Nat) : State :=
  { askState (getOp 0x10) [] [] with pan := { Pantry.zero with gather := [⟨1, 0, [5#128]⟩] }, clk := { Clk.reset with beat := b } }
theorem witness_PantryRequester_gather : (gatherAt 64).pan.gather = [⟨1, 0, [5#128]⟩] ∧ 0 + 64 ≤ (gatherAt 64).clk.beat ∧ (gatherAt 63).clk.beat < 0 + 64 ∧
    (gatherAt 64).pantryNext 1 2 true = .port 0 ∧ ((gatherAt 64).port 0).usable = true := by and_intros <;> decide +kernel
def opened (w : Nat) (h : Option Nat) : State :=
  { askState (getOp 0x10) [{ piece .read with hold := h }] [] with clk := { Clk.reset with wall := w } }
theorem witness_PantryRequester_timeout : (opened 0 none).pan.pieces = [piece .read] ∧
    (opened (quUs 250000) none).clk.wall = 0 + quUs (min (max (opened 0 none).pan.timeout.toNat 1000) 10000000) ∧
    bitOf ((opened 0 none).pan.panErr.get 0#64 0) 63 = false ∧ (opened 0 (some 9)).pan.pieces = [{ piece .read with hold := some 9 }] := by
  and_intros <;> decide +kernel

/-! The Cellar -/

/-- Mover commands of cluster 0: one whole block of HBM offset 0 and the last 256 bytes of SRAM; 64 bytes; a hash slot's opening and closing. -/
def mvArgs (op chunks sram : Nat) : BitVec 192 := BitVec.ofNat 192 (op * 2 ^ 60 + (chunks - 1) * 2 ^ 101 + sram * 2 ^ 64)
def mvCmd (op chunks sram : Nat) : MoverCmd := ⟨0, mvArgs op chunks sram, 0#16, 0#16, 5⟩
def moverAt (m : Mover) : State :=
  let s := sLoadP
  { s with clk := { s.clk with beat := 44 }, cel := { s.cel with movers := [(0, some m)], hash := [(0, ⟨true, false, 0, 0, 0#256, [], 0, 0⟩)] } }
def queueAt (c : MoverCmd) : State := { sLoadP with clusters := [(1, { Cluster.zero with movQ := [c] })] }
theorem witness_MoverStart : (queueAt (mvCmd 0 1 0x17FFC0)).mover 0 = none ∧ (queueAt (mvCmd 0 1 0x17FFC0)).celOn = true ∧
    ((queueAt (mvCmd 0 1 0x17FFC0)).cluster 0).movQ = [] ∧ ((queueAt (mvCmd 0 1 0x17FFC0)).cluster 1).movQ = [mvCmd 0 1 0x17FFC0] ∧
    (queueAt (mvCmd 0 1 0x17FFC0)).mvMayStart (mvCmd 0 1 0x17FFC0) = true ∧ mvFormOk (mvArgs 0 1 0x17FFC0) = true ∧
    (queueAt (mvCmd 0 1 0x17FFC0)).slotHeld (mvCmd 0 1 0x17FFC0) = true := by and_intros <;> decide +kernel
def sRead (chunks : Nat) : State := moverAt ⟨mvCmd 0 chunks 0x17FF00, 0, 0, false, 0⟩
theorem witness_MoverRead : (sRead 1).celOn = true ∧ mvHash (mvArgs 0 1 0x17FF00) = false ∧ (sRead 1).refreshing 0 = false ∧ (sRead 1).cel.symErr = [] ∧
    ((sRead 1).coreN 0).sramErr = [] ∧ (sRead 1).cel.wbSram = [] ∧ (sRead 1).cel.wbHbm = [] ∧ (sRead 1).banksFree 0 0x17FF00 64 = true ∧
    (sRead 1).fuses.b0 = false ∧ 0 + 44 ≤ (sRead 1).clk.beat ∧ 0 + 1 = mvTotal (mvArgs 0 1 0x17FF00) ∧ 0 + 1 < mvTotal (mvArgs 0 2 0x17FF00) := by
  and_intros <;> decide +kernel
theorem witness_MoverWrite : 0 + 4 = mvTotal (mvArgs 1 4 0x17FF00) ∧ 0 % mvRowChunks (mvArgs 1 4 0x17FF00) + 4 ≤ mvRowChunks (mvArgs 1 4 0x17FF00) ∧
    (moverAt ⟨mvCmd 1 4 0x17FF00, 0, 0, false, 0⟩).hbmAllowed 0 0 256 = true ∧ mvOp (mvArgs 2 4 0x17FF00) = 2 ∧
    (∀ j ∈ List.range 4, (moverAt ⟨mvCmd 1 4 0x17FF00, 0, 0, false, 0⟩).banksFree 0 (0x17FF00 + 64 * j) 64 = true) := by and_intros <;> decide +kernel
def sHash (op : Nat) : State := moverAt ⟨mvCmd op 1 0x17FFC0, 0, 0, false, 0⟩
theorem witness_HashSlots : (sHash 3).mover 0 = some ⟨mvCmd 3 1 0x17FFC0, 0, 0, false, 0⟩ ∧ (sHash 3).celOn = true ∧ mvOp (mvArgs 3 1 0x17FFC0) = 3 ∧
    mvOp (mvArgs 4 1 0x17FFC0) = 4 ∧ ((sHash 4).hashSlot 0).buf.length < 64 ∧ ((sHash 4).hashSlot 0).failed = false ∧
    (sHash 4).banksFree 0 0x17FFC0 32 = true ∧ bitOf ((sHash 4).cel.err.get 0#64 0) 63 = false := by and_intros <;> decide +kernel
theorem witness_HashSlots_compress : 64 ≤ (List.replicate 64 (0#8)).length ∧ (⟨true, true, 0, 0, 0#256, List.replicate 64 0#8, 0, 0⟩ : HashSlot).isOpen = true := by
  decide
/-- Region 1 is the 2 MiB after region 0; one correctable symbol in word 8. -/
def upkeep : State :=
  { sLoadP with
    cel := { sLoadP.cel with
      ctl := 0x8A180280#32, regions := sLoadP.cel.regions ++ [(1, win 0x200000 0x3FFFFF 0), (2, win 0x1FFFFF 0x3FFFFF 0)]
      symErr := [(35 * 8 + 34, 0x80#8)], wbHbm := [] } }
theorem witness_CellarUpkeep : upkeep.hearth.pState ≤ 1 ∧ bitOf upkeep.cel.ctl 31 = true ∧ upkeep.celOn = true ∧ (∀ e ∈ upkeep.cores, e.2.sramErr = []) ∧
    rsFind [(34, 0x80)] = .corrected 34 0x80 ∧ upkeep.cel.patrolAt ≤ 8 ∧ upkeep.cel.passCe.get 0 (blockStack 1) < 2 ^ fld upkeep.cel.ctl 27 24 ∧
    upkeep.hearth.running = some 0 ∧ upkeep.hearth.running ≠ some 15 ∧ upkeep.hearth.entropyOk = true := by and_intros <;> decide +kernel
theorem witness_CellarUpkeep_region : fld (win 0x200000 0x3FFFFF 0) 39 0 % 0x200000 = 0 ∧ (fld (win 0x200000 0x3FFFFF 0) 103 64 + 1) % 0x200000 = 0 ∧
    (∀ e ∈ upkeep.cel.regions, ¬ (bitOf e.2 127 = true ∧ fld e.2 39 0 ≤ 0x3FFFFF ∧ 0x200000 ≤ fld e.2 103 64)) ∧
    fld (win 0x1FFFFF 0x3FFFFF 0) 39 0 % 0x200000 ≠ 0 := by and_intros <;> decide +kernel

/-! Hearth's commands -/

/-- A command block of protocol version 1. -/
def blk (op len p : Nat) : BitVec 2048 := BitVec.ofNat 2048 (op + 2 ^ 16 + len * 2 ^ 32 + p * 2 ^ 64)
/-- `s` with Hearth ready and management connection 0 open. -/
def ask (s : State) : State := { s with hearth := { s.hearth with ready := true, protoSel := 1#8, conns := [(0, true)], barrin := 4 } }
/-- As `ask`, with the block waiting in mailbox pair 0 and a session open. -/
def askPorch (s : State) (b : BitVec 2048) : State :=
  { ask s with hearth := { (ask s).hearth with
    mbx := [(0, { Mbx.zero with latch := b, busy := true })], sess := some ⟨1#32, 0#256, 0#256, 0, 0, 0⟩ } }
def readyB (s : State) (op len : Nat) (b : BitVec 2048) : Bool :=
  blkOp b == op && blkLen b == len && blkVer b == s.hearth.protoSel.toNat && s.hearth.protoSel != 0#8 && fld b 63 48 == 0 && !s.hearth.wedged &&
    s.hearth.ready && !s.hearth.recovery && !s.sloe.latched && !s.stateBusy && s.hearth.waitq.isEmpty && !recEnable s.hearth.rec_.ctl
theorem ready_mgmt {s : State} {op len : Nat} {b : BitVec 2048} (h : readyB s op len b = true) (hc : s.hearth.conns.get false 0 = true)
    (ho : opPorchOnly op = false) : Ready s (.mgmt 0 b) op len b := by
  simp only [readyB, Bool.and_eq_true, beq_iff_eq, bne_iff_ne, Bool.not_eq_true', List.isEmpty_iff] at h
  obtain ⟨⟨⟨⟨⟨⟨⟨⟨⟨⟨⟨h1, h2⟩, h3⟩, h4⟩, h5⟩, h6⟩, h7⟩, h8⟩, h9⟩, h10⟩, h11⟩, h12⟩ := h
  exact ⟨by simp [State.srcBlock, hc], h1, h2, h3, h4, h5, h6, h7, h8, h9, h10, h11, h12, ho⟩
theorem ready_porch {s : State} {op len : Nat} {b : BitVec 2048} (h : readyB s op len b = true) (hm : (s.mbx 0).latch = b)
    (hb : (s.mbx 0).busy = true) (hr : (s.mbx 0).resp = none) (ho : opMgmtOnly op = false) (hs : s.hearth.sess ≠ none) :
    Ready s (.porch 0) op len b := by
  simp only [readyB, Bool.and_eq_true, beq_iff_eq, bne_iff_ne, Bool.not_eq_true', List.isEmpty_iff] at h
  obtain ⟨⟨⟨⟨⟨⟨⟨⟨⟨⟨⟨h1, h2⟩, h3⟩, h4⟩, h5⟩, h6⟩, h7⟩, h8⟩, h9⟩, h10⟩, h11⟩, h12⟩ := h
  exact ⟨by simp [State.srcBlock, hb, hr, hm], h1, h2, h3, h4, h5, h6, h7, h8, h9, h10, h11, h12, ho, fun _ => hs⟩

/-- Pair 3 busy; free with GET_INFO in its buffer; with a response. -/
def mbxState (m : Mbx) : State := { State.reset with hearth := { Hearth.reset with barrin := 4, mbx := [(3, m)] } }
theorem witness_Mailboxes : (mbxState { Mbx.zero with busy := true }).hearth.barrin = 4 ∧ ((mbxState { Mbx.zero with busy := true }).mbx 3).busy = true ∧
    ((mbxState { Mbx.zero with inn := blk 1 0 0 }).mbx 3).busy = false ∧ opKnown (blkOp (blk 1 0 0)) = true ∧ blkOp (blk 1 0 0) ≠ 0x81 ∧
    (mbxState Mbx.zero).hearth.sess = none ∧ ¬ ((4 = 4 ∨ 4 = 8) ∧ (0x4FE#16).toNat % 4 = 0) ∧ (0x4FC#16).toNat % 4 = 0 ∧
    (0x4FC#16).toNat / 0x100 = 3 + 1 ∧ (askPorch State.reset (blk 1 0 0)).hearth.sess ≠ none ∧ Hearth.reset.barrin ≠ 4 ∧
    ((mbxState { Mbx.zero with busy := true, resp := some 0#2048 }).mbx 3).resp = some 0#2048 := by and_intros <;> decide +kernel

theorem witness_Queries : Ready (ask State.reset) (.mgmt 0 (blk 0x01 0 0)) 0x01 0 (blk 0x01 0 0) ∧
    Ready (ask State.reset) (.mgmt 0 (blk 0x02 0 0)) 0x02 0 (blk 0x02 0 0) ∧
    Ready (askPorch State.reset (blk 0x01 0 0)) (.porch 0) 0x01 0 (blk 0x01 0 0) :=
  ⟨ready_mgmt (by decide +kernel) rfl rfl, ready_mgmt (by decide +kernel) rfl rfl,
    ready_porch (by decide +kernel) rfl rfl rfl rfl (by decide)⟩
/-- 60 words of space 6; context 15; 16 records of port 5; 65,536 bytes of space 1. -/
theorem witness_Queries_operands : Ready (ask State.reset) (.mgmt 0 (blk 0x10 8 (6 + 60 * 2 ^ 8))) 0x10 8 (blk 0x10 8 (6 + 60 * 2 ^ 8)) ∧
    blkNum (blk 0x10 8 (6 + 60 * 2 ^ 8)) 2 2 = 0 ∧ blkByte (blk 0x10 8 (6 + 60 * 2 ^ 8)) 0 = 6 ∧ blkByte (blk 0x10 8 (6 + 60 * 2 ^ 8)) 1 = 60 ∧
    Ready (ask State.reset) (.mgmt 0 (blk 0x23 1 15)) 0x23 1 (blk 0x23 1 15) ∧ blkByte (blk 0x23 1 15) 0 = 15 ∧
    Ready (ask State.reset) (.mgmt 0 (blk 0x40 16 (5 + 16 * 2 ^ 8))) 0x40 16 (blk 0x40 16 (5 + 16 * 2 ^ 8)) ∧
    Ready (ask State.reset) (.mgmt 0 (blk 0x41 24 (1 + 65536 * 2 ^ 64))) 0x41 24 (blk 0x41 24 (1 + 65536 * 2 ^ 64)) ∧
    blkNum (blk 0x41 24 (1 + 65536 * 2 ^ 64)) 8 4 = 65536 ∧
    Ready (askPorch State.reset (blk 0x40 16 (5 + 16 * 2 ^ 8))) (.porch 0) 0x40 16 (blk 0x40 16 (5 + 16 * 2 ^ 8)) ∧
    (askPorch State.reset (blk 0x40 16 (5 + 16 * 2 ^ 8))).hearth.barrin = 4 :=
  ⟨ready_mgmt (by decide +kernel) rfl rfl, by decide +kernel, by decide +kernel, by decide +kernel, ready_mgmt (by decide +kernel) rfl rfl, by decide +kernel,
    ready_mgmt (by decide +kernel) rfl rfl, ready_mgmt (by decide +kernel) rfl rfl, by decide +kernel,
    ready_porch (by decide +kernel) rfl rfl rfl rfl (by decide), rfl⟩
/-- Word `off` of a space, all bits. -/
def regB (sp off v : Nat) : BitVec 2048 := blk 0x11 16 (sp + off * 2 ^ 32 + v * 2 ^ 64 + 0xFFFFFFFF * 2 ^ 96)
theorem witness_RegisterWrites : Ready (ask State.reset) (.mgmt 0 (regB 4 0x10 7)) 0x11 16 (regB 4 0x10 7) ∧ blkNum (regB 4 0x10 7) 1 3 = 0 ∧
    blkByte (regB 4 0x10 7) 0 = 4 ∧ blkNum (regB 4 0x10 7) 4 4 = 0x10 ∧ blkNum (regB 4 (0x10000 + 4 * 65535) 7) 4 4 = 0x10000 + 4 * 65535 ∧
    State.reset.drained = true ∧ sPan.drained = false ∧ bitOf ({ Tim.reset with ctl := 0#32 }).ctl 28 = false ∧
    Ready (ask State.reset) (.mgmt 0 (regB 6 8 7)) 0x11 16 (regB 6 8 7) ∧ Ready (ask State.reset) (.mgmt 0 (regB 7 0 7)) 0x11 16 (regB 7 0 7) :=
  ⟨ready_mgmt (by decide +kernel) rfl rfl, by decide +kernel, by decide +kernel, by decide +kernel, by decide +kernel, by decide +kernel, by decide +kernel,
    by decide, ready_mgmt (by decide +kernel) rfl rfl, ready_mgmt (by decide +kernel) rfl rfl⟩

/-! Contexts and jobs -/

/-- Hearth with context `x` as given, `r` running. -/
def ctxState (x : Nat) (c : Ctx) (r : Option Nat) : State :=
  ask { State.reset with hearth := { Hearth.reset with ctxs := [(x, c)], running := r }, clk := { Clk.reset with valid := true, celRun := true } }
/-- One range: the last unit of HBM for context 15, its save area below it. -/
def createB (n : Nat) : BitVec 2048 := blk 0x20 16 (15 + 2 ^ 8 + (285695 - 736) * 2 ^ 32 + 285695 * 2 ^ 64 + n * 2 ^ 96)
theorem witness_ContextLife : Ready (ctxState 0 Ctx.zero none) (.mgmt 0 (createB 1)) 0x20 16 (createB 1) ∧ blkNum (createB 1) 2 2 = 0 ∧
    blkByte (createB 1) 0 = 15 ∧ blkByte (createB 1) 1 = 1 ∧ (ctxState 0 Ctx.zero none).hearth.noAdmit = 0 ∧
    ((ctxState 0 Ctx.zero none).ctx 15).state = 0 ∧ ((ctxState 15 { Ctx.zero with state := 2 } none).ctx 15).state ≠ 0 ∧
    (ctxState 0 Ctx.zero none).freeRegions = 0 :: 1 :: (List.range 30).map (· + 2) ∧ 285696 < blkNum (createB 2) 8 4 + blkNum (createB 2) 12 4 ∧
    blkNum (createB 1) 8 4 + blkNum (createB 1) 12 4 = 285696 ∧ blkNum (createB 1) 4 4 + 736 ≤ blkNum (createB 1) 8 4 ∧
    (∀ e ∈ (ctxState 0 Ctx.zero none).cel.regions, bitOf e.2 127 = false) ∧ (ctxState 0 Ctx.zero none).hearth.entropyOk = true ∧
    (ctxState 0 Ctx.zero none).hearth.running ≠ some 15 :=
  ⟨ready_mgmt (by decide +kernel) rfl rfl, by decide +kernel, by decide +kernel, by decide +kernel, rfl, by decide +kernel, by decide +kernel, by decide +kernel,
    by decide +kernel, by decide +kernel, by decide +kernel, by decide, rfl, by decide⟩
theorem witness_ContextLife_noRegion : ({ ctxState 0 Ctx.zero none with cel := { Cellar.reset with
    regions := (List.range 31).map (fun w => (w, win 0 0x1FFFFF 0 + BitVec.ofNat 128 (2 ^ 127))) } }).freeRegions.length < 2 := by decide +kernel
def destroyB : BitVec 2048 := blk 0x21 1 15
theorem witness_ContextLife_destroy : Ready (ctxState 15 { Ctx.zero with state := 4, regions := [31] } (some 3)) (.mgmt 0 destroyB) 0x21 1 destroyB ∧
    blkByte destroyB 0 = 15 ∧ ((ctxState 15 { Ctx.zero with state := 4 } (some 3)).ctx 15).state ∈ [2, 4, 6] ∧ 3 ≠ 15 ∧
    ((ctxState 15 { Ctx.zero with state := 1 } none).ctx 15).state ∉ [2, 4, 6] ∧ (ctxState 15 { Ctx.zero with state := 3 } (some 15)).hearth.running = some 15 :=
  ⟨ready_mgmt (by decide +kernel) rfl rfl, by decide +kernel, by decide +kernel, by decide, by decide +kernel, rfl⟩
def switchB (y : Nat) : BitVec 2048 := blk 0x22 1 y
/-- Context 0 running with its save area keyed; movers idle, or one at work. -/
def savable (job : Nat) : State :=
  let s := ctxState 0 { Ctx.zero with state := 3, job := job, saveBase := 0, regions := [0] } (some 0)
  { s with cel := { Cellar.reset with keys := [(0, ⟨true, 1#8, 0#256⟩)], regions := [(0, win 0 (736 * 0x200000 - 1) 0 + BitVec.ofNat 128 (2 ^ 127))] } }
theorem witness_ContextSwitches : Ready (ctxState 15 { Ctx.zero with state := 2 } none) (.mgmt 0 (switchB 15)) 0x22 1 (switchB 15) ∧ blkByte (switchB 15) 0 = 15 ∧
    ((ctxState 15 { Ctx.zero with state := 2 } none).ctx 15).state = 2 ∧ ((ctxState 15 { Ctx.zero with state := 2 } none).ctx 15).jobLoaded = false ∧
    ((ctxState 15 { Ctx.zero with state := 2 } none).ctx 15).saved = none ∧ (ctxState 15 { Ctx.zero with state := 2 } none).quiesced = true ∧
    (ctxState 15 { Ctx.zero with state := 2 } none).stopped = false ∧ (ctxState 15 { Ctx.zero with state := 2 } none).pan.fenced = false ∧
    ((ctxState 15 { Ctx.zero with state := 6 } none).ctx 15).state ∉ [2, 4] ∧ (savable 1).jobState = 1 ∧ blkByte (switchB 0xFF) 0 = 0xFF ∧
    (ctxState 15 { Ctx.zero with state := 2 } none).clk.resumeAt = none ∧ (ctxState 15 { Ctx.zero with state := 2 } none).hearth.noAdmit = 0 ∧
    (ctxState 15 { Ctx.zero with state := 2 } none).clk.celRun = decide ((ctxState 15 { Ctx.zero with state := 2 } none).hearth.pState ≤ 1) ∧
    (ctxState 15 { Ctx.zero with state := 2 } none).hearth.logged = none ∧ 0x0310 ≠ 0 :=
  ⟨ready_mgmt (by decide +kernel) rfl rfl, by decide +kernel, by decide +kernel, by decide +kernel, by decide +kernel, by decide +kernel, by decide +kernel,
    rfl, by decide +kernel, by decide +kernel, by decide +kernel, rfl, rfl, by decide +kernel, rfl, by decide⟩
theorem witness_ContextSwitches_save : Ready (savable 2) (.mgmt 0 (switchB 0xFF)) 0x22 1 (switchB 0xFF) ∧ (savable 2).hearth.running = some 0 ∧
    ((savable 2).ctx 0).job ≠ 1 ∧ (savable 2).quiesced = true ∧ (∀ e ∈ (savable 2).cores, e.2.sramErr = []) ∧
    (savable 2).hbmAllowed 0 (((savable 2).ctx 0).saveBase * 0x200000) (736 * 0x200000) = true :=
  ⟨ready_mgmt (by decide +kernel) rfl rfl, rfl, by decide +kernel, by decide +kernel, by decide, by decide +kernel⟩
/-- A switch that waits since wall time 0 for work that still drains. -/
def draining (w : Nat) : State :=
  let s := ask (askState (getOp 0x10) [] [])
  { s with hearth := { s.hearth with switchSrc := some (.mgmt 0 (switchB 0xFF)) }, clk := { s.clk with wall := w } }
theorem witness_ContextSwitches_wait : (draining 0).hearth.switchSrc = some (.mgmt 0 (switchB 0xFF)) ∧ (draining 0).quiesced = false ∧
    (draining (quMs 10)).hearth.switchAt + quMs 10 ≤ (draining (quMs 10)).clk.wall ∧ (draining (quMs 10 - 1)).clk.wall < quMs 10 ∧
    recEnable (draining 0).hearth.rec_.ctl = false ∧ (draining 0).hearth.logged = none ∧
    (draining 0).srcBlock (.mgmt 0 (switchB 0xFF)) = some (switchB 0xFF) := by and_intros <;> decide +kernel
/-- JOB_START of context 0 at 17,500 beats after FBC 0. -/
def startB (resume start : Nat) : BitVec 2048 := blk 0x31 16 (resume * 2 ^ 8 + start * 2 ^ 64)
theorem witness_JobControl : Ready (savable 2) (.mgmt 0 (startB 1 17500)) 0x31 16 (startB 1 17500) ∧ blkByte (startB 1 17500) 1 = 1 ∧ blkByte (startB 1 17500) 0 = 0 ∧
    blkNum (startB 1 17500) 2 6 = 0 ∧ (savable 2).hearth.thermal = false ∧ (savable 2).hearth.running = some 0 ∧ ((savable 2).ctx 0).job = 2 ∧
    (savable 2).clk.valid = true ∧ (savable 2).clk.fbc.toNat + 10 * opMhz (savable 2).clk.baseOp = 17500 ∧ blkNum (startB 1 17500) 8 8 = 17500 ∧
    blkNum (startB 1 17499) 8 8 < 17500 ∧ (savable 2).hearth.pState = 0 ∧ ((savable 3).ctx 0).job ≠ 2 ∧ blkByte (startB 0 0) 1 ≠ 1 :=
  ⟨ready_mgmt (by decide +kernel) rfl rfl, by decide +kernel, by decide +kernel, by decide +kernel, rfl, rfl, by decide +kernel, rfl, by decide +kernel,
    by decide +kernel, by decide +kernel, rfl, by decide +kernel, by decide +kernel⟩
theorem witness_JobControl_fresh : ((ctxState 0 { Ctx.zero with state := 3, jobLoaded := true } (some 0)).ctx 0).job = 0 ∧
    ((ctxState 0 { Ctx.zero with state := 3, jobLoaded := true } (some 0)).ctx 0).jobLoaded = true := by and_intros <;> decide +kernel
def jobStopB (x mode : Nat) : BitVec 2048 := blk 0x32 2 (x + mode * 2 ^ 8)
theorem witness_JobControl_stop : Ready (savable 1) (.mgmt 0 (jobStopB 0 2)) 0x32 2 (jobStopB 0 2) ∧ blkByte (jobStopB 0 2) 1 = 2 ∧ ((savable 1).ctx 0).job = 1 ∧
    (savable 1).stopped = false ∧ ((savable 0).ctx 0).job ≠ 1 ∧ ((savable 0).ctx 0).job ≠ 2 ∧
    ((ctxState 15 { Ctx.zero with state := 4, job := 2 } (some 3)).ctx 15).job = 2 ∧ blkByte (jobStopB 15 2) 0 = 15 ∧
    Ready (savable 1) (.mgmt 0 (blk 0x80 0 0)) 0x80 0 (blk 0x80 0 0) :=
  ⟨ready_mgmt (by decide +kernel) rfl rfl, by decide +kernel, by decide +kernel, by decide +kernel, by decide +kernel, by decide +kernel, by decide +kernel,
    by decide +kernel, ready_mgmt (by decide +kernel) rfl rfl⟩

/-- An image of 408 bytes: a plan of no clusters, no routes, one epoch descriptor of 1,000 beats; its digest from SHA-256 of bytes 128 on. -/
def imageHead : Nat := 0x5A544931 + 408 * 2 ^ 32 + 3 * 2 ^ 448 + 2 ^ 500 + 2 ^ 524 + 4 * 2 ^ 528 + 2 ^ 552
  + 0xc533764f5149a6d8d288dad75aa626bf6f248a24a26b84a38cab1172ee450f53 * 2 ^ 768
def dirEntry (typ off len : Nat) : List Byte := leBytes 24 (typ * 2 ^ 176 + off * 2 ^ 64 + len)
def image : List Byte :=
  leBytes 128 imageHead ++ dirEntry 1 200 200 ++ dirEntry 4 400 0 ++ dirEntry 6 400 8 ++ List.replicate 200 0#8 ++ leBytes 8 999
/-- Context 0 running without a job, its block enabled, its partition of 16 MiB at offset 0 keyed. -/
def loadState : State :=
  let s := ctxState 0 { Ctx.zero with state := 3, saveBase := 100, regions := [0] } (some 0)
  { s with
    pan := { Pantry.zero with jobBlock := [(0, 0x80000000#32)] }
    cel := { Cellar.reset with keys := [(0, ⟨true, 1#8, 0#256⟩)], regions := [(0, win 0 0xFFFFFF 0 + BitVec.ofNat 128 (2 ^ 127))] } }
def loadB : BitVec 2048 := blk 0x30 24 (408 * 2 ^ 128)
def head : BitVec 1024 := BitVec.ofNat 1024 (leNat (image.take 128))
theorem witness_JobLoading : SMap.Wf Core.zero loadState.cores ∧ Ready loadState (.mgmt 0 loadB) 0x30 24 loadB ∧ blkNum loadB 16 8 = 408 ∧
    blkByte loadB 1 = 0 ∧ blkNum loadB 2 2 = 0 ∧ blkNum loadB 6 2 = 0 ∧ loadState.loadStep1 0 = 0 ∧ loadState.loadStep2 = 0 ∧ image.length = 408 ∧
    (savable 1).loadStep1 0 ≠ 0 ∧ sPan.loadStep2 ≠ 0 ∧ loadState.loadStep3 head 128 ≠ 0 ∧ State.reset.loadStep4 0 0 head image 408 ≠ 0 :=
  ⟨⟨List.Pairwise.nil, by decide⟩, ready_mgmt (by decide +kernel) rfl rfl, by decide +kernel, by decide +kernel, by decide +kernel, by decide +kernel,
    by decide +kernel, by decide +kernel, by decide +kernel, by decide +kernel, by decide +kernel, by decide +kernel, by decide +kernel⟩
theorem witness_JobLoading_image : loadState.loadStep3 head 408 = 0 ∧ loadState.loadStep4 0 0 head image 408 = 0 ∧
    (ztiSects head image).map Sect.typ = [1, 4, 6] ∧ sectBytes image (ztiSects head image) 4 = [] ∧
    sectBytes image (ztiSects head image) 6 = leBytes 8 999 ∧ nfld 999 62 60 = 0 ∧ nfld 999 59 48 = 0 ∧ nfld 999 47 24 < nfld 999 23 0 + 1 ∧
    (∀ r ∈ List.range (ztiRanks head), (loadState.jobOf 0 0 false head image).rankEntry r ≠ none) := by and_intros <;> decide +kernel
theorem witness_JobLoading_digest : beBytes 32 (sha256 (image.drop 128)) = leBytes 32 (fld head 1023 768) := by decide +kernel

/-! The management channel -/

def subB (action mask : Nat) : BitVec 2048 := blk 0x42 8 (action + mask * 2 ^ 32)
/-- Subscribers at connections 1, 2, 3 and 4. -/
def subbed (n : Nat) : State :=
  ask { State.reset with hearth := { Hearth.reset with subs := (List.range n).map (fun i => ⟨i + 1, 0, 2#32, 0#8⟩) } }
/-- Stage 4, operator CA slot 0 enabled. -/
def mgmtUp (auth : Option Nat) : State :=
  { State.reset with
    sloe := { Sloe.reset with stage := 4 }, hearth := { Hearth.reset with mgmtAuthAt := auth }
    flash := { State.reset.flash with opcaCtl := [(0, 0x80000000#32)] } }
/-- Operator CA slot 1 with the base point of the curve as its key, its bytes in memory order. -/
def caKey : State :=
  { State.reset with flash := { State.reset.flash with opcaKey :=
    [(1, BitVec.ofNat 512 (leNat (beBytes 64 (p256gx * 2 ^ 256 + p256gy))))] } }
theorem witness_ManagementChannel : Ready (subbed 3) (.mgmt 0 (subB 0 0xFE)) 0x42 8 (subB 0 0xFE) ∧ blkNum (subB 0 0xFE) 2 2 = 0 ∧
    blkNum (subB 0 0xFE) 4 4 = 0xFE ∧ blkByte (subB 0 0xFE) 1 ≤ 3 ∧ blkByte (subB 0 0xFE) 0 = 0 ∧
    ((subbed 3).hearth.subs.filter (fun u => u.conn != 0)).length < 4 ∧ Ready (subbed 4) (.mgmt 0 (subB 0 2)) 0x42 8 (subB 0 2) ∧
    4 ≤ ((subbed 4).hearth.subs.filter (fun u => u.conn != 0)).length ∧ Ready (subbed 3) (.mgmt 0 (subB 1 0)) 0x42 8 (subB 1 0) ∧
    blkByte (subB 1 0) 0 = 1 :=
  ⟨ready_mgmt (by decide +kernel) rfl rfl, by decide +kernel, by decide +kernel, by decide +kernel, by decide +kernel, by decide +kernel,
    ready_mgmt (by decide +kernel) rfl rfl, by decide +kernel, ready_mgmt (by decide +kernel) rfl rfl, by decide +kernel⟩
theorem witness_ManagementChannel_connections : (ask State.reset).hearth.conns.get false 0 = true ∧ State.reset.hearth.conns.get false 3 = false ∧
    State.reset.mgmtOpen = false ∧ (mgmtUp none).mgmtOpen = true ∧ (mgmtUp none).hearth.conns.get false 3 = false ∧
    (mgmtUp (some 0)).hearth.mgmtAuthAt = some 0 ∧ (mgmtUp (some 0)).clk.wall < quMs 1000 ∧ (mgmtUp none).opcaOn 0 = true ∧
    State.reset.opcaOn 3 = false ∧ caKey.opcaOn 1 = false := by and_intros <;> decide +kernel
theorem witness_ManagementChannel_key : pubOk (beNat ((leBytes 64 (caKey.flash.opcaKey.get 0#512 1).toNat).take 32))
      (beNat ((leBytes 64 (caKey.flash.opcaKey.get 0#512 1).toNat).drop 32)) = true ∧
    pubOk (beNat ((leBytes 64 (State.reset.flash.opcaKey.get 0#512 3).toNat).take 32))
      (beNat ((leBytes 64 (State.reset.flash.opcaKey.get 0#512 3).toNat).drop 32)) = false := by and_intros <;> decide +kernel
/-- The base point's x, which with the digest 0 is both halves of a signature under the private key 1. -/
def selfSig : BitVec 512 := BitVec.ofNat 512 (p256gx * 2 ^ 256 + p256gx)
/-- A leaf signed by the operator's key of slot 1, valid from second 5 to second 9. -/
def leaf : Cert := ⟨BitVec.ofNat 512 (p256gx * 2 ^ 256 + p256gy), [], 0#256, selfSig, 5, 9, []⟩
def hello (sig : BitVec 512) : Hello := ⟨0x0304, [0x1301, 0x1302], [0x0017], [0x0403], false, false, [leaf], 0#256, 0#256, sig⟩
def served1 : State :=
  { caKey with
    sloe := { Sloe.reset with stage := 4 }, tim := { Tim.reset with valid := true, now := ⟨9, 0, 0⟩ }
    flash := { caKey.flash with opcaCtl := [(1, 0x80000000#32)] } }
theorem witness_ManagementChannel_handshake : served1.mgmtOpen = true ∧ served1.hearth.conns.get false 3 = false ∧ (hello selfSig).version = 0x0304 ∧
    0x0017 ∈ (hello selfSig).groups ∧ 0x0403 ∈ (hello selfSig).sigs ∧ (hello selfSig).psk = false ∧ (hello selfSig).early = false ∧
    0x1302 ∈ (hello selfSig).suites ∧ served1.hearth.entropyOk = true ∧ served1.hearth.mgmtAuthAt = none ∧
    0x0304 ≠ ({ hello selfSig with version := 0x0303 }).version := by and_intros <;> decide +kernel
theorem witness_ManagementChannel_client : served1.clientOk (hello selfSig) = true ∧ served1.clientOk (hello 0#512) = false := by
  and_intros <;> decide +kernel
/-- Telemetry is due at 100 ms after the last. -/
def told (w : Nat) : State := { ask State.reset with clk := { Clk.reset with wall := w } }
theorem witness_ManagementChannel_telemetry : (told (quMs 100)).hearth.wedged = false ∧ (told (quMs 100)).hearth.ready = true ∧
    (told (quMs 100)).hearth.teleAt + quMs 100 ≤ (told (quMs 100)).clk.wall ∧
    (told (quMs 100 - 1)).clk.wall < (told (quMs 100 - 1)).hearth.teleAt + quMs 100 := by and_intros <;> decide +kernel

/-! Power, clocks, time -/

def pointB (code w : Nat) : BitVec 2048 := blk 0x50 16 (code + w * 2 ^ 64)
theorem witness_OperatingPoints : Ready (ctxState 0 Ctx.zero none) (.mgmt 0 (pointB 4 175000)) 0x50 16 (pointB 4 175000) ∧
    blkNum (pointB 4 175000) 1 7 = 0 ∧ blkByte (pointB 4 175000) 0 ∈ (ctxState 0 Ctx.zero none).fuses.points ∧ 5 ∉ State.reset.fuses.points ∧
    blkByte (pointB 5 0) 0 = 5 ∧ (ctxState 0 Ctx.zero none).hearth.running = none ∧ (ctxState 0 Ctx.zero none).clk.valid = true ∧
    blkNum (pointB 4 175000) 8 8 = 175000 ∧ (ctxState 0 Ctx.zero none).rbc + 100 * opMhz (ctxState 0 Ctx.zero none).clk.baseOp = 175000 ∧
    blkNum (pointB 4 174999) 8 8 < 175000 ∧ State.reset.clk.valid = false ∧ (savable 1).hearth.running = some 0 ∧ ((savable 1).ctx 0).job = 1 :=
  ⟨ready_mgmt (by decide +kernel) rfl rfl, by decide +kernel, by decide +kernel, by decide +kernel, by decide +kernel, rfl, rfl, by decide +kernel,
    by decide +kernel, by decide +kernel, rfl, rfl, by decide +kernel⟩
/-- A change to point 4 at RBC 175,000; the clocks due to resume at wall time 9. -/
def changing (rbc w : Nat) (change : Option (Nat × Nat)) (resume : Option Nat) : State :=
  { State.reset with clk := { Clk.reset with wall := w, rbcHalf := BitVec.ofNat 65 (2 * rbc), change := change, resumeAt := resume } }
theorem witness_OperatingPoints_change : (changing 175000 0 (some (4, 175000)) none).clk.change = some (4, 175000) ∧
    175000 ≤ (changing 175000 0 (some (4, 175000)) none).rbc ∧ (changing 174999 0 (some (4, 175000)) none).rbc < 175000 ∧
    (changing 175000 0 (some (4, 175000)) none).clk.runOp = (changing 175000 0 (some (4, 175000)) none).clk.baseOp ∧
    (changing 175000 0 (some (4, 175000)) none).clk.resumeAt = none ∧ (changing 0 9 none (some 9)).clk.resumeAt = some 9 ∧
    9 ≤ (changing 0 9 none (some 9)).clk.wall ∧ (changing 0 8 none (some 9)).clk.wall < 9 ∧ (changing 0 9 none (some 9)).stopped = false ∧
    (changing 0 9 none (some 9)).clk.change = none ∧ (changing 0 9 none (some 9)).clk.startAt = none ∧ (changing 0 9 none (some 9)).clk.stopEnds = none ∧
    (changing 0 9 none (some 9)).clk.alignBad = false ∧ (changing 0 9 none (some 9)).hearth.noAdmit ≠ 0x0624 ∧
    opMhz (changing 175000 0 (some (4, 175000)) none).clk.runOp ≠ opMhz 4 := by and_intros <;> decide +kernel
/-- The running point 3 held below base point 1, which changes to 0; an alignment that failed eight times; regions that start at 9. -/
def capped3 : State := { State.reset with clk := { Clk.reset with rbcHalf := 20#65, runOp := 3, baseOp := 1, change := some (0, 10) } }
def aligning (bad : Bool) (resume start : Option Nat) : State :=
  { State.reset with clk := { Clk.reset with wall := 9, alignBad := bad, resumeAt := resume, startAt := start } }
theorem witness_OperatingPoints_more : capped3.clk.runOp ≠ capped3.clk.baseOp ∧ opMhz capped3.clk.runOp < opMhz 0 ∧ 10 ≤ capped3.rbc ∧
    capped3.clk.stopEnds = none ∧ capped3.clk.resumeAt = none ∧ capped3.clk.startAt = none ∧ (aligning true (some 9) none).clk.alignBad = true ∧
    9 ≤ (aligning true (some 9) none).clk.wall ∧ (aligning false none (some 9)).clk.resumeAt = none ∧ (aligning false none (some 9)).stopped = false ∧
    (aligning false none (some 9)).clk.startAt = some 9 := by and_intros <;> decide +kernel

def capB (cap hyst win temp idle : Nat) : BitVec 2048 := blk 0x51 8 (cap + hyst * 2 ^ 16 + win * 2 ^ 32 + temp * 2 ^ 48 + idle * 2 ^ 56)
def powerB (st code : Nat) : BitVec 2048 := blk 0x52 16 (st + code * 2 ^ 64)
theorem witness_PowerStates_cap : Ready (ask State.reset) (.mgmt 0 (capB 2200 500 1000 105 255)) 0x51 8 (capB 2200 500 1000 105 255) ∧
    State.reset.fuses.od720 = false ∧ blkNum (capB 2200 500 1000 105 255) 0 2 = 2200 ∧ blkNum (capB 1000 20 1 85 0) 0 2 = 1000 ∧
    blkNum (capB 2200 500 1000 105 255) 2 2 = 500 ∧ blkNum (capB 2200 500 1000 105 255) 4 2 = 1000 ∧
    blkByte (capB 2200 500 1000 105 255) 6 = 105 ∧ blkNum (capB 999 20 1 85 0) 0 2 < 1000 :=
  ⟨ready_mgmt (by decide +kernel) rfl rfl, by decide +kernel, by decide +kernel, by decide +kernel, by decide +kernel, by decide +kernel,
    by decide +kernel, by decide +kernel⟩
theorem witness_PowerStates : Ready (ask State.reset) (.mgmt 0 (powerB 3 7)) 0x52 16 (powerB 3 7) ∧ blkNum (powerB 3 7) 1 7 = 0 ∧
    blkByte (powerB 3 7) 0 = 3 ∧ blkByte (powerB 4 0) 0 = 4 ∧ (ask State.reset).hearth.running = none ∧ (∀ x, x < 16 → ((ask State.reset).ctx x).state = 0) ∧
    (ask State.reset).ports = [] ∧ (ask State.reset).drained = true ∧ (ask State.reset).stopped = false ∧ (ask State.reset).clk.resumeAt = none ∧
    sPan.drained = false ∧ ((ctxState 15 { Ctx.zero with state := 2 } none).ctx 15).state ≠ 0 ∧ (savable 1).hearth.running = some 0 ∧
    ((savable 1).ctx 0).job = 1 ∧ (ask State.reset).clk.celRun = false ∧ (ask State.reset).clk.startAt = none ∧
    (ask State.reset).hearth.noAdmit ≠ 0x0624 ∧ (savable 1).clk.celRun = true :=
  ⟨ready_mgmt (by decide +kernel) rfl rfl, by decide +kernel, by decide +kernel, by decide +kernel, rfl, by decide +kernel, rfl, by decide +kernel,
    by decide +kernel, rfl, by decide +kernel, by decide +kernel, rfl, by decide +kernel, rfl, rfl, by decide, rfl⟩
/-- Idle since 0 with an idle time of 10 ms; in P3 with wake code 5. -/
def idle (w : Nat) : State :=
  { ask State.reset with hearth := { (ask State.reset).hearth with power := 1#64 }, clk := { Clk.reset with wall := w, celRun := true } }
def asleep : State :=
  { State.reset with
    hearth := { Hearth.reset with pState := 3, wakeCode := 5#64 }, sloe := { Sloe.reset with stage := 6 }
    pins := { State.reset.pins with porstN := true } }
theorem witness_PowerStates_sleep : (idle (quMs 10)).idleDue = true ∧ (idle (quMs 10 - 1)).idleDue = false ∧ (idle (quMs 10)).stopped = false ∧
    (idle (quMs 10)).clk.resumeAt = none ∧ State.reset.hearth.pState ≠ 3 ∧ asleep.hearth.pState = 3 ∧ asleep.hearth.wakeCode = 5#64 ∧
    4#64 ≠ asleep.hearth.wakeCode ∧ asleep.fuses.mac = asleep.fuses.mac ∧ (idle 0).clk.celRun = true ∧ (idle 0).hearth.noAdmit ≠ 0x0624 ∧
    asleep.sloe.stage ≠ 0 ∧ asleep.pins.porstN = true := by and_intros <;> decide +kernel
/-- Cap 1,000 W, hysteresis 20 W, limit 85; the running point, the stretch and the windows below as given. -/
def capped (op st below : Nat) (tt : Timetable) : State :=
  { State.reset with
    clk := { Clk.reset with runOp := op, capStretch := st, wall := quMs 1 }
    hearth := { Hearth.reset with power := BitVec.ofNat 64 (1000 * 2 ^ 48 + 20 * 2 ^ 32 + 2 ^ 16 + 85 * 2 ^ 8), belowRun := below }, tt := tt }
theorem witness_PowerStates_window : fld (capped 4 4 0 Timetable.zero).hearth.power 63 48 = 1000 ∧ fld (capped 4 4 0 Timetable.zero).hearth.power 47 32 = 20 ∧
    fld (capped 4 4 0 Timetable.zero).hearth.power 15 8 = 85 ∧ (capped 4 4 0 Timetable.zero).clk.runOp = 4 ∧
    (capped 4 4 0 Timetable.zero).clk.capStretch = 4 ∧ (capped 4 0 0 Timetable.zero).capPoint 1001 = 4 ∧
    (capped 0 0 0 { Timetable.zero with state := 2 }).capPoint 1001 ≠ (capped 0 0 0 { Timetable.zero with state := 2 }).clk.runOp ∧
    (capped 4 1 9 Timetable.zero).hearth.belowRun = 9 ∧ 0 < (capped 4 1 9 Timetable.zero).clk.capStretch ∧ 979 + 20 < 1000 ∧ 1000 ≤ 980 + 20 ∧
    (capped 4 1 8 Timetable.zero).hearth.belowRun < 9 ∧
    (capped 4 0 0 Timetable.zero).hearth.windowAt + quMs (fld (capped 4 0 0 Timetable.zero).hearth.power 31 16) ≤ (capped 4 0 0 Timetable.zero).clk.wall ∧
    (capped 4 0 0 Timetable.zero).clk.capNext = none ∧ Clk.reset.wall < Hearth.reset.windowAt + quMs 1 := by and_intros <;> decide +kernel
def lead : State :=
  { ask State.reset with sloe := { Sloe.reset with panPos := 0x10000000#32 }, clk := { Clk.reset with wall := quMs 10 } }
theorem witness_PowerStates_lead : bitOf lead.sloe.panPos 28 = true ∧ lead.hearth.wedged = false ∧ lead.hearth.ready = true ∧
    bitOf State.reset.sloe.panPos 28 = false ∧ lead.hearth.collectAt + quMs 10 ≤ lead.clk.wall ∧
    (List.replicate 8 (1500, true)).length ≤ 8 ∧ lead.hearth.grant = none := by and_intros <;> decide +kernel

theorem witness_Clocks : State.reset.hearth.running = none ∧ (savable 1).hearth.running = some 0 ∧ ((savable 1).ctx 0).job ∈ [1, 2] ∧
    (savable 1).stopped = false ∧ ({ Tim.reset with refOk := true }).refOk = true ∧ Tim.reset.refOk = false ∧
    bitOf (0x40000000#32) 30 = true ∧ State.reset.job = none ∧ bitOf State.reset.tim.fbcCtl 30 = false ∧ (regs []).job ≠ none ∧
    Tim.reset.holdover = false ∧ ({ Tim.reset with holdover := true }).holdover = true ∧ Clk.reset.tokens = [] ∧
    ({ Clk.reset with tokens := [(8, 4), (0, 1)] }).tokens = (8, 4) :: [(0, 1)] ∧ (1 : Fin 5) ≠ 0 := by
  and_intros <;> decide +kernel
/-- The time unit's control and queue. -/
def timeUnit (ctl : W32) (n : Nat) : State := { State.reset with tim := { Tim.reset with ctl := ctl, txts := List.replicate n 0#128 } }
theorem witness_TimeUnit : bitOf (timeUnit 0x10000000#32 0).tim.ctl 28 = true ∧ bitOf (timeUnit 0#32 0).tim.ctl 28 = false ∧ (timeUnit 0#32 15).tim.txts.length < 16 ∧
    16 ≤ (timeUnit 0#32 16).tim.txts.length ∧ bitOf (timeUnit 0#32 15).tim.ctl 27 = false ∧ bitOf (timeUnit 0x04000000#32 0).tim.ctl 26 = true ∧
    bitOf (timeUnit 0#32 0).tim.ctl 26 = false ∧ bitOf (timeUnit 0x06000000#32 0).tim.ctl 25 = true ∧ bitOf (timeUnit 0x04000000#32 0).tim.ctl 25 = false ∧
    bitOf (timeUnit 0x08000000#32 0).tim.ctl 27 = true := by and_intros <;> decide +kernel
/-- Pulse unit 1, its counter set to `ns`. -/
def pulsing (ns : Nat) (ctl period : W32) (active : Option TimeWord) : State :=
  { State.reset with tim := { Tim.reset with
    valid := true, now := ⟨0, ns, 0⟩
    pulses := [(1, ⟨ctl, 8#32, period, BitVec.ofNat 128 (2000 * 2 ^ 24), ⟨0, 2000, 0⟩, active⟩)] } }
theorem witness_TimeUnit_pulse : (pulsing 1000 0#32 100#32 none).tim.valid = true ∧ 8 ≤ ((pulsing 1000 0#32 100#32 none).pulse 1).width.toNat ∧
    ((pulsing 1000 0#32 100#32 none).pulse 1).width.toNat + 8 ≤ ((pulsing 1000 0#32 100#32 none).pulse 1).period.toNat ∧
    100 ≤ ((pulsing 1000 0#32 100#32 none).pulse 1).period.toNat ∧
    (timeOf ((pulsing 1000 0#32 100#32 none).pulse 1).start).diff (pulsing 1000 0#32 100#32 none).tim.now = 1000 ∧
    (timeOf ((pulsing 1001 0#32 100#32 none).pulse 1).start).diff (pulsing 1001 0#32 100#32 none).tim.now < 1000 ∧
    bitOf ((pulsing 1000 0#32 100#32 none).pulse 1).ctl 31 = false ∧ bitOf ((pulsing 2000 0x80000000#32 0#32 none).pulse 1).ctl 31 = true ∧
    (pulsing 2000 0x80000000#32 0#32 none).tim.now.reached ((pulsing 2000 0x80000000#32 0#32 none).pulse 1).edge = true ∧
    (pulsing 1999 0x80000000#32 0#32 none).tim.now.reached ((pulsing 1999 0x80000000#32 0#32 none).pulse 1).edge = false ∧
    ((pulsing 2008 0#32 0#32 (some ⟨0, 2008, 0⟩)).pulse 1).active = some ⟨0, 2008, 0⟩ ∧
    (pulsing 2008 0#32 0#32 none).tim.now.reached ⟨0, 2008, 0⟩ = true ∧ (pulsing 2007 0#32 0#32 none).tim.now.reached ⟨0, 2008, 0⟩ = false ∧
    ((pulsing 0 0#32 0#32 none).pulse 1).active = none := by and_intros <;> decide +kernel

/-! Maintenance and firmware -/

def testB (op when_ set : Nat) : BitVec 2048 := blk op 2 (when_ + set * 2 ^ 8)
theorem witness_MaintenanceTests : Ready (savable 1) (.mgmt 0 (testB 0x60 1 15)) 0x60 2 (testB 0x60 1 15) ∧ blkByte (testB 0x60 1 15) 0 = 1 ∧
    blkByte (testB 0x60 1 15) 1 = 15 ∧ Ready (savable 1) (.mgmt 0 (testB 0x61 0 0)) 0x61 2 (testB 0x61 0 0) ∧ (savable 1).jobState = 1 ∧
    (savable 0).jobState ≠ 1 ∧ (savable 0).jobState ≠ 2 ∧ State.reset.hearth.maint = [] ∧
    ({ Hearth.reset with maint := [(0x60, 15)] }).maint = [(0x60, 15)] ∧ 0x60 < 2 ^ 16 ∧ 15 < 2 ^ 8 ∧ 3 ≤ ({ Sloe.reset with stage := 3 }).stage :=
  ⟨ready_mgmt (by decide +kernel) rfl rfl, by decide +kernel, by decide +kernel, ready_mgmt (by decide +kernel) rfl rfl, by decide +kernel, by decide +kernel,
    by decide +kernel, rfl, rfl, by decide, by decide, by decide⟩
/-- An empty image, version 1, anti-rollback 0, the SHA-256 of no bytes, signed under the private key 1. -/
def slotHead : BitVec 1024 := 0xd16b7d2a420db7337d2dadd1daa29eb552d1f00d7faf7a8b80fe5fcc19ff8c3649c1daee60357dac0c15be167aa68ec4091e0b1a204973a7d66182890595a5120000000000000000000000000000000055b852781b9995a44c939b64e441ae2724b96f99c8f4fb9a141cfc9842c4b0e300000000000000010000000048544831#1024
/-- A part whose firmware key is the base point, that image in slot B, slot A empty. -/
def part (cand : Option Nat) : State :=
  let s := ask State.reset
  { s with
    fuses := { s.fuses with fwKey := BitVec.ofNat 512 (p256gx * 2 ^ 256 + p256gy) }
    flash := { s.flash with slotB := ⟨slotHead, []⟩, active := 0, cand := cand }, hearth := { s.hearth with bootSlot := 1 } }
theorem witness_FirmwareAndReset_signed : (part none).fwCheck ((part none).fwSlot 1) = 0 ∧ (part none).fwCheck ((part none).fwSlot 0) ≠ 0 := by
  and_intros <;> decide +kernel
def stageB (len : Nat) : BitVec 2048 := blk 0x70 12 (len * 2 ^ 64)
theorem witness_FirmwareAndReset : Ready (part none) (.mgmt 0 (stageB 128)) 0x70 12 (stageB 128) ∧ blkNum (stageB 128) 8 4 = 128 ∧
    blkNum (stageB (30 * 2 ^ 20)) 8 4 = 30 * 2 ^ 20 ∧ (part none).flash.cand = none ∧ (part (some 1)).flash.cand = some (part (some 1)).hearth.bootSlot ∧
    (leBytes 128 slotHead.toNat).length = 128 ∧ BitVec.ofNat 1024 (leNat (((leBytes 128 slotHead.toNat).take 128).take 128)) = slotHead ∧
    fld slotHead 63 32 = 0 ∧ Ready (part none) (.mgmt 0 (blk 0x71 1 1)) 0x71 1 (blk 0x71 1 1) ∧ blkByte (blk 0x71 1 1) 0 = 1 ∧
    (part none).flash.active ≠ 1 ∧ Ready (part (some 1)) (.mgmt 0 (blk 0x72 0 0)) 0x72 0 (blk 0x72 0 0) ∧
    (part none).flash.cand ≠ some (part none).hearth.bootSlot :=
  ⟨ready_mgmt (by decide +kernel) rfl rfl, by decide +kernel, by decide +kernel, rfl, rfl, by decide +kernel, by decide +kernel, by decide +kernel,
    ready_mgmt (by decide +kernel) rfl rfl, by decide +kernel, by decide, ready_mgmt (by decide +kernel) rfl rfl, by decide⟩
def stage6 : State := { ask State.reset with sloe := { Sloe.reset with stage := 6 }, pins := { State.reset.pins with resetN := true } }
def fullB (v : Nat) : BitVec 2048 := blk 0x81 4 v
theorem witness_FirmwareAndReset_full : Ready stage6 (.mgmt 0 (fullB 0xA5A55A5A)) 0x81 4 (fullB 0xA5A55A5A) ∧ blkNum (fullB 0xA5A55A5A) 0 4 = 0xA5A55A5A ∧
    blkNum (fullB 0) 0 4 ≠ 0xA5A55A5A ∧ 3 ≤ stage6.sloe.stage ∧ stage6.pins.resetN = true ∧ stage6.sloe.merge = none :=
  ⟨ready_mgmt (by decide +kernel) rfl rfl, by decide +kernel, by decide +kernel, by decide, rfl, rfl⟩

/-! Attestation, sessions, alarms -/

def attestB (cap : Nat) : BitVec 2048 := blk 0x90 44 (cap * 2 ^ 320)
theorem witness_AttestationAndSessions : Ready (askPorch State.reset (attestB 0)) (.porch 0) 0x90 44 (attestB 0) ∧
    Ready (ask State.reset) (.mgmt 0 (attestB 0)) 0x90 44 (attestB 0) ∧ blkNum (attestB 0) 40 4 = 0 ∧ blkNum (attestB 0xFFFFFFFF) 40 4 = 0xFFFFFFFF ∧
    (askPorch State.reset (attestB 0)).hearth.barrin = 4 :=
  ⟨ready_porch (by decide +kernel) rfl rfl rfl rfl (by decide), ready_mgmt (by decide +kernel) rfl rfl, by decide +kernel, by decide +kernel, rfl⟩
theorem witness_AttestationAndSessions_length :
    let n := ((askPorch State.reset (attestB 0)).report (blkBytes (attestB 0) 0 32)).length
    0 < n ∧ n ≤ 0xFFFFFFFF := by and_intros <;> decide +kernel
/-- A host key, the base point; the digest 0. -/
def openB : BitVec 2048 := blk 0x91 96 (leNat (beBytes 64 (p256gx * 2 ^ 256 + p256gy)))
/-- A report of digest 0 at wall time 0; the entropy source as given. -/
def reported (wall : Nat) (ok : Bool) : State :=
  let s := askPorch State.reset openB
  { s with hearth := { s.hearth with reportDigest := some 0#256, entropyOk := ok }, clk := { Clk.reset with wall := wall } }
theorem witness_AttestationAndSessions_open : Ready (reported (60 * quMs 1000) true) (.porch 0) 0x91 96 openB ∧
    pubOk (beNat ((blkBytes openB 0 64).take 32)) (beNat ((blkBytes openB 0 64).drop 32)) = true ∧
    BitVec.ofNat 256 (beNat (leBytes 32 (blkNum openB 64 32))) = 0#256 ∧
    (reported (60 * quMs 1000) true).hearth.reportDigest = some 0#256 ∧
    (reported (60 * quMs 1000) true).clk.wall ≤ (reported (60 * quMs 1000) true).hearth.reportAt + 60 * quMs 1000 ∧
    (reported (60 * quMs 1000) true).hearth.entropyOk = true ∧ (reported 0 false).hearth.entropyOk = false ∧
    ¬ (reported (60 * quMs 1000 + 1) true).clk.wall ≤ (reported (60 * quMs 1000 + 1) true).hearth.reportAt + 60 * quMs 1000 ∧
    Ready (askPorch State.reset (blk 0x92 0 0)) (.porch 0) 0x92 0 (blk 0x92 0 0) ∧ State.reset.hearth.measured = false :=
  ⟨ready_porch (by decide +kernel) rfl rfl rfl rfl (by decide), by decide +kernel, by decide +kernel, rfl, by decide +kernel, rfl, rfl, by decide +kernel,
    ready_porch (by decide +kernel) rfl rfl rfl rfl (by decide), rfl⟩

/-- Firmware measured; every component loaded as it was measured. -/
def measured : State :=
  { State.reset with hearth := { Hearth.reset with
    measured := true, measures := loadedIds.map (fun i => (i, BitVec.ofNat 256 (sha256 []))) } }
theorem witness_AttestationAndSessions_measured : (∀ id ∈ [2, 3, 4, 5, 6],
    BitVec.ofNat 256 (sha256 (measured.hearth.loaded.get [] id)) = measured.hearth.measures.get 0#256 id) ∧
    ({ Hearth.reset with entropyOk := false }).entropyRun + 1023 < 1024 ∧ 1024 ≤ ({ Hearth.reset with entropyRun := 1 }).entropyRun + 1023 := by
  and_intros <;> decide +kernel
/-- A merge window open since 0; firmware measured; `n` level-2 alarms before. -/
def alarmed (n w : Nat) (m : Option Merge) : State :=
  { State.reset with
    sloe := { Sloe.reset with l2Count := n, ctl := 3#32, merge := m }, hearth := { Hearth.reset with measured := true }
    clk := { Clk.reset with wall := w } }
def window : Merge := ⟨0, 0x10000#20, 0x0513, false⟩
theorem witness_Alarms : ((0 : Fin 20).val, 0x0501) ∈ [(0, 0x0501), (1, 0x0502), (2, 0x0503), (3, 0x0506), (4, 0x0510), (5, 0x0511), (6, 0x0516), (7, 0x050D), (8, 0x0517)] ∧
    ((19 : Fin 20).val, 0x0512) ∈ [(16, 0x0513), (17, 0x0514), (18, 0x0515), (19, 0x0512)] ∧ (alarmed 0 0 (some window)).sloe.merge = some window ∧
    (alarmed 1 0 none).sloe.merge = none ∧ (alarmed 1 0 none).ports = [] ∧ (alarmed 1 0 none).hearth.switchSrc = none ∧
    min ((alarmed 1 0 none).sloe.l2Count + 1) 255 < max (fld (alarmed 1 0 none).sloe.ctl 3 0) 2 ∧
    max (fld (alarmed 2 0 none).sloe.ctl 3 0) 2 ≤ min ((alarmed 2 0 none).sloe.l2Count + 1) 255 ∧ (alarmed 0 0 none).hearth.measured = true ∧
    (alarmed 0 (quMs 1) (some window)).clk.wall = window.since + quMs 1 ∧ (alarmed 0 (quMs 1 - 1) (some window)).clk.wall < window.since + quMs 1 ∧
    (alarmed 0 0 none).flash.log.length < 1024 ∧ (alarmed 1 0 none).dbg.scanSrc = none ∧
    ({ State.reset.pins with vaux := true, pwrOk := true }).pwrOk = true ∧ State.reset.pins.pwrOk = false ∧ State.reset.hearth.pState ≠ 3 ∧
    State.reset.hearth.measured = false ∧ (ask State.reset).hearth.conns.get false 0 = true ∧ State.reset.hearth.conns.get false 0 = false ∧
    State.reset.sloe.latched = false ∧ w1Key 1 0x44 30 ∉ State.reset.w1Sets ∧ (∀ b ∈ [16, 17, 18], ¬ State.reset.clk.wall < State.reset.sloe.lasting.get 0 b) ∧
    State.reset.clk.wall < ({ Sloe.reset with lasting := [(18, 1)] }).lasting.get 0 18 := by
  and_intros <;> decide +kernel

/-- A loaded copy of component 6 that has lost a byte. -/
theorem witness_Alarms_measured : BitVec.ofNat 256 (sha256 ([].foldl State.spoil (alarmed 0 0 none) |>.hearth.loaded.get [] 6)) ≠
    (alarmed 0 0 none).hearth.measures.get 0#256 6 ∧ (alarmed 0 0 none).sloe.merge = none ∧ (alarmed 0 0 none).hearth.measured = true := by
  and_intros <;> decide +kernel

/-! Debug, trace, watchdogs -/

/-- Slot 7, cluster 99, kind 3, what 2, command 65,535. -/
def breakB (act slot : Nat) : BitVec 2048 := blk 0xA0 8 (slot + act * 2 ^ 8 + 3 * 2 ^ 16 + 2 * 2 ^ 24 + 65535 * 2 ^ 32 + 99 * 2 ^ 48)
def halted : State := ask { State.reset with clusters := [(99, { Cluster.zero with stw := { Steward.zero with halted := true } })] }
def traceB : BitVec 2048 := blk 0xA3 12 (1 + 0xFF * 2 ^ 8 + 20 * 2 ^ 16 + 10000 * 2 ^ 32)
theorem witness_DebugCommands : Ready halted (.mgmt 0 (breakB 1 7)) 0xA0 8 (breakB 1 7) ∧ blkByte (breakB 1 7) 7 = 0 ∧ blkByte (breakB 1 7) 1 = 1 ∧
    blkByte (breakB 1 7) 0 = 7 ∧ blkByte (breakB 1 7) 2 < 4 ∧ blkByte (breakB 1 7) 3 < 3 ∧ blkByte (breakB 1 7) 6 < 100 ∧
    Ready halted (.mgmt 0 (breakB 0 7)) 0xA0 8 (breakB 0 7) ∧ blkByte (breakB 0 7) 1 = 0 ∧ Ready halted (.mgmt 0 (breakB 2 0)) 0xA0 8 (breakB 2 0) ∧
    (halted.cluster (blkByte (breakB 2 0) 6)).stw.halted = true ∧ 2 < blkByte (breakB 3 0) 1 ∧ Ready halted (.mgmt 0 traceB) 0xA3 12 traceB ∧
    blkByte traceB 0 < 32 ∧ blkByte traceB 3 = 0 ∧ blkNum traceB 6 2 = 0 ∧ blkByte traceB 2 = 20 ∧ blkNum traceB 4 2 = 10000 :=
  ⟨ready_mgmt (by decide +kernel) rfl rfl, by decide +kernel, by decide +kernel, by decide +kernel, by decide +kernel, by decide +kernel,
    by decide +kernel, ready_mgmt (by decide +kernel) rfl rfl, by decide +kernel, ready_mgmt (by decide +kernel) rfl rfl, by decide +kernel,
    by decide +kernel, ready_mgmt (by decide +kernel) rfl rfl, by decide +kernel, by decide +kernel, by decide +kernel, by decide +kernel,
    by decide +kernel⟩
/-- Action, scope; items 6 and 7, clusters as given. -/
def stopB (act scope clusters : Nat) : BitVec 2048 := blk 0xA1 24 (act + scope * 2 ^ 8 + 0xC0 * 2 ^ 24 + clusters * 2 ^ 32)
/-- Stopped or not, scans allowed or not. -/
def halting (stopped scans : Bool) : State :=
  ask { State.reset with dbg := { Dbg.reset with
    stop := if stopped then 0x8000000000000000#64 else 0#64, ctl := if scans then 0x10000000#32 else 0#32 } }
theorem witness_DebugCommands_stop : Ready (halting true true) (.mgmt 0 (stopB 2 0 1)) 0xA1 24 (stopB 2 0 1) ∧ blkNum (stopB 2 0 1) 17 7 = 0 ∧
    blkNum (stopB 2 0 (2 ^ 100 - 1)) 4 13 < 2 ^ 100 ∧ blkByte (stopB 2 0 1) 0 = 2 ∧ blkByte (stopB 2 0 1) 1 = 0 ∧ blkByte (stopB 2 0 1) 2 ≤ 1 ∧
    (halting true true).stopped = true ∧ bitOf (halting true true).dbg.ctl 28 = true ∧ (halting false false).stopped = false ∧
    (halting false false).dbg.stopAt = none ∧ bitOf (halting false false).dbg.ctl 28 = false ∧ blkByte (stopB 0 2 0) 1 = 2 ∧
    blkByte (stopB 0 1 0) 1 = 1 ∧ (halting true true).hearth.running = none ∧
    (halting true true).scanBytes (blkByte (stopB 2 0 0) 3) (blkNum (stopB 2 0 0) 4 13) = [] ∧
    (halting true true).scanBytes (blkByte (stopB 2 0 1) 3) (blkNum (stopB 2 0 1) 4 13) ≠ [] :=
  ⟨ready_mgmt (by decide +kernel) rfl rfl, by decide +kernel, by decide +kernel, by decide +kernel, by decide +kernel, by decide +kernel,
    by decide +kernel, by decide +kernel, by decide +kernel, by decide +kernel, by decide +kernel, by decide +kernel, by decide +kernel, rfl,
    by decide +kernel, by decide +kernel⟩
def freezeB (mode w : Nat) : BitVec 2048 := blk 0xA4 24 (mode + w * 2 ^ 64)
/-- A freeze that stands, or a time counter that is set. -/
def frosty (f v : Bool) : State :=
  ask { State.reset with frozen := if f then some [] else none, tim := { Tim.reset with valid := v } }
theorem witness_DebugCommands_freeze : Ready (frosty false true) (.mgmt 0 (freezeB 1 (999999999 * 2 ^ 24))) 0xA4 24 (freezeB 1 (999999999 * 2 ^ 24)) ∧
    blkNum (freezeB 1 (999999999 * 2 ^ 24)) 2 6 = 0 ∧ blkByte (freezeB 1 (999999999 * 2 ^ 24)) 1 = 0 ∧
    fld (BitVec.ofNat 128 (blkNum (freezeB 1 (999999999 * 2 ^ 24)) 8 16)) 127 102 = 0 ∧
    (timeOf (BitVec.ofNat 128 (blkNum (freezeB 1 (999999999 * 2 ^ 24)) 8 16))).ns = 999999999 ∧ (frosty false true).tim.valid = true ∧
    (frosty false false).tim.valid = false ∧ (frosty false false).frozen = none ∧ (frosty false false).dbg.cutAt = none ∧ (frosty true false).frozen ≠ none ∧
    blkByte (freezeB 2 0) 0 = 2 ∧ 2 < blkByte (freezeB 3 0) 0 ∧
    Ready (askPorch State.reset (blk 0xA2 12 (4096 * 2 ^ 64))) (.porch 0) 0xA2 12 (blk 0xA2 12 (4096 * 2 ^ 64)) ∧
    Ready (ask State.reset) (.mgmt 0 (blk 0xA2 12 0)) 0xA2 12 (blk 0xA2 12 0) :=
  ⟨ready_mgmt (by decide +kernel) rfl rfl, by decide +kernel, by decide +kernel, by decide +kernel, by decide +kernel, rfl, rfl, rfl, rfl, by decide,
    by decide +kernel, by decide +kernel, ready_porch (by decide +kernel) rfl rfl rfl rfl (by decide), ready_mgmt (by decide +kernel) rfl rfl⟩

/-- A stop whose regions are aligned at 9. -/
def stopping (ends : Option Nat) : State :=
  { halting true false with clk := { Clk.reset with wall := 9, stopEnds := ends } }
theorem witness_DebugCommands_resume : (stopping (some 9)).stopped = true ∧ (stopping (some 9)).clk.stopEnds = some 9 ∧ 9 ≤ (stopping (some 9)).clk.wall ∧
    (stopping (some 9)).clk.change = none ∧ (stopping (some 9)).clk.resumeAt = none ∧ (stopping (some 9)).clk.startAt = none ∧
    (stopping (some 9)).clk.alignBad = false ∧ (stopping (some 9)).hearth.noAdmit ≠ 0x0624 ∧ (stopping none).clk.stopEnds = none := by
  and_intros <;> decide +kernel

/-- Trace with `n` records waiting, control as given, a freeze at 1 us, the time counter at `ns`. -/
def tracing (n ns : Nat) (ctl : W32) : State :=
  { State.reset with
    dbg := { Dbg.reset with ctl := ctl, trace := List.replicate n 0#128, freezeAt := some (⟨0, 1000, 0⟩, 1, 3, 5) }
    tim := { Tim.reset with now := ⟨0, ns, 0⟩ }, clk := { Clk.reset with linkRun := true } }
theorem witness_TracePort : (tracing 1 1000 0xC00003E8#32).dbg.freezeAt = some (⟨0, 1000, 0⟩, 1, 3, 5) ∧ State.reset.dbg.freezeAt = none ∧
    (tracing 1 1000 0#32).tim.now.reached ⟨0, 1000, 0⟩ = true ∧ (tracing 1 999 0#32).tim.now.reached ⟨0, 1000, 0⟩ = false ∧
    (tracing 1 0 0#32).frozen = none ∧ (tracing 1 0 0#32).dbg.cutAt = none ∧ bitOf (tracing 0 0 0xC00003E8#32).dbg.ctl 30 = true ∧
    bitOf (tracing 0 0 0xC00003E8#32).dbg.ctl 31 = true ∧ bitOf (tracing 0 0 0x400003E8#32).dbg.ctl 31 = false ∧
    (tracing 0 1000000 0xC00003E8#32).dbg.markAt <
      ((tracing 0 1000000 0xC00003E8#32).tim.now.sec * 1000000 + (tracing 0 1000000 0xC00003E8#32).tim.now.ns / 1000) /
        max (fld (tracing 0 1000000 0xC00003E8#32).dbg.ctl 13 0) 1 ∧
    ((tracing 0 999999 0xC00003E8#32).tim.now.sec * 1000000 + (tracing 0 999999 0xC00003E8#32).tim.now.ns / 1000) /
        max (fld (tracing 0 999999 0xC00003E8#32).dbg.ctl 13 0) 1 = (tracing 0 999999 0xC00003E8#32).dbg.markAt ∧
    0 < ({ Dbg.reset with markAt := 1 }).markAt ∧ (tracing 4095 0 0#32).dbg.trace.length < 4096 ∧ (tracing 0 0 0#32).clk.linkRun = true ∧
    State.reset.clk.linkRun = false ∧ (tracing 0 0 0#32).dbg.trace = [] ∧ (tracing 0 0 0#32).dbg.scan = none ∧ (tracing 1 0 0#32).dbg.trace ≠ [] ∧
    (tracing 1 0 0#32).dbg.lossRun = 0 ∧ 256 < (List.replicate 257 0#8).length ∧ Dbg.reset.scanPath = 0 := by and_intros <;> decide +kernel

/-- Stage 4 and the Barrin link in a state, up `n` times before. -/
def barrinAt (st n : Nat) : State :=
  { State.reset with
    hearth := { Hearth.reset with barrin := st, barrinUps := n }, sloe := { Sloe.reset with stage := 4 }
    pins := { State.reset.pins with resetN := true, porstN := true } }
theorem witness_WatchdogsAndBarrin : (barrinAt 0 0).hearth.running = none ∧ (savable 1).hearth.running = some 0 ∧ ((savable 1).ctx 0).job ∈ [1, 2] ∧
    (savable 1).stopped = false ∧ (savable 1).hearth.wedged = false ∧ (savable 1).hearth.ready = true ∧ State.reset.hearth.ready = false ∧
    (barrinAt 0 0).hearth.barrin = 0 ∧ (barrinAt 4 1).hearth.barrin = 4 ∧ 4 ≤ (barrinAt 0 1).sloe.stage ∧ (barrinAt 0 1).hearth.pState ≠ 3 ∧
    (barrinAt 0 1).pins.resetN = true ∧ (barrinAt 0 1).pins.porstN = true ∧ 0 < (barrinAt 0 1).hearth.barrinUps ∧ (barrinAt 0 0).hearth.barrinUps = 0 ∧
    (1#8).toNat ≤ 1 ∧ 1#8 ≠ 0#8 ∧ ¬ (2#8).toNat ≤ 1 ∧ (barrinAt 0 0).hearth.wedged = false ∧ (barrinAt 0 0).hearth.recovery = false ∧
    State.reset.sloe.stage < 4 ∧ (0xEF#8).toNat % 16 = 15 ∧ (0xF7#8).toNat / 16 = 15 ∧ (0xF7#8).toNat % 16 ≠ 15 ∧ (0xEF#8) ≠ 0xFF#8 ∧
    (barrinAt 2 0).hearth.barrin < 3 ∧ (barrinAt 3 0).hearth.barrin = 3 ∧ (barrinAt 3 0).clk.wall < (barrinAt 3 0).hearth.barrinAt + quMs 100 ∧
    (barrinAt 3 0).hearth.barrinAt + quMs 100 ≤ ({ barrinAt 3 0 with clk := { Clk.reset with wall := quMs 100 } }).clk.wall ∧
    ((savable 0).ctx 0).job ∉ [1, 2] := by and_intros <;> decide +kernel

/-! Recording and replay -/

/-- Recording into one unit of 2 MiB at offset 0 of context 0, whose save area lies far off. -/
def recording (ctl : W64) (size : Nat) (job : Nat) : State :=
  let s := ctxState 0 { Ctx.zero with state := 3, saveBase := 100, regions := [0], job := job } (some 0)
  { s with
    hearth := { s.hearth with rec_ := { s.hearth.rec_ with ctl := ctl + BitVec.ofNat 64 (size * 2 ^ 20) } }
    cel := { Cellar.reset with keys := [(0, ⟨true, 1#8, 0#256⟩)], regions := [(0, win 0 0x1FFFFF 0 + BitVec.ofNat 128 (2 ^ 127))] } }
theorem witness_RecordAndReplay_enable : (recording 0#64 1 0).hearth.running = some 0 ∧ bitOf (recording 0#64 1 0).hearth.rec_.ctl 63 = false ∧
    bitOf (recording 0#64 1 0).hearth.rec_.ctl 62 = false ∧ (recording 0#64 1 0).logAreaOk 0 (recording 0#64 1 0).hearth.rec_.ctl = true ∧
    ¬ (recording 0#64 0 0).logAreaOk 0 (recording 0#64 0 0).hearth.rec_.ctl = true ∧ ¬ (recording 0#64 2 0).logAreaOk 0 (recording 0#64 2 0).hearth.rec_.ctl = true ∧
    bitOf (recording 0x4000000000000000#64 1 1).hearth.rec_.ctl 62 = true ∧ ((recording 0x4000000000000000#64 1 1).ctx 0).job = 1 ∧
    bitOf (recording 0x8000000000000000#64 1 1).hearth.rec_.ctl 63 = true ∧ State.reset.hearth.running = none := by and_intros <;> decide +kernel
/-- Block 0, sealed for context 0 under epoch 0. -/
theorem block_read {s : State} {z : BitVec 256} {ct : List Byte} (hk : s.cel.keys.get KeySet.zero 0 = ⟨true, 0#8, z⟩)
    (hb : s.hbmRaw 0 = (s, some (ct, hbmTag z 0 0#8 0 ct))) :
    s.hbmBlock 0 0 = (s, (xtsDec (ctxKey "CLX1" z 0 0#8) (ctxKey "CLX2" z 0 0#8) 0 ct, 0)) := by
  have ht := hbmTag_lt z 0 0#8 0 ct
  unfold State.hbmBlock
  rw [hb]
  dsimp only
  rw [hk]
  dsimp only
  have e1 : hbmTag z 0 0#8 0 ct / 2 ^ 56 = 0 := Nat.div_eq_of_lt ht
  have e2 : hbmTag z 0 0#8 0 ct % 2 ^ 56 = hbmTag z 0 0#8 0 ct := Nat.mod_eq_of_lt ht
  rw [e1, e2, if_neg (by simp), if_neg (by simp)]
/-- A read inside block 0. -/
theorem read_block {s : State} {l : List Byte} (hb : s.hbmBlock 0 0 = (s, (l, 0))) (off n : Nat) (ha : s.hbmAllowed 0 off n = true)
    (h0 : off / 256 = 0) (h1 : (off + n - 1) / 256 = 0) : s.hbmRead 0 off n = (s, ((l.drop (off % 256)).take n, 0)) := by
  have h3 : List.range (0 - 0 + 1) = [0] := rfl
  unfold State.hbmRead
  rw [ha, h0, h1, h3]
  simp [hb]
/-- An entry of SET_POWER_CAP over the management channel, SEQ 2, REASON 0, and its payload. -/
def entryHead : Nat := 0x51 * 2 ^ 112 + 2 ^ 132 + 8 * 2 ^ 88 + 2 * 2 ^ 32 + 2 ^ 96
def entryPay : Nat := 1000 + 20 * 2 ^ 16 + 2 ^ 32 + 85 * 2 ^ 48
/-- Sixty-four bytes that decrypt, as block 0 of context 0 under epoch 0 of the secret 0, to that entry. -/
def logCt : BitVec 2048 := 0x6a81ef9af11e0c072effc02e5205f5e7a41b9b381d4ec7eb413159aeedc798af7030d2741305068e10087ea462b111ea38aa99273b1eeb58d196ac77430c439c#2048
theorem log_plain : (xtsDec (ctxKey "CLX1" 0#256 0 0#8) (ctxKey "CLX2" 0#256 0 0#8) 0 (leBytes 256 logCt.toNat)).take 64 =
    leBytes 32 entryHead ++ leBytes 32 entryPay := by decide +kernel
/-- Replay at the head of that log, one entry done. -/
def replay : State :=
  let s := askPorch State.reset 0#2048
  { s with
    hearth := { s.hearth with rec_ := { s.hearth.rec_ with
      ctl := 0xC000000000000000#64 + BitVec.ofNat 64 (2 ^ 20), active := true, rdPos := 0, entries := 1, rdSeq := 1, ctx := 0 } }
    cel := { celZ 0#256 with blocks := [(0, some ⟨logCt, BitVec.ofNat 64 (hbmTag 0#256 0 0#8 0 (leBytes 256 logCt.toNat))⟩)] } }
theorem witness_RecordAndReplay : replay.replaying = true ∧ replay.hearth.switchSrc = none ∧ replay.dbg.scanSrc = none ∧ nfld entryHead 63 32 = replay.hearth.rec_.rdSeq + 1 ∧
    nfld entryHead 127 112 = 0x51 ∧ nfld entryHead 133 132 ≠ 0 ∧ replay.entryTurn entryHead = .eq ∧
    nfld entryHead 103 96 = replay.hearth.protoSel.toNat ∧ replay.hearth.recovery = false ∧ replay.sloe.latched = false ∧
    nfld entryHead 95 88 = 8 ∧ nfld entryHead 87 72 = 0 ∧ replay.entryTurn entryHead ≠ .lt ∧
    blkNum (entryBlock entryHead (leBytes 8 entryPay)) 0 2 = 1000 ∧ blkNum (entryBlock entryHead (leBytes 8 entryPay)) 2 2 = 20 ∧
    blkNum (entryBlock entryHead (leBytes 8 entryPay)) 4 2 = 1 ∧ blkByte (entryBlock entryHead (leBytes 8 entryPay)) 6 = 85 ∧
    State.reset.replaying = false ∧ recSize replay.hearth.rec_.ctl = 0x200000 := by and_intros <;> decide +kernel
theorem replay_block : replay.hbmBlock 0 0 =
    (replay, (xtsDec (ctxKey "CLX1" 0#256 0 0#8) (ctxKey "CLX2" 0#256 0 0#8) 0 (leBytes 256 logCt.toNat), 0)) := by
  apply block_read (s := replay) (z := 0#256) (by rfl)
  have h1 : replay.cel.symErr = [] := rfl
  have h2 : replay.cel.block 0 = ⟨logCt, BitVec.ofNat 64 (hbmTag 0#256 0 0#8 0 (leBytes 256 logCt.toNat))⟩ := rfl
  unfold State.hbmRaw
  rw [if_pos h1, h2]
  dsimp only
  rw [BitVec.toNat_ofNat, Nat.mod_eq_of_lt (Nat.lt_trans (hbmTag_lt _ _ _ _ _) (by decide))]
theorem log_split (l : List Byte) (h : l.take 64 = leBytes 32 entryHead ++ leBytes 32 entryPay) :
    l.take 32 = leBytes 32 entryHead ∧ (l.drop 32).take 32 = leBytes 32 entryPay := by
  have h1 : (l.take 64).take 32 = l.take 32 := by simp [List.take_take]
  have h2 : (l.take 64).drop 32 = (l.drop 32).take 32 := by simp [List.drop_take]
  rw [← h1, ← h2, h]
  constructor <;> decide +kernel
theorem log_of {s : State} {hd : Nat} {h x : List Byte} (c : s.hearth.rec_.ctx = 0) (b : recBase s.hearth.rec_.ctl = 0)
    (z : ¬ recSize s.hearth.rec_.ctl < 0 + 32) (r1 : s.hbmRead 0 0 32 = (s, (h, 0))) (r2 : s.hbmRead 0 32 32 = (s, (x, 0)))
    (e : leNat h = hd) (e1 : ceilDiv (nfld hd 95 88) 32 * 32 = 32) (e2 : ¬ nfld hd 134 134 = 1) (n : x.length ≤ 32) :
    s.logAt 0 = (s, some (hd, x, none, 64)) := by
  unfold State.logAt
  simp only [c, b, if_neg z, Nat.zero_add, r1, e, e1, if_neg e2, Nat.add_zero, r2, ne_eq, not_true_eq_false, if_false, List.take_of_length_le n]
  simp
theorem log_at (l : List Byte) (hl : l.take 64 = leBytes 32 entryHead ++ leBytes 32 entryPay) (hb : replay.hbmBlock 0 0 = (replay, (l, 0))) :
    replay.logAt 0 = (replay, some (entryHead, leBytes 32 entryPay, none, 64)) := by
  have h := log_split l hl
  have r1 := read_block hb 0 32 (by decide +kernel) (by decide) (by decide)
  have r2 := read_block hb 32 32 (by decide +kernel) (by decide) (by decide)
  rw [show (0 : Nat) % 256 = 0 from rfl, List.drop_zero, h.1] at r1
  rw [show (32 : Nat) % 256 = 32 from rfl, h.2] at r2
  exact log_of rfl (by decide +kernel) (by decide +kernel) r1 r2 (by decide +kernel) (by decide +kernel) (by decide +kernel) (by decide +kernel)
/-- What the log holds there: that entry; the hypotheses on the entry of witness_RecordAndReplay are about it. -/
theorem witness_RecordAndReplay_log : replay.logAt 0 = (replay, some (entryHead, leBytes 32 entryPay, none, 64)) :=
  log_at _ log_plain replay_block

/-! Bring-up, resets, heat, the test port -/

/-- Stage `n` with flash of `part`, RESET_N high. -/
def stageAt (n active : Nat) (cand : Option Nat) : State :=
  let s := part cand
  { s with
    hearth := Hearth.reset, sloe := { Sloe.reset with stage := n, strapped := true }
    pins := { s.pins with vaux := true, porstN := true, resetN := true }
    flash := { s.flash with active := active, bootA := some ⟨5, active, cand, 2⟩, bootB := some ⟨4, 1 - active, none, 0⟩ } }
theorem witness_BringUp : (stageAt 3 1 none).flash.readRec.cand = none ∧ (stageAt 3 1 none).flash.readRec.active = 1 ∧
    (stageAt 3 1 none).fwCheck ((stageAt 3 1 none).fwSlot 1) = 0 ∧ (stageAt 3 0 none).flash.readRec.active = 0 ∧
    (stageAt 3 0 none).fwCheck ((stageAt 3 0 none).fwSlot 0) ≠ 0 ∧ State.reset.flash.readRec.active = 0 ∧
    State.reset.fwCheck (State.reset.fwSlot 0) ≠ 0 ∧ State.reset.fwCheck (State.reset.fwSlot 1) ≠ 0 ∧
    (stageAt 3 0 (some 1)).flash.readRec.cand = some 1 ∧ (stageAt 3 0 (some 1)).flash.readRec.tries < 3 ∧
    (stageAt 3 1 (some 0)).flash.readRec.cand = some 0 ∧ (stageAt 3 1 (some 0)).flash.readRec.active = 1 ∧
    3 ≤ ({ (stageAt 3 0 (some 1)).flash with bootA := some ⟨5, 0, some 1, 3⟩ }).readRec.tries := by and_intros <;> decide +kernel
theorem witness_BringUp_stages : (stageAt 0 0 none).sloe.strapped = true ∧ (stageAt 0 0 none).pins.vaux = true ∧ State.reset.sloe.strapped = false ∧
    State.reset.sloe.stage = 0 ∧ (stageAt 1 0 none).pins.porstN = true ∧ (stageAt 3 0 none).pins.resetN = true ∧ (stageAt 3 0 none).hearth.recovery = false ∧
    (stageAt 4 0 none).hearth.noAdmit ≠ 0x0310 ∧ (stageAt 4 0 none).hearth.ready = false ∧ (stageAt 4 0 none).sloe.latched = false ∧
    (stageAt 4 0 none).hearth.wedged = false ∧ (stageAt 5 0 none).hearth.noAdmit ≠ 0x0624 ∧ (stageAt 5 0 none).flash.scrub = [] ∧
    ({ State.reset.flash with scrub := [(0, [])] }).scrub ≠ [] ∧ ({ Hearth.reset with entropyOk := false }).entropyOk = false ∧ (stageAt 5 0 none).hearth.running = none ∧
    (stageAt 5 0 none).stopped = false ∧ (stageAt 5 0 none).clk.resumeAt = none ∧ (stageAt 5 0 none).sloe.stage = 5 ∧ (stageAt 6 0 none).sloe.stage = 6 ∧
    ({ Sloe.reset with latched := true }).latched = true ∧ (stageAt 4 0 none).tim.linked = false ∧ (stageAt 4 0 none).hearth.pState ≠ 3 := by
  and_intros <;> decide +kernel
/-- Stage `n` begun at 0, at wall time `w`. -/
def late (n w : Nat) : State := { stageAt n 0 none with clk := { Clk.reset with wall := w } }
theorem witness_BringUp_timeout : (late 4 (quMs 200)).sloe.stageAt + quMs 200 ≤ (late 4 (quMs 200)).clk.wall ∧ (late 4 0).hearth.ready = false ∧
    (late 4 0).stopped = false ∧ (late 4 0).clk.resumeAt = none ∧ (late 5 (quMs 1000)).sloe.stageAt + (quMs 1000 + 0 * quUs 25500) ≤ (late 5 (quMs 1000)).clk.wall ∧
    (late 5 0).flash.scrub.length = 0 ∧ (late 2 (quMs 20)).sloe.stageAt + quMs 20 ≤ (late 2 (quMs 20)).clk.wall ∧ (late 2 0).hearth.pState ≠ 3 ∧
    (late 2 (quMs 20 - 1)).clk.wall < (late 2 0).sloe.stageAt + quMs 20 ∧ (late 3 0).sloe.stage ∉ [2, 4, 5] := by and_intros <;> decide +kernel

/-- Supply and reset lines low. -/
def allLow : State := { State.reset with pins := { State.reset.pins with vaux := false, porstN := false, resetN := false } }
theorem witness_ResetsAndFaults : allLow.pins.vaux = false ∧ (stageAt 2 0 none).pins.vaux = true ∧ (stageAt 2 0 none).pins.porstN = true ∧
    (stageAt 2 0 none).sloe.stage = 2 ∧ State.reset.sloe.stage = 0 ∧ allLow.pins.porstN = false ∧ allLow.pins.resetN = false ∧
    (stageAt 2 0 none).pins.resetN = true ∧ (stageAt 2 0 none).hearth.pState ≠ 3 ∧ (stageAt 3 0 none).sloe.stage = 3 ∧
    (stageAt 3 0 none).sloe.merge = none ∧ asleep.hearth.pState = 3 ∧ asleep.sloe.stage ≠ 0 ∧ (stageAt 2 0 none).flash.log.length < 1024 ∧
    (stageAt 3 0 none).hearth.running = none ∧ (savable 1).hearth.running = some 0 ∧ ((savable 1).ctx 0).job ∈ [1, 2] ∧ (savable 1).stopped = false ∧
    (savable 1).clk.startAt = none ∧ (savable 1).hearth.noAdmit ≠ 0x0624 ∧ (savable 1).clk.resumeAt = none ∧ (savable 1).hearth.pState ≤ 1 ∧
    ({ asleep with pins := { asleep.pins with resetN := true } }).pins.resetN = true := by and_intros <;> decide +kernel
/-- The TAP in a state with an instruction. -/
def tap (st : TapState) (ir : Byte) : State :=
  { State.reset with
    jtag := { State.reset.jtag with st := st, ir := ir }, pins := { State.reset.pins with vaux := true, resetN := true, porstN := true } }
theorem witness_TestPort : (tap .idle 1#8).pins.vaux = true ∧ (tap .idle 1#8).pins.resetN = true ∧ (tap .idle 1#8).pins.porstN = true ∧
    allLow.pins.vaux = false ∧ TapState.idle ∉ [.capDr, .shDr, .capIr, .shIr] ∧
    TapState.idle.step false ∉ [.shDr, .shIr, .updDr, .updIr, .reset] ∧ (tap .reset 1#8).jtag.st = .reset ∧ (tap .capIr 1#8).jtag.st = .capIr ∧
    (tap .shIr 1#8).jtag.st = .shIr ∧ (tap .ex1Ir 1#8).jtag.st = .ex1Ir ∧ (tap .capDr 1#8).jtag.ir = 1#8 ∧ (tap .capDr 0xFF#8).jtag.ir = 0xFF#8 ∧
    (tap .capDr 0xFF#8).jtag.st = .capDr ∧ (tap .shDr 1#8).jtag.ir ≠ 0x20#8 := by and_intros <;> decide +kernel

/-! The whole machine -/

/-- A port whose link is down; an active one whose frame counter still runs. -/
theorem witness_ReceivedFrames : (State.reset.port 7).state < 3 ∧ ({ up with half := 3, hop := 4 }).half < ({ up with half := 3, hop := 4 }).hop ∧
    up.hop ≤ up.half ∧ up.rxWait = [] ∧ (up.state = 7 ∨ up.state = 8) ∧ up.rxCtr < 2 ^ 40 ∧
    (up.tagFails.filter (fun x => (0 : Nat) < x + quMs 1000)).length < 3 := by and_intros <;> decide +kernel
theorem witness_SramStaysCanonical : SramCanonical State.reset ∧ AlarmLineHolds State.reset := by
  refine ⟨⟨?_, ?_⟩, rfl⟩ <;> decide
/-- At reset with a strap sample in front the step answers a next state. -/
theorem witness_AlarmLine : ∃ t, step { State.reset with pending := [.strapSample 0#32] } = .next t := ⟨_, rfl⟩
theorem witness_FusesOnlyRise : ∃ t, step { State.reset with pending := [.fwCommit (.porch 3)] } = .next t := ⟨_, rfl⟩
def latchedS : State := { State.reset with sloe := { Sloe.reset with latched := true }, pending := [.droop 8 4] }
theorem witness_AlarmLine_latched : latchedS.sloe.latched = true ∧ (∀ l, latchedS.pending ≠ .sloeReset :: l) ∧
    (∀ l, latchedS.pending ≠ .sloePowerOn :: l) :=
  ⟨rfl, fun l h => by simp [latchedS] at h, fun l h => by simp [latchedS] at h⟩
/-- A step that empties the queue: the front command is run, what waits stays. -/
theorem test_step : ∃ t, step { State.reset with pending := [.droop 8 4, .stretchToken] } = .next t ∧ t.pending = [.stretchToken] ∧
    t.clk.domPend.get 0 8 = 4 := ⟨_, rfl, rfl, rfl⟩

/-! Received frames -/

/-- The tag and the parity of a frame of no ciphertext, its side band 0. -/
def frameBits : BitVec 10240 := BitVec.ofNat 10240 (307885732422008982864658890128266792225337750481606885867297512177954812461464801888847 * 2 ^ 9952)
def frameTail : List Nat := (List.range 29).map (fun k => nfld frameBits.toNat (10 * (994 + k) + 19) (10 * (994 + k) + 10))
theorem frame_symbols : (List.range 1023).map (fun k => nfld frameBits.toNat (10 * k + 19) (10 * k + 10)) = List.replicate 994 0 ++ frameTail := by
  decide +kernel
theorem fold_zeros (a n : Nat) (h : gf10Mul 0 a = 0) : (List.replicate n 0).foldl (fun acc c => gf10Mul acc a ^^^ c) 0 = 0 := by
  induction n with
  | zero => rfl
  | succ n ih => rw [List.replicate_succ, List.foldl_cons, h]; exact ih
theorem frame_tail : (List.range 16).all (fun j => gf10Mul 0 (gf10Pow 2 j) == 0 &&
    frameTail.foldl (fun acc c => gf10Mul acc (gf10Pow 2 j) ^^^ c) 0 == 0) = true := by decide +kernel
theorem frame_syndromes : (rsSyn (List.replicate 994 0 ++ frameTail)).all (· == 0) = true := by
  unfold rsSyn
  rw [List.all_map]
  refine List.all_eq_true.mpr (fun j hj => ?_)
  have h := List.all_eq_true.mp frame_tail j hj
  rw [Bool.and_eq_true, beq_iff_eq, beq_iff_eq] at h
  simp only [Function.comp, List.foldl_append, beq_iff_eq]
  rw [fold_zeros _ _ h.1]
  exact h.2
theorem rsDecode_clean {w : List Nat} (h : (rsSyn w).all (· == 0) = true) : rsDecode w = some (w, 0) := by
  unfold rsDecode; simp only [h, if_true]
theorem pack_zeros (w n : Nat) (l : List Nat) : packBits w (List.replicate n 0 ++ l) = packBits w l * (2 ^ w) ^ n := by
  induction n with
  | zero => simp
  | succ n ih =>
    rw [List.replicate_succ, List.cons_append, Nat.pow_succ, ← Nat.mul_assoc, ← ih]
    simp [packBits]
theorem repack {N n : Nat} {l : List Nat} (h0 : nfld N 9 0 = 0) (h : packBits 10 l * (2 ^ 10) ^ n * 2 ^ 10 = N) :
    nfld N 9 0 + packBits 10 (List.replicate n 0 ++ l) * 2 ^ 10 = N := by
  rw [h0, pack_zeros, h, Nat.zero_add]
theorem repack_none (n : Nat) : nfld 0 9 0 + packBits 10 (List.replicate n 0 ++ []) * 2 ^ 10 = 0 :=
  repack (by decide) (by simp [packBits])
theorem frame_repack : nfld frameBits.toNat 9 0 + packBits 10 (List.replicate 994 0 ++ frameTail) * 2 ^ 10 = frameBits.toNat :=
  repack (by decide +kernel) (by decide +kernel)
theorem rxDecode_clean {bits : BitVec 10240} {N : Nat} {w : List Nat} (hN : bits.toNat = N)
    (hs : (List.range 1023).map (fun k => nfld N (10 * k + 19) (10 * k + 10)) = w) (h : rsDecode w = some (w, 0))
    (hp : nfld N 9 0 + packBits 10 w * 2 ^ 10 = N) : rxDecode bits = ⟨N, true, 0⟩ := by
  subst hN; unfold rxDecode; simp only [hs, h, hp]
theorem frame_decoded : rxDecode frameBits = ⟨frameBits.toNat, true, 0⟩ :=
  rxDecode_clean rfl frame_symbols (rsDecode_clean frame_syndromes) frame_repack
theorem frame_plain : (gcmOpen 0 (leBytes 4 0 ++ leBytes 8 0) (leBytes 9 0) (List.replicate 1200 0#8)).2 =
    106060399403061026273243952158818878017 := by decide +kernel
theorem frame_fields : RxFrame.aad ⟨frameBits.toNat, true, 0⟩ = leBytes 9 0 ∧ RxFrame.ct ⟨frameBits.toNat, true, 0⟩ = List.replicate 1200 0#8 ∧
    RxFrame.tag ⟨frameBits.toNat, true, 0⟩ = 106060399403061026273243952158818878017 ∧ RxFrame.sb ⟨frameBits.toNat, true, 0⟩ = 0 ∧
    RxFrame.aad ⟨0, true, 0⟩ = leBytes 9 0 ∧ RxFrame.ct ⟨0, true, 0⟩ = List.replicate 1200 0#8 ∧ RxFrame.tag ⟨0, true, 0⟩ = 0 := by
  and_intros <;> decide +kernel
theorem frame_lanes : laneJoin 3 (laneSplit 3 frameBits) = frameBits ∧ laneJoin 3 [] = 0#10240 := by and_intros <;> decide +kernel
theorem frame_none : rxDecode 0#10240 = ⟨0, true, 0⟩ :=
  rxDecode_clean (w := List.replicate 1023 0 ++ []) BitVec.toNat_zero (by decide +kernel) (rsDecode_clean (by
    unfold rsSyn
    rw [List.all_map]
    refine List.all_eq_true.mpr (fun j hj => ?_)
    have h := List.all_eq_true.mp frame_tail j hj
    rw [Bool.and_eq_true, beq_iff_eq, beq_iff_eq] at h
    simp only [Function.comp, List.append_nil, beq_iff_eq]
    exact fold_zeros _ _ h.1)) (repack_none 1023)
/-- A frame of no ciphertext under the key 0, session id 0, counter 0: on the lanes of width 3 it decodes, with its tag. -/
theorem witness_ReceivedFrames_good :
    let f := rxDecode (laneJoin 3 (laneSplit 3 frameBits))
    f.corr = true ∧ f.sb / 2 ^ 45 % 256 = 0 % 256 ∧ f.sb.testBit 3 = false ∧ f.sb.testBit 4 = false ∧
      (gcmOpen 0 (leBytes 4 0 ++ leBytes 8 0) f.aad f.ct).2 = f.tag := by
  intro f
  have e : f = ⟨frameBits.toNat, true, 0⟩ := (congrArg rxDecode frame_lanes.1).trans frame_decoded
  obtain ⟨h1, h2, h3, h4, -⟩ := frame_fields
  rw [e, h1, h2, h3, h4]
  exact ⟨rfl, by decide, by decide, by decide, frame_plain⟩
/-- Lanes without a signal bring a frame whose tag fails. -/
theorem witness_ReceivedFrames_bad :
    let f := rxDecode (laneJoin 3 [])
    f.corr = true ∧ (gcmOpen 0 (leBytes 4 0 ++ leBytes 8 0) f.aad f.ct).2 ≠ f.tag := by
  intro f
  have e : f = ⟨0, true, 0⟩ := (congrArg rxDecode frame_lanes.2).trans frame_none
  obtain ⟨-, -, -, -, h1, h2, h3⟩ := frame_fields
  rw [e, h1, h2, h3, frame_plain]
  exact ⟨rfl, by decide⟩
end Sys2Proof.Test
end

section
/-! The values of the S slot's arithmetic (R92 to R94): each word operation of the model as the sum, product, quotient or
comparison of numbers that the rules' tables name. -/

namespace Sys2Proof.Machine

theorem eq_ofNat_of_toNat_eq {w n : Nat} {z : BitVec w} (h : z.toNat = n) : z = BitVec.ofNat w n := by
  rw [← h, BitVec.ofNat_toNat, BitVec.setWidth_eq]

theorem eq_ofInt_of_toInt_eq {w : Nat} {z : BitVec w} {i : Int} (h : z.toInt = i) : z = BitVec.ofInt w i := by
  rw [← h, BitVec.ofInt_toInt]

theorem sub_eq_ofInt {w : Nat} (x y : BitVec w) : x - y = BitVec.ofInt w (x.toNat - y.toNat) := by
  rw [Int.sub_eq_add_neg, BitVec.ofInt_add, BitVec.ofInt_neg]
  simp [BitVec.sub_eq_add_neg]

theorem mul_eq_ofNat {w : Nat} (x y : BitVec w) : x * y = BitVec.ofNat w (x.toNat * y.toNat) := by
  simp [BitVec.ofNat_mul]

theorem shiftLeft_eq_ofNat {w : Nat} (x : BitVec w) (n : Nat) : x <<< n = BitVec.ofNat w (x.toNat * 2 ^ n) :=
  BitVec.eq_of_toNat_eq (by simp [Nat.shiftLeft_eq])

theorem ushiftRight_eq_ofNat {w : Nat} (x : BitVec w) (n : Nat) : x >>> n = BitVec.ofNat w (x.toNat / 2 ^ n) :=
  eq_ofNat_of_toNat_eq (by rw [BitVec.toNat_ushiftRight, Nat.shiftRight_eq_div_pow])

theorem sshiftRight_eq_ofInt {w : Nat} (x : BitVec w) (n : Nat) : x.sshiftRight n = BitVec.ofInt w (x.toInt / 2 ^ n) :=
  eq_ofInt_of_toInt_eq (by simp [BitVec.toInt_sshiftRight, Int.shiftRight_eq_div_pow])

/-! The high half of a product: it is read from the product's integer, whichever reading of the operands made it. -/

theorem extractHigh_ofNat (n : Nat) : (BitVec.ofNat 128 n).extractLsb' 64 64 = BitVec.ofNat 64 (n / 2 ^ 64) := by
  apply BitVec.eq_of_toNat_eq
  simp only [BitVec.extractLsb'_toNat, BitVec.toNat_ofNat, Nat.shiftRight_eq_div_pow]
  omega

theorem extractHigh_ofInt (i : Int) : (BitVec.ofInt 128 i).extractLsb' 64 64 = BitVec.ofInt 64 (i / 2 ^ 64) := by
  apply BitVec.eq_of_toNat_eq
  simp only [BitVec.extractLsb'_toNat, BitVec.toNat_ofInt, Nat.shiftRight_eq_div_pow]
  omega

theorem mulHigh_signed (x y : W64) : mulHigh true x y = BitVec.ofInt 64 (x.toInt * y.toInt / 2 ^ 64) := by
  have hprod : x.signExtend 128 * y.signExtend 128 = BitVec.ofInt 128 (x.toInt * y.toInt) := (BitVec.ofInt_mul ..).symm
  rw [mulHigh, if_pos rfl, hprod, extractHigh_ofInt]

theorem mulHigh_unsigned (x y : W64) : mulHigh false x y = BitVec.ofNat 64 (x.toNat * y.toNat / 2 ^ 64) := by
  have hprod : x.zeroExtend 128 * y.zeroExtend 128 = BitVec.ofNat 128 (x.toNat * y.toNat) := by
    simp [BitVec.ofNat_mul]
  rw [mulHigh, if_neg Bool.false_ne_true, hprod, extractHigh_ofNat]

/-! Immediates -/

theorem toInt_sext64 {n : Nat} (x : BitVec n) (h : n ≤ 64) : (sext64 x).toInt = x.toInt := BitVec.toInt_signExtend_of_le h

theorem add_sext64_eq_ofInt {n : Nat} (x : W64) (y : BitVec n) : x + sext64 y = BitVec.ofInt 64 (x.toInt + y.toInt) := by
  rw [BitVec.ofInt_add, BitVec.ofInt_toInt, sext64, BitVec.signExtend]

theorem toNat_zext64 {n : Nat} (x : BitVec n) (h : n ≤ 64) : (zext64 x).toNat = x.toNat := by
  simp [zext64, Nat.mod_eq_of_lt (Nat.lt_of_lt_of_le x.isLt (Nat.pow_le_pow_right (by decide) h))]

/-- Shift counts up to 63 leave the reserved bits 13 to 6 zero (R92). -/
theorem shiftOk_of_lt {imm : BitVec 14} (h : imm.toNat < 64) : shiftOk imm = true := by
  simp [shiftOk, fld, Nat.div_eq_of_lt h]

/-- The number with the `w` bits from `lo` up replaced has the three parts that stand side by side in it. -/
theorem replaceField_eq (x v lo w : Nat) :
    x - x / 2 ^ lo % 2 ^ w * 2 ^ lo + v % 2 ^ w * 2 ^ lo
      = 2 ^ lo * (2 ^ w * (x / 2 ^ lo / 2 ^ w) + v % 2 ^ w) + x % 2 ^ lo := by
  have hx : x = 2 ^ lo * (2 ^ w * (x / 2 ^ lo / 2 ^ w) + x / 2 ^ lo % 2 ^ w) + x % 2 ^ lo := by
    rw [Nat.div_add_mod, Nat.div_add_mod]
  rw [Nat.mul_add] at hx ⊢
  rw [Nat.mul_comm _ (2 ^ lo), Nat.mul_comm _ (2 ^ lo)]
  omega

/-- A field write puts the value's bits into the field and keeps every other bit. -/
theorem getLsbD_putFld {n : Nat} (x : BitVec n) {hi lo : Nat} (v : Nat) (hlo : lo ≤ hi) (i : Nat) (hin : i < n) :
    (putFld x hi lo v).getLsbD i = if lo ≤ i ∧ i ≤ hi then v.testBit (i - lo) else x.getLsbD i := by
  have hfield : v % 2 ^ (hi + 1 - lo) < 2 ^ (hi + 1 - lo) := Nat.mod_lt _ (Nat.two_pow_pos _)
  have hlow : x.toNat % 2 ^ lo < 2 ^ lo := Nat.mod_lt _ (Nat.two_pow_pos _)
  rw [putFld, fld, replaceField_eq, BitVec.getLsbD_ofNat, Nat.testBit_two_pow_mul_add _ hlow]
  by_cases h1 : i < lo
  · simp [h1, hin, Nat.testBit_mod_two_pow, BitVec.testBit_toNat, Nat.not_le.mpr h1]
  rw [if_neg h1, Nat.testBit_two_pow_mul_add _ hfield]
  by_cases h2 : i ≤ hi
  · have hw : i - lo < hi + 1 - lo := by omega
    simp [hw, hin, h2, Nat.testBit_mod_two_pow, Nat.not_lt.mp h1]
  · have hw : ¬ i - lo < hi + 1 - lo := by omega
    have hix : i - lo - (hi + 1 - lo) + (hi + 1 - lo) + lo = i := by omega
    simp [hw, hin, h2, Nat.testBit_div_two_pow, hix, BitVec.testBit_toNat]

/-- LIMM writes quarter `q` and keeps the others (R94). -/
theorem getLsbD_limmIns (x : W64) (q : BitVec 2) (imm : BitVec 16) (i : Nat) (hi : i < 64) :
    (limmIns x q imm).getLsbD i =
      if 16 * q.toNat ≤ i ∧ i < 16 * q.toNat + 16 then imm.getLsbD (i - 16 * q.toNat) else x.getLsbD i := by
  rw [limmIns, getLsbD_putFld _ _ (by omega) _ hi, BitVec.testBit_toNat]
  simp only [Nat.lt_succ_iff]

end Sys2Proof.Machine
end

section
/-! The two forms of the S slot's arithmetic leave one scalar result in flight (R58, R92). -/

namespace Sys2Proof.Machine

variable {s : State} {c : CoreRef} {d a b : BitVec 6} {i : Instr} {x : W64}

theorem Leaves.wrS {lat : Nat} (x : W64) (hfree : s.noCollision c 0 d.toNat (s.clk.beat + lat - 1)) :
    Leaves c 3 [⟨s.clk.beat + lat - 1, .sreg d.toNat x, none, 0#4⟩] s (s.wrS c 3 lat d x) := by
  rw [State.wrS_run x id hfree]
  exact ⟨OnlyCore.modCore .., by simp⟩

/-- A register-register form gives its operation's value of the two registers read. -/
theorem GivesS.of_aluRR {lat : Nat} {f : W64 → W64 → W64} (hexec : exec i s = .next (s.aluRR c lat d a b f))
    (hissue : s.canIssue c 3 [.s a, .s b]) (hfree : s.noCollision c 0 d.toNat (s.clk.beat + lat - 1))
    (hval : f ((s.core c).s a) ((s.core c).s b) = x) : GivesS i c lat d x s := by
  refine ⟨_, hexec, ?_⟩
  rw [State.aluRR, State.issue_run _ hissue rfl, hval]
  exact Leaves.wrS x hfree

/-- A register-immediate form gives its operation's value of the register read. -/
theorem GivesS.of_aluRI {legal : Bool} {f : W64 → W64} (hexec : exec i s = .next (s.aluRI c legal d a f))
    (hlegal : legal = true) (hissue : s.canIssue c 3 [.s a]) (hfree : s.noCollision c 0 d.toNat s.clk.beat)
    (hval : f ((s.core c).s a) = x) : GivesS i c 1 d x s := by
  refine ⟨_, hexec, ?_⟩
  rw [State.aluRI, State.issue_run _ hissue hlegal, hval]
  exact Leaves.wrS x hfree

end Sys2Proof.Machine
end

section
/-! The scalar instructions of R92 to R94. -/

namespace Sys2Proof.Machine

/-- The register-register forms of R92; a selection of one operand is compared under its number. -/
theorem givesS_registerRegister : Claims.ScalarArithmetic := by
  intro s c d a b hissue hfree x y
  have gives {i : Instr} {f : W64 → W64 → W64} {v : W64} (hexec : exec i s = .next (s.aluRR c 1 d a b f))
      (hval : f x y = v) : GivesS i c 1 d v s := .of_aluRR hexec hissue hfree hval
  refine ⟨?add, ?sub, ?and, ?or, ?xor, ?shl, ?shr, ?sra, ?slt, ?sltu, ?min, ?max, ?minu, ?maxu⟩
  case add => exact gives rfl (BitVec.add_def x y)
  case sub => exact gives rfl (sub_eq_ofInt x y)
  case and => exact gives rfl (eq_ofNat_of_toNat_eq (BitVec.toNat_and x y))
  case or => exact gives rfl (eq_ofNat_of_toNat_eq (BitVec.toNat_or x y))
  case xor => exact gives rfl (eq_ofNat_of_toNat_eq (BitVec.toNat_xor x y))
  case shl => exact gives rfl (shiftLeft_eq_ofNat x _)
  case shr => exact gives rfl (ushiftRight_eq_ofNat x _)
  case sra => exact gives rfl (sshiftRight_eq_ofInt x _)
  case slt => exact gives rfl rfl
  case sltu => exact gives rfl rfl
  case min => exact gives rfl (eq_ofInt_of_toInt_eq (by rw [apply_ite BitVec.toInt, Int.min_def]))
  case max => exact gives rfl (eq_ofInt_of_toInt_eq (by rw [apply_ite BitVec.toInt, Int.max_comm, Int.max_def]))
  case minu => exact gives rfl (eq_ofNat_of_toNat_eq (by rw [apply_ite BitVec.toNat, Nat.min_def]))
  case maxu => exact gives rfl (eq_ofNat_of_toNat_eq (by rw [apply_ite BitVec.toNat, Nat.max_comm, Nat.max_def]))

/-- The three products of R93. -/
theorem givesS_multiply : Claims.ScalarMultiply := by
  intro s c d a b hissue hfree x y
  refine ⟨?mul, ?mulh, ?mulhu⟩
  case mul => exact .of_aluRR rfl hissue hfree (mul_eq_ofNat x y)
  case mulh => exact .of_aluRR rfl hissue hfree (mulHigh_signed x y)
  case mulhu => exact .of_aluRR rfl hissue hfree (mulHigh_unsigned x y)

/-- The immediate forms of R92, the shifts by a legal count, and LIMM (R94). -/
theorem givesS_immediate : Claims.ScalarImmediate := by
  intro s c d a imm q imm16 hfree
  refine ⟨fun hissue => ?alu, fun hissue => ?limm⟩
  case limm =>
    exact ⟨limmIns ((s.core c).s d) q imm16, .of_aluRI rfl rfl hissue hfree rfl, getLsbD_limmIns _ q imm16⟩
  intro x
  have gives {i : Instr} {f : W64 → W64} {v : W64} (hexec : exec i s = .next (s.aluRI c true d a f))
      (hval : f x = v) : GivesS i c 1 d v s := .of_aluRI hexec rfl hissue hfree hval
  have zext := toNat_zext64 imm (by decide)
  refine ⟨?addi, ?andi, ?ori, ?xori, ?slti, fun hlt => ?shifts⟩
  case addi => exact gives rfl (add_sext64_eq_ofInt x imm)
  case andi => exact gives rfl (eq_ofNat_of_toNat_eq (by rw [BitVec.toNat_and, zext]))
  case ori => exact gives rfl (eq_ofNat_of_toNat_eq (by rw [BitVec.toNat_or, zext]))
  case xori => exact gives rfl (eq_ofNat_of_toNat_eq (by rw [BitVec.toNat_xor, zext]))
  case slti => exact gives rfl (by rw [toInt_sext64 imm (by decide)])
  have givesShift {i : Instr} {f : W64 → Nat → W64} {v : W64}
      (hexec : exec i s = .next (s.aluRI c (shiftOk imm) d a (fun x => f x (imm.toNat % 64))))
      (hval : f x imm.toNat = v) : GivesS i c 1 d v s :=
    .of_aluRI hexec (shiftOk_of_lt hlt) hissue hfree (by rw [Nat.mod_eq_of_lt hlt, hval])
  refine ⟨?shli, ?shri, ?srai⟩
  case shli => exact givesShift rfl (shiftLeft_eq_ofNat x _)
  case shri => exact givesShift rfl (ushiftRight_eq_ofNat x _)
  case srai => exact givesShift rfl (sshiftRight_eq_ofInt x _)

/-- Settles O44: the register-register forms, the products and the immediate forms. -/
theorem scalarArithmetic : Obligations.ScalarArithmetic :=
  ⟨givesS_registerRegister, givesS_multiply, givesS_immediate⟩

end Sys2Proof.Machine
end

section
/-! What raising an event leaves (R289, R443, R280): a record in the log of events and its number, a copy in the persistent log, and
what goes out to the host and the subscribers. -/

namespace Sys2Proof.Machine

/-- `t` is `s` but for what sending does: what stood in `out` stays in front of what is sent, a session counts its transaction or ends,
and an event that finds no link is counted. -/
structure Sent (s t : State) : Prop where
  state : { t with hearth := s.hearth, out := s.out } = s
  hearth : { t.hearth with unsent := s.hearth.unsent, sess := s.hearth.sess, sessNext := s.hearth.sessNext } = s.hearth
  out : s.out <+: t.out

theorem Sent.refl (s : State) : Sent s s := ⟨rfl, rfl, List.prefix_refl _⟩

theorem Sent.trans {s t u : State} (hst : Sent s t) (htu : Sent t u) : Sent s u where
  state := (congrArg (fun x : State => { x with hearth := s.hearth, out := s.out }) htu.state).trans hst.state
  hearth := (congrArg (fun h : Hearth => { h with
    unsent := s.hearth.unsent, sess := s.hearth.sess, sessNext := s.hearth.sessNext }) htu.hearth).trans hst.hearth
  out := hst.out.trans htu.out

theorem Sent.emit (s : State) (o : Out) : Sent s (s.emit o) := ⟨rfl, rfl, List.prefix_append _ _⟩

theorem Sent.countUnsent (s : State) : Sent s (s.modHearth (fun h => { h with unsent := h.unsent + 1 })) :=
  ⟨rfl, rfl, List.prefix_refl _⟩

theorem Sent.sendHost (s : State) (o : Out) : Sent s (s.sendHost o) := by
  unfold State.sendHost
  split
  · split
    · exact ⟨rfl, rfl, List.prefix_append _ _⟩
    · exact ⟨rfl, rfl, List.prefix_append _ _⟩
  · exact .emit s o

theorem Sent.foldl {α : Type} {f : State → α → State} (hf : ∀ s a, Sent s (f s a)) (l : List α) (s : State) :
    Sent s (l.foldl f s) := by
  induction l generalizing s with
  | nil => exact .refl s
  | cons a l ih => exact (hf s a).trans (ih (f s a))

theorem Sent.evSeq {s t : State} (h : Sent s t) : t.hearth.evSeq = s.hearth.evSeq := (congrArg Hearth.evSeq h.hearth :)
theorem Sent.events {s t : State} (h : Sent s t) : t.hearth.events = s.hearth.events := (congrArg Hearth.events h.hearth :)

/-- The record of an event (Table 10.14). -/
def State.eventRecord (s : State) (ty reason sev ctx detail : Nat) : BitVec 256 :=
  BitVec.ofNat 256 (s.fbcStamp * 2 ^ 192 + s.tim.now.sec % 2 ^ 32 * 2 ^ 160 + s.tim.now.ns * 2 ^ 130 + s.hearth.evSeq.toNat * 2 ^ 96
    + reason * 2 ^ 80 + ty * 2 ^ 72 + ctx % 16 * 2 ^ 68 + sev * 2 ^ 66 + detail % 2 ^ 64)

/-- An event's record stands in the log of events and, from severity 2 up, in the persistent log; nothing is sent yet. -/
def State.keepEvent (s : State) (sev : Nat) (r : BitVec 256) : State :=
  { s with
    hearth := { s.hearth with
      events := s.hearth.events.set 0#256 (s.hearth.evSeq.toNat % 256) r, evSeq := s.hearth.evSeq + 1#32 }
    flash := { s.flash with
      log := if 2 ≤ sev then (s.flash.log ++ [r]).drop (s.flash.log.length + 1 - 1024) else s.flash.log } }

theorem keepEvent_events (s : State) (sev : Nat) (r : BitVec 256) :
    (s.keepEvent sev r).hearth.events = s.hearth.events.set 0#256 (s.hearth.evSeq.toNat % 256) r := rfl

theorem keepEvent_out (s : State) (sev : Nat) (r : BitVec 256) : (s.keepEvent sev r).out = s.out := rfl

/-- An event is its record kept, then sent. -/
theorem sent_event (s : State) (ty reason sev ctx detail : Nat) :
    Sent (s.keepEvent sev (s.eventRecord ty reason sev ctx detail)) (s.event ty reason sev ctx detail) := by
  have kept (r : BitVec 256) : s.keepEvent sev r =
      if 2 ≤ sev then (s.keepEvent 0 r).modFlash (fun f => { f with log := (f.log ++ [r]).drop (f.log.length + 1 - 1024) })
      else s.keepEvent 0 r := by
    unfold State.keepEvent
    split <;> rfl
  refine Sent.trans (kept _ ▸ ?toHost) (.foldl (fun t u => ?toSubscriber) _ _)
  case toHost =>
    split
    · exact .sendHost ..
    · exact .countUnsent _
  case toSubscriber =>
    split
    · exact .emit ..
    · exact .refl t

theorem event_evSeq (s : State) (ty reason sev ctx detail : Nat) :
    (s.event ty reason sev ctx detail).hearth.evSeq = s.hearth.evSeq + 1#32 := (sent_event ..).evSeq

/-- The log of events holds the event's record at its number (R289). -/
theorem event_get_evSeq (s : State) (ty reason sev ctx detail : Nat) :
    (s.event ty reason sev ctx detail).hearth.events.get 0#256 (s.hearth.evSeq.toNat % 256) =
      s.eventRecord ty reason sev ctx detail := by
  rw [(sent_event ..).events, keepEvent_events, SMap.get_set_same]

theorem out_prefix_event (s : State) (ty reason sev ctx detail : Nat) : s.out <+: (s.event ty reason sev ctx detail).out :=
  keepEvent_out s sev _ ▸ (sent_event ..).out

/-! The fields of a record -/

theorem nfld_mod_two_pow {hi lo n : Nat} (x : Nat) (hlo : lo ≤ hi) (hhi : hi < n) : nfld (x % 2 ^ n) hi lo = nfld x hi lo := by
  obtain ⟨k, rfl⟩ : ∃ k, n = lo + k := ⟨n - lo, by omega⟩
  rw [nfld, Nat.pow_add, Nat.mod_mul_right_div_self, Nat.mod_mod_of_dvd _ (Nat.pow_dvd_pow 2 (by omega)), nfld]

theorem fld_ofNat {hi lo n : Nat} (x : Nat) (hlo : lo ≤ hi) (hhi : hi < n) : fld (BitVec.ofNat n x) hi lo = nfld x hi lo := by
  rw [fld, BitVec.toNat_ofNat]
  exact nfld_mod_two_pow x hlo hhi

/-- A record as TYPE and DETAIL and the numbers above and between them. -/
theorem eventRecord_eq (s : State) (ty reason sev ctx detail : Nat) : ∃ high, s.eventRecord ty reason sev ctx detail =
    BitVec.ofNat 256 (high * 2 ^ 80 + ty * 2 ^ 72 + (ctx % 16 * 2 ^ 4 + sev * 2 ^ 2) * 2 ^ 64 + detail % 2 ^ 64) := by
  refine ⟨s.fbcStamp * 2 ^ 112 + s.tim.now.sec % 2 ^ 32 * 2 ^ 80 + s.tim.now.ns * 2 ^ 50 + s.hearth.evSeq.toNat * 2 ^ 16 + reason, ?_⟩
  refine congrArg (BitVec.ofNat 256) ?_
  simp only [Nat.add_mul, Nat.mul_assoc, ← Nat.pow_add, Nat.add_assoc, Nat.reduceAdd]

theorem fld_eventRecord_type {ty sev : Nat} (s : State) (reason ctx detail : Nat) (hty : ty < 2 ^ 8) (hsev : sev < 4) :
    fld (s.eventRecord ty reason sev ctx detail) 79 72 = ty := by
  obtain ⟨high, hrec⟩ := eventRecord_eq s ty reason sev ctx detail
  rw [hrec, fld_ofNat _ (by decide) (by decide), nfld]
  omega

/-- A field of the record's low 64 bits is that of the event's DETAIL. -/
theorem fld_eventRecord_detail {hi lo : Nat} (s : State) (ty reason sev ctx detail : Nat) (hlo : lo ≤ hi) (hhi : hi < 64) :
    fld (s.eventRecord ty reason sev ctx detail) hi lo = nfld detail hi lo := by
  obtain ⟨high, hrec⟩ := eventRecord_eq s ty reason sev ctx detail
  rw [hrec, fld_ofNat _ hlo (by omega), ← nfld_mod_two_pow _ hlo hhi, ← nfld_mod_two_pow detail hlo hhi]
  congr 1
  omega

/-! ButEvents -/

theorem ButEvents.refl (s : State) : ButEvents s s := ⟨rfl, rfl, rfl⟩

theorem ButEvents.trans {s t u : State} (hst : ButEvents s t) (htu : ButEvents t u) : ButEvents s u := by
  obtain ⟨hstate, hflash, hhearth⟩ := hst
  obtain ⟨hstate', hflash', hhearth'⟩ := htu
  refine ⟨?state, ?flash, ?hearth⟩
  case state =>
    exact (congrArg (fun x : State => { x with hearth := s.hearth, out := s.out, flash := s.flash }) hstate').trans hstate
  case flash => exact (congrArg (fun f : Flash => { f with log := s.flash.log }) hflash').trans hflash
  case hearth =>
    exact (congrArg (fun h : Hearth => { h with
      events := s.hearth.events, evSeq := s.hearth.evSeq, unsent := s.hearth.unsent, sess := s.hearth.sess
      sessNext := s.hearth.sessNext }) hhearth').trans hhearth

theorem Sent.butEvents {s t : State} (h : Sent s t) : ButEvents s t := by
  have hflash : t.flash = s.flash := (congrArg State.flash h.state :)
  refine ⟨?state, ?flash, ?hearth⟩
  case state => exact congrArg (fun x : State => { x with flash := s.flash }) h.state
  case flash => rw [hflash]
  case hearth => exact congrArg (fun x : Hearth => { x with events := s.hearth.events, evSeq := s.hearth.evSeq }) h.hearth

theorem butEvents_event (s : State) (ty reason sev ctx detail : Nat) : ButEvents s (s.event ty reason sev ctx detail) :=
  have kept (r : BitVec 256) : ButEvents s (s.keepEvent sev r) := ⟨rfl, rfl, rfl⟩
  (kept _).trans (sent_event ..).butEvents

end Sys2Proof.Machine
end

section
/-! What Hearth notes of a command beside its effect and its response: the count of commands and the trace records of its begin and end
(Table 15.7). -/

namespace Sys2Proof.Machine

/-- The parts of the state that a command's notes are kept in. -/
structure Notes where
  cmdCount : Nat
  trace    : List (BitVec 128)
  lossRun  : Nat
  counters : SMap W64

def State.notes (s : State) : Notes := ⟨s.hearth.cmdCount, s.dbg.trace, s.dbg.lossRun, s.counters⟩

/-- `s` with other notes. -/
def State.noted (s : State) (x : Notes) : State :=
  { s with
    hearth := { s.hearth with cmdCount := x.cmdCount }
    dbg := { s.dbg with trace := x.trace, lossRun := x.lossRun }
    counters := x.counters }

theorem noted_noted (s : State) (x y : Notes) : (s.noted x).noted y = s.noted y := rfl
theorem noted_notes (s : State) : s.noted s.notes = s := rfl

theorem trace_eq_noted (s : State) (cls unit sub ev layer oper seq : Nat) :
    ∃ x, s.trace cls unit sub ev layer oper seq = s.noted x := by
  unfold State.trace
  split
  · exact ⟨s.notes, rfl⟩
  split
  · exact ⟨{ s.notes with lossRun := s.dbg.lossRun + 1, counters := (s.bump 7 0x108 1).counters }, rfl⟩
  · exact ⟨{ s.notes with trace := s.dbg.trace ++ [_] }, rfl⟩

theorem beginCommand_eq_noted (s : State) (src : Src) (b : BitVec 2048) : ∃ x, s.beginCommand src b = s.noted x := by
  obtain ⟨x, hx⟩ := trace_eq_noted (s.modHearth (fun h => { h with cmdCount := h.cmdCount + 1 })) 7 127 0 0
    (blkTag b * 256 + b2n (!srcPorch src) * 16 + srcPair src) (blkOp b) (s.hearth.cmdCount + 1)
  exact ⟨x, hx⟩

theorem endCommand_noted (s : State) (x : Notes) (src : Src) (b : BitVec 2048) (code : Nat) (payload data : List Byte) :
    ∃ y, (s.noted x).endCommand src b code payload data = (s.noted y).answer src b code payload data := by
  obtain ⟨y, hy⟩ := trace_eq_noted (s.noted x) 7 127 0 (if code = 0 then 1 else 2)
    (blkTag b * 256 + b2n (!srcPorch src) * 16 + srcPair src) (blkOp b) x.cmdCount
  exact ⟨y, congrArg (fun t : State => t.answer src b code payload data) hy⟩

/-- What differs from a noted state by events only is a noted state that differs by events only. -/
theorem ButEvents.of_noted {s t : State} {x : Notes} (h : ButEvents (s.noted x) t) : ∃ u, ButEvents s u ∧ t = u.noted x := by
  obtain ⟨hstate, hflash, hhearth⟩ := h
  have hnotes : t.notes = x := by
    have hcount : t.hearth.cmdCount = x.cmdCount := (congrArg Hearth.cmdCount hhearth :)
    have hdbg : t.dbg = (s.noted x).dbg := (congrArg State.dbg hstate :)
    have hcounters : t.counters = x.counters := (congrArg State.counters hstate :)
    rw [State.notes, hcount, hdbg, hcounters]
    rfl
  refine ⟨t.noted s.notes, ⟨?state, hflash, ?hearth⟩, ?noted⟩
  case state => exact (congrArg (fun u : State => { u.noted s.notes with hearth := s.hearth }) hstate :)
  case hearth => exact congrArg (fun h : Hearth => { h with cmdCount := s.hearth.cmdCount }) hhearth
  case noted => rw [noted_noted, ← hnotes, noted_notes]

end Sys2Proof.Machine
end

section
/-! A command that stands ready: its checks pass, and what it does and answers is what its own meaning says (R282 to R286). -/

namespace Sys2Proof.Machine

/-- `s` with these sent out, in order. -/
def State.emits (s : State) (l : List Out) : State := { s with out := s.out ++ l }

theorem foldl_emit {α : Type} (f : α → Out) (l : List α) (s : State) :
    l.foldl (fun (s : State) x => s.emit (f x)) s = s.emits (l.map f) := by
  induction l generalizing s with
  | nil => simp [State.emits]
  | cons x l ih =>
    rw [List.foldl_cons, ih]
    simp [State.emits, State.emit]

/-- What the management channel sends for a response: its block, then the blocks of its data (R285). -/
def mgmtBlocks (c : Fin 4) (b : BitVec 2048) (code : Nat) (payload data : List Byte) : List Out :=
  .mgmt c.val (respBlock b code payload) :: (dataBlocks b ((data.length + 247) / 248) data).map (.mgmt c.val)

theorem answer_mgmt (s : State) (c : Fin 4) (body b : BitVec 2048) (code : Nat) (payload data : List Byte) :
    s.answer (.mgmt c body) b code payload data =
      (s.emits (mgmtBlocks c b code payload data)).commandDone true 0 b := by
  rw [State.answer, foldl_emit]
  simp [mgmtBlocks, ceilDiv, State.emits, State.emit]

theorem answers_porch (s : State) (y : Notes) (n : Fin 4) (b : BitVec 2048) (code : Nat) (payload data : List Byte) :
    Answers (.porch n) b code payload data s ((s.noted y).answer (.porch n) b code payload data) := by
  have hmbx (m : Nat) : ((s.noted y).answer (.porch n) b code payload data).mbx m =
    (s.hearth.mbx.upd Mbx.zero n.val (fun m => { m with resp := some (respBlock b code payload) })).get Mbx.zero m := rfl
  refine ⟨rfl, rfl, rfl, rfl, rfl, ?same, fun m hm => ?other⟩
  case same => rw [hmbx, SMap.get_upd_same]; rfl
  case other => rw [hmbx, SMap.get_upd_ne _ _ _ hm]; rfl

/-- What differs by events only from `s` with other notes and a response sent is an answer over the management channel. -/
theorem answers_mgmt {s t : State} {y : Notes} {c : Fin 4} {b : BitVec 2048} {code : Nat} {payload data : List Byte}
    (body : BitVec 2048) (hbut : ButEvents ((s.noted y).emits (mgmtBlocks c b code payload data)) t)
    (hout : ((s.noted y).emits (mgmtBlocks c b code payload data)).out <+: t.out) : Answers (.mgmt c body) b code payload data s t := by
  obtain ⟨hstate, hflash, hhearth⟩ := hbut
  obtain ⟨more, hmore⟩ := hout
  have hdbg : t.dbg = (s.noted y).dbg := (congrArg State.dbg hstate :)
  have hmbx : t.hearth.mbx = s.hearth.mbx := (congrArg Hearth.mbx hhearth :)
  refine ⟨?state, ?hearth, ?dbg, hflash, fun m => ?mbx, more, hmore.symm⟩
  case state =>
    exact congrArg (fun u : State => { u with hearth := s.hearth, dbg := s.dbg, counters := s.counters, out := s.out }) hstate
  case hearth => exact congrArg (fun h : Hearth => { h with mbx := s.hearth.mbx, cmdCount := s.hearth.cmdCount }) hhearth
  case dbg => rw [hdbg]; rfl
  case mbx => rw [State.mbx, hmbx]; rfl

/-- The end of a command answers it (R282, R285); what was noted before does not matter. -/
theorem answers_endCommand (s : State) (x : Notes) (src : Src) (b : BitVec 2048) (code : Nat) (payload data : List Byte) :
    Answers src b code payload data s ((s.noted x).endCommand src b code payload data) := by
  obtain ⟨y, hend⟩ := endCommand_noted s x src b code payload data
  rw [hend]
  cases src with
  | porch n => exact answers_porch ..
  | mgmt c body =>
    rw [answer_mgmt]
    exact answers_mgmt body (butEvents_event ..) (out_prefix_event ..)

section
variable {s : State} {src : Src} {op len : Nat} {b : BitVec 2048}

theorem Ready.noted (h : Ready s src op len b) (x : Notes) : Ready (s.noted x) src op len b := h

theorem Ready.notRecording (h : Ready s src op len b) : recEnable s.hearth.rec_.ctl = false := by
  obtain ⟨-, -, -, -, -, -, -, -, -, -, -, -, hrec, -⟩ := h
  exact hrec

/-- None of the checks of R283 refuses a ready command of Table 10.10. -/
theorem Ready.admission (h : Ready s src op len b) (hknown : opKnown op = true) : s.admission (srcPorch src) b len true true = 0 := by
  obtain ⟨-, hop, hlen, hver, hproto, hzero, -, -, hrecovery, hlatched, -, -, -, hsrc⟩ := h
  cases src with
  | porch n =>
    obtain ⟨hmgmt, hsess⟩ := hsrc
    simp_all [State.admission, srcPorch]
  | mgmt c body => simp_all [State.admission, srcPorch]

/-- A ready command comes to its own checks: no replay goes on (R369). -/
theorem Ready.checked (h : Ready s src op len b) (hknown : opKnown op = true) (own : State → Reply) :
    s.checked (srcPorch src) b len true true own = own s := by
  simp [State.checked, h.admission hknown, State.replaying, h.notRecording]

/-- A ready command is taken: it is begun, run and answered with what it replies; nothing is recorded (R286, R366). -/
theorem Ready.command {run : State → BitVec 2048 → Reply} {r : Reply} (h : Ready s src op len b) (me : Instr)
    (hrun : run (s.beginCommand src b) b = r) (hnow : r.later = false) (hoff : recEnable r.st.hearth.rec_.ctl = false) :
    s.command src op me run = r.st.endCommand src b r.code r.payload r.data := by
  obtain ⟨hblock, hop, -, -, -, -, hwedged, hready, -, -, hbusy, hwait, -, -⟩ := h
  have hserving : s.serving = true := by simp [State.serving, hwedged, hready]
  have hlog (hdr : Nat) : r.st.logEntry hdr b r.code r.dma = r.st := by simp [State.logEntry, hoff]
  simp only [State.command, hblock, hserving, hop, hbusy, hwait, hrun, hnow, hlog]
  simp

/-- A ready command does what it replies: what its run leaves, whatever Hearth has noted of its begin, is `v` but for events. -/
theorem Ready.does {run : State → BitVec 2048 → Reply} {i : Instr} {v : State} {code : Nat} {payload data : List Byte}
    (h : Ready s src op len b) (hexec : exec i s = .next (s.command src op i run)) (hoff : recEnable v.hearth.rec_.ctl = false)
    (hrun : ∀ x, ∃ w dma, run (s.noted x) b = ⟨code, payload, data, dma, false, w⟩ ∧ ButEvents (v.noted x) w) :
    Does i src b code payload data s v := by
  obtain ⟨x, hbegin⟩ := beginCommand_eq_noted s src b
  obtain ⟨w, dma, hreply, hw⟩ := hrun x
  obtain ⟨u, ⟨hstate, hflash, hhearth⟩, rfl⟩ := hw.of_noted
  have hrec : u.hearth.rec_ = v.hearth.rec_ := (congrArg Hearth.rec_ hhearth :)
  refine ⟨_, hexec, u, ⟨hstate, hflash, hhearth⟩, ?_⟩
  rw [h.command i (hbegin ▸ hreply) rfl (hrec ▸ hoff)]
  exact answers_endCommand ..

end

end Sys2Proof.Machine
end

section
/-! Self tests and calibration (R296): the two commands, and the run of what they queued. -/

namespace Sys2Proof.Machine

theorem butEvents_maintenance (s : State) (op set : Nat) (result : Byte) : ButEvents s (s.maintenance op set result) :=
  butEvents_event ..

section
variable {s : State} {src : Src} {op : Nat} {b : BitVec 2048} {i : Instr} {result : Byte}

/-! The commands -/

/-- A ready test with a known set comes to the conditions of R296. -/
theorem Ready.cmdTest (h : Ready s src op 2 b) (hknown : opKnown op = true) (hwhen : blkByte b 0 ≤ 1) (hset : blkByte b 1 ≤ 15) :
    s.cmdTest (srcPorch src) op result b =
      if blkByte b 0 = 1 then
        ⟨0, [1#8], [], none, false, s.modHearth (fun h => { h with maint := h.maint ++ [(op, blkByte b 1)] })⟩
      else if s.jobState = 1 || s.jobState = 2 then s.no 0x0304
      else ⟨0, [0#8], [], none, false, s.maintenance op (blkByte b 1) result⟩ := by
  simp only [State.cmdTest, hwhen, hset, decide_true]
  exact h.checked hknown _

section
variable (h : Ready s src op 2 b) (hknown : opKnown op = true) (hset : blkByte b 1 ≤ 15)
  (hexec : exec i s = .next (s.command src op i (fun s b => s.cmdTest (srcPorch src) op result b)))
include h hknown hset hexec

theorem Ready.does_queueTest (hwhen : blkByte b 0 = 1) :
    Does i src b 0 [1#8] [] s { s with hearth := { s.hearth with maint := s.hearth.maint ++ [(op, blkByte b 1)] } } := by
  refine h.does hexec h.notRecording (fun x => ⟨_, none, ?_, .refl _⟩)
  rw [(h.noted x).cmdTest hknown (by omega) hset, if_pos hwhen]
  rfl

theorem Ready.does_runTest (hwhen : blkByte b 0 = 0) (hrun : s.jobState ≠ 1) (hpause : s.jobState ≠ 2) :
    Does i src b 0 [0#8] [] s s := by
  refine h.does hexec h.notRecording (fun x => ⟨_, none, ?_, butEvents_maintenance (s.noted x) op (blkByte b 1) result⟩)
  have hquiet : ¬ (s.jobState = 1 || s.jobState = 2) = true := by simpa using And.intro hrun hpause
  rw [(h.noted x).cmdTest hknown (by omega) hset, if_neg (by omega)]
  exact if_neg hquiet

theorem Ready.does_refuseTest (hwhen : blkByte b 0 = 0) (hjob : s.jobState = 1 ∨ s.jobState = 2) :
    Does i src b 0x0304 [] [] s s := by
  refine h.does hexec h.notRecording (fun x => ⟨_, none, ?_, .refl _⟩)
  have hbusy : (s.jobState = 1 || s.jobState = 2) = true := by simpa using hjob
  rw [(h.noted x).cmdTest hknown (by omega) hset, if_neg (by omega)]
  exact if_pos hbusy

end

/-! The deferred run -/

theorem deferredRun_of_nil (h : s.hearth.maint = []) : exec (.deferredMaintenanceRun result) s = .next s := by
  change execDeferredMaintenanceRun result s = _
  rw [execDeferredMaintenanceRun, h]

theorem deferredRun_of_cons {set : Nat} {rest : List (Nat × Nat)} (h : s.hearth.maint = (op, set) :: rest) :
    exec (.deferredMaintenanceRun result) s = .next (if s.jobState = 1 then s
      else ({ s with hearth := { s.hearth with maint := rest } } : State).maintenance op set result) := by
  change execDeferredMaintenanceRun result s = _
  rw [execDeferredMaintenanceRun, h]
  rfl

theorem deferredRun_of_running (h : s.jobState = 1) : exec (.deferredMaintenanceRun result) s = .next s := by
  cases hmaint : s.hearth.maint with
  | nil => exact deferredRun_of_nil hmaint
  | cons t rest => rw [deferredRun_of_cons hmaint, if_pos h]

/-- DETAIL of a MAINTENANCE event (Table 10.15). -/
theorem nfld_maintenanceDetail {set : Nat} (hop : op < 2 ^ 16) (hset : set < 2 ^ 8) (result : Byte) :
    let d := op * 2 ^ 48 + set * 2 ^ 40 + result.toNat * 2 ^ 32
    nfld d 63 48 = op ∧ nfld d 47 40 = set ∧ nfld d 39 32 = result.toNat := by
  have hresult : result.toNat < 2 ^ 8 := result.isLt
  simp only [nfld]
  omega

/-- The result of a test is an event of TYPE 7 with the test's opcode, set and result. -/
theorem maintenance_record {set : Nat} (s : State) (hop : op < 2 ^ 16) (hset : set < 2 ^ 8) (result : Byte) :
    let e := (s.maintenance op set result).hearth.events.get 0#256 (s.hearth.evSeq.toNat % 256)
    fld e 79 72 = 7 ∧ fld e 63 48 = op ∧ fld e 47 40 = set ∧ fld e 39 32 = result.toNat := by
  obtain ⟨hopField, hsetField, hresultField⟩ := nfld_maintenanceDetail hop hset result
  intro e
  have he : e = s.eventRecord 7 0 (Config.eventSeverity 7 0).toNat 0 (op * 2 ^ 48 + set * 2 ^ 40 + result.toNat * 2 ^ 32) :=
    event_get_evSeq ..
  rw [he, fld_eventRecord_type _ _ _ _ (by decide) (Config.eventSeverity 7 0).isLt,
    fld_eventRecord_detail _ _ _ _ _ _ (by decide) (by decide), fld_eventRecord_detail _ _ _ _ _ _ (by decide) (by decide),
    fld_eventRecord_detail _ _ _ _ _ _ (by decide) (by decide)]
  exact ⟨rfl, hopField, hsetField, hresultField⟩

end

/-- A module reset discards what is queued (R296, Table 16.1). -/
theorem moduleReset_maint (s : State) (bit : Nat) (hstage : 3 ≤ s.sloe.stage) : (s.moduleReset bit).hearth.maint = [] := by
  rw [State.moduleReset, if_neg (by omega)]
  rfl

/-- Settles O29: the commands by their conditions, the deferred run by the queue and the job, its event by the record's fields. -/
theorem maintenanceTests : Obligations.MaintenanceTests := by
  refine ⟨?commands, ?deferred, moduleReset_maint⟩
  case commands =>
    intro s src b result op i htest hready hset
    obtain ⟨hknown, hexec⟩ : opKnown op = true ∧
        exec i s = .next (s.command src op i (fun s b => s.cmdTest (srcPorch src) op result b)) := by
      rcases htest with ⟨rfl, rfl⟩ | ⟨rfl, rfl⟩ <;> exact ⟨rfl, rfl⟩
    exact ⟨hready.does_queueTest hknown hset hexec, hready.does_runTest hknown hset hexec,
      hready.does_refuseTest hknown hset hexec⟩
  case deferred =>
    intro s result
    refine ⟨deferredRun_of_nil, deferredRun_of_running, fun op set rest hmaint hjob hop hset => ?_⟩
    refine ⟨_, (deferredRun_of_cons hmaint).trans (by rw [if_neg hjob]), butEvents_maintenance .., event_evSeq .., ?_⟩
    exact maintenance_record { s with hearth := { s.hearth with maint := rest } } hop hset result

end Sys2Proof.Machine
end

section
/-! A field read after a field write. -/

namespace Sys2Proof.Machine

theorem testBit_fld {n : Nat} (x : BitVec n) (hi lo i : Nat) :
    (fld x hi lo).testBit i = (decide (i < hi + 1 - lo) && x.getLsbD (lo + i)) := by
  rw [fld, Nat.testBit_mod_two_pow, Nat.testBit_div_two_pow, BitVec.testBit_toNat, Nat.add_comm i lo]

theorem fld_putFld_same {n hi lo : Nat} (x : BitVec n) (v : Nat) (hlo : lo ≤ hi) (hhi : hi < n) :
    fld (putFld x hi lo v) hi lo = v % 2 ^ (hi + 1 - lo) := by
  refine Nat.eq_of_testBit_eq fun i => ?_
  rw [testBit_fld, Nat.testBit_mod_two_pow]
  by_cases hin : i < hi + 1 - lo
  · rw [getLsbD_putFld x v hlo _ (by omega), if_pos (by omega), Nat.add_sub_cancel_left]
  · simp [hin]

theorem fld_putFld_below {n hi lo hi' lo' : Nat} (x : BitVec n) (v : Nat) (hlo : lo ≤ hi) (hbelow : hi' < lo) (hin : hi' < n) :
    fld (putFld x hi lo v) hi' lo' = fld x hi' lo' := by
  refine Nat.eq_of_testBit_eq fun i => ?_
  rw [testBit_fld, testBit_fld]
  by_cases hread : i < hi' + 1 - lo'
  · rw [getLsbD_putFld x v hlo _ (by omega), if_neg (by omega)]
  · simp [hread]

end Sys2Proof.Machine
end

section
/-! The time counter's commands and its stamps (R341 to R345, R348). -/

namespace Sys2Proof.Machine

variable {s : State} {tag : W16}

theorem load_of_free (h : bitOf s.tim.ctl 28 = false) : exec .load s = .next { s with tim := { s.tim with load := true } } := by
  change execLoad s = _
  simp [execLoad, State.timLoad, Tim.servo, h, State.modTim]

theorem apply_of_free (h : bitOf s.tim.ctl 28 = false) : exec .apply s = .next { s with tim := { s.tim with apply := true } } := by
  change execApply s = _
  simp [execApply, State.timApply, Tim.servo, h, State.modTim]

theorem load_of_servo (h : bitOf s.tim.ctl 28 = true) : exec .load s = .next s := by
  change execLoad s = _
  rw [execLoad, State.timLoad, Tim.servo, if_pos h]

theorem apply_of_servo (h : bitOf s.tim.ctl 28 = true) : exec .apply s = .next s := by
  change execApply s = _
  rw [execApply, State.timApply, Tim.servo, if_pos h]

/-- The word that a transmit stamp enters the queue as (R344, R345; log 13 for the fraction of its correction). -/
def State.txWord (s : State) (tag : W16) : BitVec 128 :=
  putFld (if bitOf s.tim.ctl 27 then s.tim.now.addTenths (ptpCorr s.tim.mode).1 else s.tim.now).pack 127 112 tag.toNat

theorem txStamp_of_room (h : s.tim.txts.length < 16) :
    exec (.timestamp false tag) s = .next { s with tim := { s.tim with txts := s.tim.txts ++ [s.txWord tag] } } := by
  change execTimestamp false tag s = _
  rw [execTimestamp, if_neg Bool.false_ne_true, State.txStamp, if_neg (by omega)]
  rfl

theorem txStamp_of_full (h : 16 ≤ s.tim.txts.length) :
    exec (.timestamp false tag) s = .next { s with
      tim := { s.tim with txOver := true }, w1Sets := w1Key 6 0x04 26 :: s.w1Sets, counters := (s.bump 6 0x170 1).counters } := by
  change execTimestamp false tag s = _
  rw [execTimestamp, if_neg Bool.false_ne_true, State.txStamp, if_pos h]
  rfl

/-- A time word's fields fill its low 102 bits and leave the others to a stamp id. -/
theorem fld_pack (t : TimeWord) : fld t.pack 101 0 = t.sec % 2 ^ 48 * 2 ^ 54 + t.ns % 2 ^ 30 * 2 ^ 24 + t.frac % 2 ^ 24 := by
  rw [TimeWord.pack, fld_ofNat _ (by decide) (by decide), nfld]
  omega

theorem fld_txWord_tag (s : State) (tag : W16) : fld (s.txWord tag) 127 112 = tag.toNat := by
  rw [State.txWord, fld_putFld_same _ _ (by decide) (by decide)]
  exact Nat.mod_eq_of_lt tag.isLt

theorem fld_txWord_time (h : bitOf s.tim.ctl 27 = false) :
    fld (s.txWord tag) 101 0 = s.tim.now.sec % 2 ^ 48 * 2 ^ 54 + s.tim.now.ns % 2 ^ 30 * 2 ^ 24 + s.tim.now.frac % 2 ^ 24 := by
  rw [State.txWord, h, fld_putFld_below _ _ (by decide) (by decide) (by decide)]
  exact fld_pack _

theorem txWord_of_correct (h : bitOf s.tim.ctl 27 = true) :
    s.txWord tag = putFld (s.tim.now.addTenths (ptpCorr s.tim.mode).1).pack 127 112 tag.toNat := by
  rw [State.txWord, if_pos h]

/-- The receive stamp as Hearth's client is given it (R344; log 13 for the fraction of its correction). -/
def State.rxWord (s : State) : BitVec 128 :=
  (if bitOf s.tim.ctl 27 then s.tim.now.subTenths (ptpCorr s.tim.mode).2 else s.tim.now).pack

theorem rxStamp_eq (s : State) (tag : W16) :
    exec (.timestamp true tag) s = .next (if bitOf s.tim.ctl 28
      then ({ s with tim := { s.tim with rxts := some s.rxWord } } : State).servoStep
      else { s with tim := { s.tim with rxts := some s.rxWord } }) := rfl

/-- What the servo asks for comes within the limits of TIM_INCREMENT (R342). -/
theorem incrWord_bounds (x : Nat) : 0x01FF0000 ≤ (incrWord x).toNat ∧ (incrWord x).toNat ≤ 0x02010000 := by
  rw [incrWord, BitVec.toNat_ofNat]
  omega

/-- A servo step sets the increment, may step the counter and takes one free value; nothing else changes (R342, log 14). -/
theorem servoStep_spec (s : State) :
    { s.servoStep with tim := s.tim, draws := s.draws } = s ∧
      { s.servoStep.tim with incr := s.tim.incr, step := s.tim.step } = s.tim ∧
      0x01FF0000 ≤ s.servoStep.tim.incr.toNat ∧ s.servoStep.tim.incr.toNat ≤ 0x02010000 ∧ s.servoStep.draws = s.draws + 1 :=
  have ⟨hlow, hhigh⟩ := incrWord_bounds (fld (Config.servo s.draws) 31 0)
  ⟨rfl, rfl, hlow, hhigh, rfl⟩

theorem rxStamp_of_servo (h : bitOf s.tim.ctl 28 = true) :
    Completes (.timestamp true tag) s (fun t => { t with tim := s.tim, draws := s.draws } = s ∧
      { t.tim with rxts := s.tim.rxts, incr := s.tim.incr, step := s.tim.step } = s.tim ∧ t.tim.rxts = some s.rxWord ∧
      0x01FF0000 ≤ t.tim.incr.toNat ∧ t.tim.incr.toNat ≤ 0x02010000 ∧ t.draws = s.draws + 1) := by
  have ⟨hstate, htim, hlow, hhigh, hdraws⟩ := servoStep_spec { s with tim := { s.tim with rxts := some s.rxWord } }
  refine ⟨_, (rxStamp_eq s tag).trans (by rw [if_pos h]), ?state, ?tim, ?stamp, hlow, hhigh, hdraws⟩
  case state => exact congrArg (fun t : State => { t with tim := s.tim }) hstate
  case tim => exact congrArg (fun t : Tim => { t with rxts := s.tim.rxts }) htim
  case stamp => exact congrArg Tim.rxts htim

/-- `s` in the tick that samples an edge of PPS_IN. -/
def State.ppsSampled (s : State) (falling : Bool) : State := { s with pins := { s.pins with ppsIn := !falling } }

theorem ppsCapture_of_selected {falling : Bool} (hen : bitOf s.tim.ctl 26 = true) (hedge : bitOf s.tim.ctl 25 = falling) :
    exec (.ppsCapture falling) s = .next { s.ppsSampled falling with
      w1Sets := w1Key 6 0x04 28 :: (if s.tim.ppsValid then w1Key 6 0x04 27 :: s.w1Sets else s.w1Sets)
      tim := { s.tim with pps := (s.tim.now.addNs (-4)).pack, ppsOver := s.tim.ppsOver || s.tim.ppsValid, ppsValid := true } } := by
  change execPpsCapture falling s = _
  rw [execPpsCapture]
  cases hvalid : s.tim.ppsValid <;> simp [hen, hedge, hvalid, State.ppsSampled, State.modTim, State.modPins, State.w1Mark]

theorem ppsCapture_of_unselected {falling : Bool} (h : bitOf s.tim.ctl 26 = false ∨ bitOf s.tim.ctl 25 ≠ falling) :
    exec (.ppsCapture falling) s = .next (s.ppsSampled falling) := by
  have hskip : (!bitOf s.tim.ctl 26 || bitOf s.tim.ctl 25 != falling) = true := by simpa using h
  exact congrArg Host.Outcome.next (if_pos hskip)

end Sys2Proof.Machine
end

section
/-! The pulse outputs (R346, R347). -/

namespace Sys2Proof.Machine

/-- `t` is `s` with pulse output `n` and its pin changed to what `y` gives, and the W1C bits `ws` set in this beat. -/
def PulseSet (n : Fin 2) (ws : List Nat) (y : Pulse) (s t : State) : Prop :=
  { t with tim := s.tim, pins := s.pins, w1Sets := s.w1Sets } = s ∧ t.w1Sets = ws ∧ { t.tim with pulses := s.tim.pulses } = s.tim ∧
    t.pulse n.val = y ∧ (∀ m, m ≠ n.val → t.pulse m = s.pulse m) ∧
    t.pins = if n = 0 then { s.pins with pulse0 := y.level } else { s.pins with pulse1 := y.level }

theorem pulseSet_setPulse (s : State) (n : Fin 2) (ws : List Nat) (y : Pulse) :
    PulseSet n ws y s (({ s with w1Sets := ws } : State).setPulse n.val y) := by
  refine ⟨rfl, rfl, rfl, SMap.get_set_same .., fun m hm => SMap.get_set_ne _ _ _ hm, ?pins⟩
  case pins => simp only [State.setPulse, State.modPins, State.modTim, Fin.val_eq_zero_iff]

section
variable {s : State} {n : Fin 2}

/-! Setting ENABLE -/

theorem timePulseEnable_eq (s : State) (n : Fin 2) : exec (.timePulseEnable n) s = .next
    (if bitOf (s.pulse n.val).ctl 31 then s
      else if s.pulseOk (s.pulse n.val) then s.setPulse n.val
        { s.pulse n.val with ctl := putFld (s.pulse n.val).ctl 31 31 1, edge := timeOf (s.pulse n.val).start }
      else { s with tim := { s.tim with reason := 0x0410 } }) := by
  change execTimePulseEnable n s = _
  rw [execTimePulseEnable, State.enablePulse, apply_ite Prod.fst, apply_ite Prod.fst]
  rfl

/-- The conditions of R346 on a pulse that is to be enabled. -/
def State.PulseTimely (s : State) (x : Pulse) : Prop := s.tim.valid = true ∧ 8 ≤ x.width.toNat ∧
  (x.period = 0#32 ∨ (x.width.toNat + 8 ≤ x.period.toNat ∧ 100 ≤ x.period.toNat)) ∧ 1000 ≤ (timeOf x.start).diff s.tim.now

theorem pulseOk_iff (s : State) (x : Pulse) : s.pulseOk x = true ↔ s.PulseTimely x := by
  have hperiod : x.period = 0#32 ↔ x.period.toNat = 0 := BitVec.toNat_eq
  simp [State.pulseOk, State.PulseTimely, hperiod, and_assoc]

theorem timePulseEnable_of_ok (hoff : bitOf (s.pulse n.val).ctl 31 = false) (hok : s.PulseTimely (s.pulse n.val)) :
    Completes (.timePulseEnable n) s (PulseSet n s.w1Sets
      { s.pulse n.val with ctl := putFld (s.pulse n.val).ctl 31 31 1, edge := timeOf (s.pulse n.val).start } s) := by
  refine ⟨_, (timePulseEnable_eq s n).trans ?_, pulseSet_setPulse ..⟩
  rw [hoff, (pulseOk_iff s _).2 hok]
  rfl

theorem timePulseEnable_of_invalid (hoff : bitOf (s.pulse n.val).ctl 31 = false) (hbad : ¬ s.PulseTimely (s.pulse n.val)) :
    exec (.timePulseEnable n) s = .next { s with tim := { s.tim with reason := 0x0410 } } := by
  rw [timePulseEnable_eq, hoff, if_neg Bool.false_ne_true, if_neg (mt (pulseOk_iff s _).1 hbad)]

/-! The edge -/

theorem pulseEdge_eq_self (h : bitOf (s.pulse n.val).ctl 31 = false ∨ s.tim.now.reached (s.pulse n.val).edge = false ∨
    (s.tim.moved = true ∧ s.tim.now.passed (s.pulse n.val).edge = true)) : exec (.pulseEdge n) s = .next s := by
  have hwait : (!bitOf (s.pulse n.val).ctl 31 || !s.tim.now.reached (s.pulse n.val).edge ||
      (s.tim.moved && s.tim.now.passed (s.pulse n.val).edge)) = true := by simpa [or_assoc] using h
  exact congrArg Host.Outcome.next (if_pos hwait)

/-- The output once its edge has come: a pulse is in progress, and one without a period is disabled (R346, R347). -/
def Pulse.fired (x : Pulse) (now : TimeWord) : Pulse :=
  let y := { x with active := some ((if 2 < now.diff x.edge then now else x.edge).addNs x.width.toNat) }
  let ctl := putFld x.ctl 29 29 1
  if x.period = 0#32 then { y with ctl := putFld ctl 31 31 0 } else { y with ctl := ctl, edge := y.nextEdge now }

theorem pulseEdge_of_due (hen : bitOf (s.pulse n.val).ctl 31 = true) (hreached : s.tim.now.reached (s.pulse n.val).edge = true)
    (hheld : ¬ (s.tim.moved = true ∧ s.tim.now.passed (s.pulse n.val).edge = true)) :
    Completes (.pulseEdge n) s
      (PulseSet n (w1Key 6 (0x80 + 0x20 * n.val) 29 :: s.w1Sets) ((s.pulse n.val).fired s.tim.now) s) := by
  have hgo : ¬ (!bitOf (s.pulse n.val).ctl 31 || !s.tim.now.reached (s.pulse n.val).edge ||
      (s.tim.moved && s.tim.now.passed (s.pulse n.val).edge)) = true := by simpa [hen, hreached] using hheld
  refine ⟨_, (congrArg Host.Outcome.next (if_neg hgo)).trans ?_, pulseSet_setPulse ..⟩
  rw [Pulse.fired, apply_ite (State.setPulse _ n.val)]
  rfl

theorem fired_of_once {x : Pulse} (now : TimeWord) (h : x.period = 0#32) : x.fired now = { x with
    active := some ((if 2 < now.diff x.edge then now else x.edge).addNs x.width.toNat)
    ctl := putFld (putFld x.ctl 29 29 1) 31 31 0 } := if_pos h

/-- The next edge of a periodic output lies on the grid of its edges (R346). -/
theorem fired_of_periodic {x : Pulse} (now : TimeWord) (h : x.period ≠ 0#32) : ∃ k : Nat, x.fired now = { x with
    active := some ((if 2 < now.diff x.edge then now else x.edge).addNs x.width.toNat)
    ctl := putFld x.ctl 29 29 1
    edge := (timeOf x.start).addNs (k * x.period.toNat : Nat) } := ⟨_, if_neg h⟩

/-! The end -/

theorem pulseEnd_of_none (h : (s.pulse n.val).active = none) : exec (.pulseEnd n) s = .next s := by
  change execPulseEnd n s = _
  rw [execPulseEnd, h]

theorem pulseEnd_of_some {e : TimeWord} (h : (s.pulse n.val).active = some e) : exec (.pulseEnd n) s = .next
    (if s.tim.now.reached e then s.setPulse n.val { s.pulse n.val with active := none } else s) := by
  change execPulseEnd n s = _
  rw [execPulseEnd, h]

end

/-- Settles O28: the counter's commands by SERVO and the queue's room, a pulse output by its conditions, its edge and its end. -/
theorem timeUnit : Obligations.TimeUnit := by
  refine ⟨fun s tag => ⟨?free, ?servo, rfl, ?queued, txStamp_of_full, ⟨?received, rxStamp_of_servo⟩, ?pps⟩, fun s n => ?pulse⟩
  case free => exact fun h => ⟨load_of_free h, apply_of_free h⟩
  case servo => exact fun h => ⟨load_of_servo h, apply_of_servo h⟩
  case queued => exact fun h => ⟨s.txWord tag, fld_txWord_tag s tag, fld_txWord_time, txWord_of_correct, txStamp_of_room h⟩
  case received => exact fun h => (rxStamp_eq s tag).trans (by rw [h]; rfl)
  case pps => exact fun falling => ⟨ppsCapture_of_selected, ppsCapture_of_unselected⟩
  case pulse =>
    refine ⟨?on, ?enable, ?refuse, pulseEdge_eq_self, fun hen hreached hheld => ⟨?once, ?periodic⟩, ?ends, ?goesOn, pulseEnd_of_none⟩
    case on => exact fun hen => (timePulseEnable_eq s n).trans (by rw [if_pos hen])
    case enable => exact timePulseEnable_of_ok
    case refuse => exact timePulseEnable_of_invalid
    case once => exact fun hperiod => fired_of_once _ hperiod ▸ pulseEdge_of_due hen hreached hheld
    case periodic =>
      intro hperiod
      obtain ⟨k, hfired⟩ := fired_of_periodic s.tim.now hperiod
      obtain ⟨t, hexec, ht⟩ := pulseEdge_of_due hen hreached hheld
      exact ⟨t, hexec, _, hfired ▸ ht, k, rfl⟩
    case ends =>
      exact fun e he hreached => ⟨_, (pulseEnd_of_some he).trans (by rw [if_pos hreached]), pulseSet_setPulse ..⟩
    case goesOn =>
      exact fun e he hreached => (pulseEnd_of_some he).trans (by rw [hreached]; rfl)

end Sys2Proof.Machine
end
